-- ==== Sys2Proof/Word.lean ====
section
/-! DEFINITION. The plain word types of the block: bytes, capability sets and 32-bit ids. -/

namespace Sys2Proof

/-- One byte of a frame (chapter 13). -/
abbrev Byte := BitVec 8

/-- A capability set: capability i is held in bit i (chapter 13). -/
abbrev Caps := BitVec 16

/-- A 32-bit opaque organiser or badge id (03 section 3.1, chapter 13). -/
abbrev Id32 := BitVec 32

end Sys2Proof
end

