-- ==== Sys2Proof/Config.lean ====
section
/-! DEFINITION. The fixed sizes and limits of the WB4120. The manual leaves no result undefined, so there is no
free value and no opaque constant here (INVENTORY, "What the manual leaves open"). -/

namespace Sys2Proof.Config

/-- Blocks of the Record Store (02 section 2.1). -/
def blocks : Nat := 16384

/-- The reserve (02 section 2.1). -/
def reserve : Nat := 64

/-- The low-water mark of the free count (R22). -/
def lowWater : Nat := 512

/-- Directory entries (02 section 2.3). -/
def handles : Nat := 8192

/-- Rooms, kitchens, buildings, panels and ports (chapter 1, 07 section 7.1). -/
def rooms : Nat := 512
def kitchens : Nat := 8
def buildings : Nat := 64
def panels : Nat := 128
def ports : Nat := 4

/-- Series ids (R56). -/
def seriesIds : Nat := 1024

/-- Timer channels (R86). -/
def channels : Nat := 256

/-- Minutes of a day (00_scope, "Campus time"). -/
def dayMinutes : Nat := 1440

/-- The largest campus minute (01 section 1.6). -/
def maxMinute : Nat := 3999999999

/-- How far ahead a start or a closure may lie, in minutes: 180 days (R37, R57, R156). -/
def ahead : Nat := 259200

/-- Days the series horizon reaches beyond today (R58, R61). -/
def seriesHorizon : Nat := 28

/-- Day rows of the kitchen load table (09 section 9.2). -/
def dayRows : Nat := 14

/-- Dispatch windows of a day and their length (00_scope, "Dispatch windows"). -/
def windows : Nat := 96
def windowMinutes : Nat := 15

/-- The setup time in minutes (09 section 9.3). -/
def setup : Nat := 5

/-- Places of the request queue and of the answer queue (R169, R171). -/
def linkPlaces : Nat := 8

/-- Body bytes a request frame may carry (R169). -/
def bodyMax : Nat := 240

/-- General places of the placement queue (R70). -/
def generalPlaces : Nat := 3

/-- The highest remaining time of a channel, in seconds (R86). -/
def maxRemaining : Nat := 86400

/-- since_poll and since_view stop here (07 section 7.1). -/
def maxSince : Nat := 65535

/-- since_view at which a deferred view is built (R120). -/
def deferSeconds : Nat := 900

end Sys2Proof.Config
end

