-- ==== Sys2Proof/Syntax.lean ====
section
/-! DEFINITION. The commands of the block: one constructor for each row of spec/opcode_table.json, in the table's
order, with the fields its rule gives it. A name of a list that the rules let be malformed is carried as its code
(R188), so that a command can hold what the rules refuse. -/

namespace Sys2Proof

/-- A booking handle: index and generation (00_scope, "Handles, indexes and sets"). -/
structure Handle where
  idx : Nat
  gen : Nat
deriving DecidableEq, Repr

/-- One line of an order: item class 0-31 and quantity 1-255 (09 section 9.1). -/
structure Line where
  item : Nat
  qty : Nat
deriving DecidableEq, Repr

/-- The covers and lines of an order or a catering template (09 section 9.1). -/
structure OrderForm where
  covers : Nat
  lines : List Line
deriving DecidableEq, Repr

/-- What a panel is bound as (07 section 7.1). -/
inductive PanelKind where
  | room
  | kitchen
deriving DecidableEq, Repr

/-- The panel a request came from, as R113 names it: its index, its kind and its binding. -/
structure PanelRef where
  panel : Nat
  kind : PanelKind
  target : Nat
deriving DecidableEq, Repr

/-- The start and the end or length of a host request (R37), as given. -/
structure SpanForm where
  startMin : Nat
  endMin : Option Nat
  length : Option Nat
deriving DecidableEq, Repr

/-- SET_ROOM (R2, R3): each field present or absent. -/
structure RoomForm where
  room : Nat
  building : Option Nat
  floor : Option Int
  seats : Option Nat
  caps : Option Caps
  turnover : Option Nat
  policy : Option Nat
  who : Option Nat
  earlyOpen : Option Nat
  grace : Option Nat
  absenceLimit : Option Nat
  autoCheckin : Option Bool
deriving DecidableEq, Repr

/-- SET_KITCHEN (R6): the reach row as carried, FFh being NOT_SERVED. -/
structure KitchenForm where
  kitchen : Nat
  reach : List Nat
  lead : Nat
  spill : Nat
deriving DecidableEq, Repr

/-- SET_WEIGHTS (R10). -/
structure Weights where
  wF : Nat
  wD : Nat
  wW : Nat
  wR : Nat
deriving DecidableEq, Repr

/-- SET_POLICY (R11). -/
structure PolicyForm where
  turnover : Nat
  policy : Nat
  who : Nat
  earlyOpen : Nat
  grace : Nat
  absenceLimit : Nat
  threshold : Nat
deriving DecidableEq, Repr

/-- BOOK (03 section 3.4). -/
structure BookForm where
  room : Nat
  span : SpanForm
  headCount : Nat
  organiser : Id32
  origin : Nat
  needs : Caps
  wants : Caps
  override : Option Nat
  note : Option (List Byte)
  order : Option OrderForm
deriving DecidableEq, Repr

/-- AMEND (03 section 3.5). -/
structure AmendForm where
  handle : Handle
  startMin : Option Nat
  endMin : Option Nat
  length : Option Nat
  room : Option Nat
  headCount : Option Nat
  note : Option (List Byte)
  dropCatering : Bool
deriving DecidableEq, Repr

/-- CREATE_SERIES (04 section 4.2). -/
structure SeriesForm where
  room : Nat
  firstStart : Nat
  length : Nat
  period : Nat
  count : Nat
  headCount : Nat
  organiser : Id32
  threshold : Option Nat
  template : Option OrderForm
  note : Option (List Byte)
deriving DecidableEq, Repr

/-- PLACE (05 section 5.5). -/
structure PlaceForm where
  headCount : Nat
  needs : Caps
  wants : Caps
  origin : Nat
  dmax : Nat
  span : SpanForm
  covers : Option Nat
  relax : Bool
deriving DecidableEq, Repr

/-- The fields PLACE_AND_BOOK carries beside those of PLACE (05 section 5.6). -/
structure PlaceBookForm where
  place : PlaceForm
  organiser : Id32
  override : Option Nat
  note : Option (List Byte)
  order : Option OrderForm
deriving DecidableEq, Repr

/-- CLOSE_ROOM (10 section 10.3): the mode as its code, RELOCATE 0 and DISPLACE 1. -/
structure CloseForm where
  room : Nat
  fromMin : Nat
  toMin : Nat
  mode : Nat
deriving DecidableEq, Repr

/-- SET_NOTICE_ENABLES (R176): the master enable and one enable for each flag of 11 section 11.5. -/
structure Enables where
  changed : Bool
  series : Bool
  panel : Bool
  catering : Bool
  store : Bool
  clock : Bool
deriving DecidableEq, Repr

/-- The commands. A host request carries its tag; a panel request carries the panel it came from. -/
inductive Instr where
  | powerOnReset
  | warmReset
  | retentionLoss
  /-- The operand is the time in milliseconds since the last counted divider tick (R16, log 10). -/
  | secEdge (sinceTick : Nat)
  | dividerTick
  | enterHoldover
  | minuteEvent
  | secondEvent
  | windowExpiry (channel : Nat)
  | absenceExpiry (channel : Nat)
  | startsAndEnds
  | windowOpening
  | commit
  | closureTimes
  | retirementWalk
  | retirementWalkStep
  | seriesPassStep
  | materialisationWalk
  | materialisationWalkStep
  | planningWalk
  | planningWalkStep
  | cancelPassStep
  | status
  /-- The transfer command byte, absent when no byte was shifted in (R168). -/
  | otherTransferCommand (code : Option Byte)
  /-- The bytes received after the transfer command (R169). -/
  | send (bytes : List Byte)
  /-- How many bytes the host shifts out after the link status (R171). -/
  | fetch (count : Nat)
  | linkReset
  | takeRequestFrame
  | setTime (tag : Byte) (minute second : Nat)
  | start (tag : Byte)
  | trimTime (tag : Byte) (minutes : Int)
  | readTime (tag : Byte)
  | readRetention (tag : Byte)
  | setDistances (tag : Byte) (origin : Nat) (row : List Nat)
  | setRoom (tag : Byte) (form : RoomForm)
  | removeRoom (tag : Byte) (room : Nat)
  | readRoom (tag : Byte) (room : Nat)
  | setKitchen (tag : Byte) (form : KitchenForm)
  | setKitchenProfile (tag : Byte) (kitchen : Nat) (profile : List Nat)
  | removeKitchen (tag : Byte) (kitchen : Nat)
  | readKitchen (tag : Byte) (kitchen : Nat)
  | setWeights (tag : Byte) (weights : Weights)
  | setPolicy (tag : Byte) (form : PolicyForm)
  | readStore (tag : Byte)
  | book (tag : Byte) (form : BookForm)
  | amend (tag : Byte) (form : AmendForm)
  | cancel (tag : Byte) (handle : Handle)
  | readBooking (tag : Byte) (handle : Handle)
  | listRoom (tag : Byte) (room : Nat) (fromMin : Option Nat) (count : Option Nat)
  | createSeries (tag : Byte) (form : SeriesForm)
  | endSeries (tag : Byte) (id : Nat)
  | resumeSeries (tag : Byte) (id : Nat)
  | readSeries (tag : Byte) (id : Nat)
  | place (tag : Byte) (form : PlaceForm)
  | placeAndBook (tag : Byte) (form : PlaceBookForm)
  | readPlacement (tag : Byte)
  | readTimers (tag : Byte)
  /-- The kind as its code, ROOM 0 and KITCHEN 1 (R103, R188). -/
  | bindPanel (tag : Byte) (panel kind target : Nat)
  | unbind (tag : Byte) (panel : Nat)
  | bar (tag : Byte) (panel : Nat)
  | unbar (tag : Byte) (panel : Nat)
  | setPoll (tag : Byte) (panel exponent : Nat)
  | readPanel (tag : Byte) (panel : Nat)
  | order (tag : Byte) (handle : Handle) (form : OrderForm)
  | changeOrder (tag : Byte) (handle : Handle) (form : OrderForm)
  | voidOrder (tag : Byte) (handle : Handle)
  | readLoad (tag : Byte) (kitchen day window : Nat) (count : Option Nat)
  | closeRoom (tag : Byte) (form : CloseForm)
  | reopenRoom (tag : Byte) (room : Nat)
  | readSweep (tag : Byte)
  | setNoticeEnables (tag : Byte) (master : Bool) (enables : Enables)
  | readNotices (tag : Byte)
  /-- The category as its code, BOOKING 0, SERIES 1, PANEL 2 (R178, R188). -/
  | nextChanged (tag : Byte) (category : Nat)
  | readCounts (tag : Byte)
  | searchTake
  | placementWalkStep
  | placeCompletion
  | placeAndBookCompletion
  | findNearbyCompletion
  | sweepSearchCompletion
  /-- The panel and the search its slot named (R82, R114). -/
  | withdrawal (panel search : Nat)
  | sweepStep
  | sweepReport
  | panelSecond
  | deferredViewBuild (panel : Nat)
  | poll (port : Nat)
  /-- A frame received on a port while its POLL is unanswered, every byte with its check (R189). -/
  | reply (port : Nat) (frame : List Byte)
  | followUpReply (port : Nat) (frame : List Byte)
  | replyTimeout (port : Nat)
  | frameDiscarded (port : Nat) (frame : List Byte)
  | holdTakesEffect (panel : Nat)
  | viewBuild (room : Nat)
  | listBuild (kitchen : Nat)
  | checkIn (src : PanelRef) (badge : Id32) (handle : Option Handle)
  | occupancyReading (room : Nat) (occupied : Bool) (seconds : Nat)
  | panelUnavailable (room : Nat)
  | panelAvailable (room : Nat)
  | walkUp (src : PanelRef) (wanted : Nat) (badge : Id32)
  | extend (src : PanelRef) (ask : Nat) (handle : Option Handle)
  | endNow (src : PanelRef) (handle : Option Handle)
  | findNearby (src : PanelRef)
  | out (src : PanelRef) (handle : Option Handle)
  | handed (src : PanelRef) (handle : Option Handle)
  | discard (src : PanelRef) (handle : Option Handle)
  | received (src : PanelRef) (handle : Option Handle)
  | catchUpCommitStep
  | catchUpClosureStep
  | catchUpBookingStep
  | catchUpDays
deriving DecidableEq, Repr

end Sys2Proof
end

