-- ==== Sys2Proof/Machine/State.lean ====
section
/-! DEFINITION. The state of the WB4120 as plain data, and its power-on reset values. Fixed tables (rooms, entries,
panels, channels, ...) are lists of a fixed length; `State.shaped` (Safety.lean) says so. -/

namespace Sys2Proof.Machine

/-- The statuses, in the order of their codes (13 section 13.1). -/
inductive Status where
  | ok | conflict | noSuch | stale | noRoom | noSpace | badField | badState | wait | busy | cateringFull | tooLate
  | tooEarly | notStarted | already | notOrganiser | noTime | closed | notAllowed
deriving DecidableEq, Repr

/-- The record kinds a block is held under (R19). -/
inductive BlockKind where
  | head | note | order | series
deriving DecidableEq, Repr

/-! ### Contents of answers and frames -/

/-- One field of an answer, a result or a frame, in the encodings of R188: a number of `width` bytes or absent, a
signed number of `width` bytes, a handle or absent, a text preceded by its length, and plain bytes. -/
inductive Field where
  | num (width : Nat) (value : Option Nat)
  | signed (width : Nat) (value : Int)
  | handle (value : Option Handle)
  | text (chars : List Byte)
  | bytes (content : List Byte)
deriving DecidableEq, Repr

/-- A completed answer (11 section 11.3). -/
structure Answer where
  tag : Byte
  kind : Nat
  status : Status
  body : List Field
deriving DecidableEq, Repr

/-- A result for a panel (13 section 13.2, "Result block"). -/
structure PanelResult where
  code : Nat
  status : Status
  payload : List Field
deriving DecidableEq, Repr

/-- The host request an answer belongs to: its tag and kind, and the dropped mark of R172. -/
structure HostRef where
  tag : Byte
  kind : Nat
  dropped : Bool
deriving DecidableEq, Repr

/-! ### Campus Clock -/

inductive ClockState where
  | stopped | running | holdover
deriving DecidableEq, Repr

/-- A minute counted during the catch-up walk whose events wait, with its day event if it has one (R14, R15). -/
structure HeldMinute where
  minute : Nat
  day : Option Nat
deriving DecidableEq, Repr

/-- 01 section 1.6. The run state is `State.running`. -/
structure Clock where
  minute : Nat
  second : Nat
  state : ClockState
  timeSet : Bool
  timeFloor : Nat
  dayRaised : Option Nat
  watch : Nat
  held : List HeldMinute
deriving DecidableEq, Repr

/-- Events that the clock has raised and a block has still to take (log 6). -/
structure Owed where
  seconds : Nat
  starts : List Nat
  openings : List Nat
  commits : List Nat
  closures : List Nat
  retirements : List Nat
  materialisations : List Nat
  plannings : List Nat
deriving DecidableEq, Repr

/-! ### Campus Tables -/

inductive CheckinPolicy where
  | required | exempt
deriving DecidableEq, Repr

inductive CheckinWho where
  | anyone | organiser
deriving DecidableEq, Repr

inductive ServiceState where
  | inService | closing | closed
deriving DecidableEq, Repr

inductive ClosureMode where
  | relocate | displace
deriving DecidableEq, Repr

/-- 10 section 10.1. -/
structure Closure where
  fromMin : Nat
  toMin : Nat
  mode : ClosureMode
  swept : Bool
deriving DecidableEq, Repr

/-- 01 section 1.2. -/
structure Room where
  inTable : Bool
  building : Nat
  floor : Int
  seats : Nat
  caps : Caps
  turnover : Nat
  policy : CheckinPolicy
  who : CheckinWho
  earlyOpen : Nat
  grace : Nat
  absenceLimit : Nat
  autoCheckin : Bool
  service : ServiceState
  closure : Option Closure
  panel : Option Nat
  noShow : Nat
  timeline : List Handle
deriving DecidableEq, Repr

/-- 01 section 1.3. A reach entry of `none` is NOT_SERVED. -/
structure Kitchen where
  inTable : Bool
  reach : List (Option Nat)
  profile : List Nat
  lead : Nat
  spill : Nat
  terminals : List Nat
  dispatch : List Handle
  listSeq : Nat
deriving DecidableEq, Repr

/-- The policy record (R11). -/
structure Policy where
  turnover : Nat
  policy : CheckinPolicy
  who : CheckinWho
  earlyOpen : Nat
  grace : Nat
  absenceLimit : Nat
  threshold : Nat
deriving DecidableEq, Repr

/-! ### Records: bookings, orders, series -/

inductive BookingState where
  | booked | awaiting | inUse | ended | endedEarly | released | cancelled | displaced
deriving DecidableEq, Repr

inductive Attendance where
  | none_ | checked | noShow | unknown
deriving DecidableEq, Repr

inductive Source where
  | host | walkup | series
deriving DecidableEq, Repr

inductive OrderState where
  | requested | planned | unplaced | committed | dispatched | delivered | stranded | discarded | voided
deriving DecidableEq, Repr

/-- An absolute window: a day and a window number (00_scope, "Dispatch windows"). -/
structure AbsWindow where
  day : Nat
  win : Nat
deriving DecidableEq, Repr

/-- 09 section 9.1. The order stands in its booking's record, whose handle is its booking field. -/
structure Order where
  block : Nat
  covers : Nat
  lines : List Line
  state : OrderState
  kitchen : Option Nat
  window : Option AbsWindow
  ready : Option Nat
  commit : Option Nat
deriving DecidableEq, Repr

/-- A note and the note block that holds it (02 section 2.2). -/
structure Note where
  block : Nat
  text : List Byte
deriving DecidableEq, Repr

/-- 03 section 3.1, with the number of the head block. -/
structure Booking where
  handle : Handle
  head : Nat
  room : Nat
  startMin : Nat
  endMin : Nat
  headCount : Nat
  organiser : Id32
  origin : Nat
  needs : Caps
  wants : Caps
  checkin : CheckinPolicy
  state : BookingState
  attendance : Attendance
  source : Source
  series : Option Nat
  order : Option Order
  note : Option Note
  mark : Bool
  timer : Option Nat
deriving DecidableEq, Repr

inductive SeriesState where
  | active | suspended | finished
deriving DecidableEq, Repr

/-- 04 section 4.1, with the number of the series block. The id is the record's place in the series list. -/
structure Series where
  block : Nat
  note : Option Note
  room : Nat
  firstStart : Nat
  length : Nat
  period : Nat
  count : Nat
  headCount : Nat
  organiser : Id32
  template : Option OrderForm
  nextStart : Nat
  state : SeriesState
  noShows : Nat
  threshold : Nat
  skipCount : Nat
  mark : Bool
  passOwed : Bool
deriving DecidableEq, Repr

/-! ### Record Store and Booking Directory -/

/-- Where the retirement walk stands: the entry or the series id it visits next (R29 to R31). -/
inductive WalkPos where
  | entry (n : Nat)
  | series (n : Nat)
deriving DecidableEq, Repr

structure RetirementWalk where
  day : Nat
  pos : WalkPos
deriving DecidableEq, Repr

/-- 02 sections 2.1 and 2.4. -/
structure Store where
  free : List Nat
  freeCount : Nat
  heldHead : Nat
  heldNote : Nat
  heldOrder : Nat
  heldSeries : Nat
  walk : Option RetirementWalk
  pendingDay : Option Nat
  lastDay : Option Nat
deriving DecidableEq, Repr

/-- 02 section 2.3. The entry is live when it leads to a booking. -/
structure DirEntry where
  generation : Nat
  booking : Option Booking
deriving DecidableEq, Repr

structure Directory where
  entries : List DirEntry
  fifo : List Nat
  refs : List Nat
deriving DecidableEq, Repr

/-! ### Series Unit -/

/-- A materialisation walk: its day D and the id it visits next (04 section 4.4). -/
structure SeriesWalk where
  day : Nat
  id : Nat
deriving DecidableEq, Repr

/-- A running cancel pass: its series and the entry it visits next (R64). -/
structure CancelPass where
  series : Nat
  entry : Nat
deriving DecidableEq, Repr

structure SeriesUnit where
  list : List (Option Series)
  walk : Option SeriesWalk
  pendingDay : Option Nat
  lastDay : Option Nat
  passQueue : List Nat
  pass : Option CancelPass
deriving DecidableEq, Repr

/-! ### Placement Unit -/

inductive SearchKind where
  | place | placeAndBook | findNearby | sweep
deriving DecidableEq, Repr

/-- The client of a queue entry (05 section 5.1). -/
inductive Client where
  | host (ref : HostRef)
  | panel (index : Nat)
  | booking (handle : Handle)
deriving DecidableEq, Repr

/-- 05 section 5.1: none, a trial of covers, or a fixed kitchen. -/
inductive CateringForm where
  | none_
  | trial (covers : Nat)
  | fixed (kitchen : Nat)
deriving DecidableEq, Repr

/-- The booking fields of PLACE_AND_BOOK (R80). -/
structure BookFields where
  organiser : Id32
  override : Option CheckinPolicy
  note : List Byte
  order : Option OrderForm
deriving DecidableEq, Repr

/-- The inputs of a search (05 section 5.1), with the start as given (R80 step 2) and the rounding and clamp marks
that its answer reports (R78). -/
structure SearchInputs where
  headCount : Nat
  needs : Caps
  wants : Caps
  origin : Nat
  dmax : Nat
  dmaxClamped : Bool
  startMin : Nat
  endMin : Nat
  startGiven : Nat
  startRounded : Bool
  endRounded : Bool
  catering : CateringForm
  relax : Bool
  book : Option BookFields
deriving DecidableEq, Repr

/-- A queue entry; a SWEEP entry holds the reserved place and the others a general one (R70). -/
structure QueueEntry where
  id : Nat
  kind : SearchKind
  client : Client
  inputs : SearchInputs
  isRunning : Bool
deriving DecidableEq, Repr

/-- An entry of the candidate list (R76). -/
structure Candidate where
  room : Nat
  building : Nat
  seats : Nat
  score : Nat
  fit : Nat
  dist : Nat
  miss : Nat
  reach : Nat
  kitchen : Option Nat
  window : Option AbsWindow
  tight : Option Bool
  freeUntil : Option Nat
deriving DecidableEq, Repr

/-- The search engine while SEARCHING (05 section 5.1); `complete` is set when the search has completed (R74) and its
completion step is still to come. -/
structure Search where
  request : Nat
  weights : Weights
  row : List Nat
  level : Nat
  needs : Caps
  wants : Caps
  dropped : List Nat
  cursor : Nat
  candidates : List Candidate
  eligible : Nat
  rejects : List Nat
  complete : Bool
deriving DecidableEq, Repr

/-- The reasons of R72, by test. -/
inductive Reason where
  | service | needs | seats | distance | span | catering
deriving DecidableEq, Repr

structure Placement where
  queue : List QueueEntry
  search : Option Search
  nextId : Nat
deriving DecidableEq, Repr

/-! ### Attendance Timer Bank -/

inductive ChannelState where
  | free | running | paused | suspended
deriving DecidableEq, Repr

inductive ChannelMode where
  | window | watch
deriving DecidableEq, Repr

/-- R86. -/
structure Channel where
  state : ChannelState
  mode : ChannelMode
  booking : Option Handle
  remaining : Nat
deriving DecidableEq, Repr

structure Bank where
  channels : List Channel
  timerCount : Nat
deriving DecidableEq, Repr

/-! ### Panel Bus Controller -/

inductive Liveness where
  | unbound | bound | online | late | lost | barred
deriving DecidableEq, Repr

inductive HoldKind where
  | bar | unbind
deriving DecidableEq, Repr

/-- A hold and the host request that waits for it (R104, R105). -/
structure Hold where
  kind : HoldKind
  ref : HostRef
deriving DecidableEq, Repr

inductive PowerClass where
  | normal | saving | critical
deriving DecidableEq, Repr

/-- An entry of a view (R116). -/
structure ViewEntry where
  handle : Handle
  startMin : Nat
  endMin : Nat
  state : BookingState
  note : List Byte
deriving DecidableEq, Repr

/-- R116. -/
structure View where
  service : ServiceState
  closure : Option Closure
  current : Option ViewEntry
  following : List ViewEntry
  freeUntil : Option Nat
deriving DecidableEq, Repr

/-- An entry of a kitchen list (R144). -/
structure ListEntry where
  handle : Handle
  room : Nat
  building : Nat
  ready : Option Nat
  covers : Nat
  lines : List Line
  state : OrderState
deriving DecidableEq, Repr

/-- The content of a panel's slot: a view or a list (07 section 7.1). -/
inductive Content where
  | view (v : View)
  | list (entries : List ListEntry)
deriving DecidableEq, Repr

/-- R114: EMPTY, PENDING naming a search, or one result. -/
inductive ResultSlot where
  | empty
  | pending (search : Nat)
  | result (r : PanelResult)
deriving DecidableEq, Repr

/-- 07 section 7.1. A slot of `none` is invalid and an ackedSeq of `none` is UNKNOWN. `viewForced` is the model's own
(log 60): a REPLY to a POLL found ackedSeq UNKNOWN, and the view it forces to be sent (R112, R117) has had no REPLY yet. -/
structure Panel where
  kind : Option PanelKind
  boundTo : Option Nat
  state : Liveness
  hold : Option Hold
  pollExp : Nat
  misses : Nat
  sincePoll : Nat
  battery : Nat
  power : PowerClass
  viewSeq : Nat
  ackedSeq : Option Nat
  viewForced : Bool
  active : Option Content
  staging : Option Content
  viewDeferred : Bool
  sinceView : Nat
  slot : ResultSlot
  mark : Bool
  missed : Nat
deriving DecidableEq, Repr

inductive PortPhase where
  | idle | polling | serving | following
deriving DecidableEq, Repr

/-- A port record (07 section 7.1): its phase, the panel of the transaction, whether the frame in flight carried a
result (R110 step 1), whether the request being served came in the REPLY to the follow-up, so that no second one follows
(R111), and the bytes of the last frame sent on the port (13 section 13.2). -/
structure Port where
  phase : PortPhase
  panel : Nat
  carried : Bool
  followed : Bool
  sent : List Byte
deriving DecidableEq, Repr

structure PanelBus where
  panels : List Panel
  ports : List Port
  viewReports : List Nat
  listReports : List Nat
deriving DecidableEq, Repr

/-! ### Catering Scheduler -/

/-- A planning walk: its day D and its added days (R151). -/
structure PlanningWalk where
  day : Nat
  added : List Nat
deriving DecidableEq, Repr

/-- 09. `loads` holds for each kitchen its 14 day rows in ascending day; row i stands for day `horizon + i`. -/
structure Catering where
  horizon : Option Nat
  loads : List (List (List Nat))
  walk : Option PlanningWalk
  pendingDay : Option Nat
  lastDay : Option Nat
  requestList : List Handle
  commitQueue : List Handle
deriving DecidableEq, Repr

/-! ### Closure Sweep Unit -/

inductive SweepOrigin where
  | host (ref : HostRef)
  | resumed
deriving DecidableEq, Repr

inductive SweepPhase where
  | deciding | searching
deriving DecidableEq, Repr

/-- What the Placement Unit reports to the sweep (R83, R159). No room comes with the reason of each candidate that failed
its recheck, in rank order. A refusal carries the state the engine found, absent when the lookup failed, and whether the
booking still stood in the closing room. -/
inductive SweepReport where
  | moved (room : Nat)
  | noRoom (reasons : List Reason)
  | refused (found : Option BookingState) (onRoom : Bool)
deriving DecidableEq, Repr

/-- 10 section 10.2. -/
structure Sweep where
  sweeping : Bool
  room : Nat
  origin : SweepOrigin
  current : Option (Handle × SweepPhase)
  relocated : Nat
  displaced : Nat
  left : Nat
  clamp : Option Handle
  report : Option SweepReport
deriving DecidableEq, Repr

/-! ### Host Link -/

/-- A frame of the request queue (R169). -/
structure Frame where
  tag : Byte
  kind : Nat
  body : List Byte
  malformed : Bool
deriving DecidableEq, Repr

/-- A request passed to its owner and not yet taken by it (R170): the command that takes it, and the request. -/
structure Passed where
  ref : HostRef
  cmd : Instr
deriving DecidableEq, Repr

/-- 11 sections 11.1 to 11.3. `reserved` holds the tag and kind of each reserved place; `miso` is the output of the last
transfer. -/
structure Link where
  requests : List Frame
  reserved : List (Byte × Nat)
  filled : List Answer
  passed : List Passed
  fullSeen : Bool
  miso : List Byte
deriving DecidableEq, Repr

/-! ### Notice Unit -/

/-- A mark-kind flag and its read state (11 section 11.5). -/
structure MarkFlag where
  isSet : Bool
  read : Bool
deriving DecidableEq, Repr

structure Notice where
  changed : MarkFlag
  series : MarkFlag
  panel : MarkFlag
  catering : MarkFlag
  store : Bool
  clock : Bool
  enables : Enables
  master : Bool
deriving DecidableEq, Repr

/-! ### Retention and warm start -/

inductive Retention where
  | good | lost
deriving DecidableEq, Repr

inductive Stage where
  | commits | closures | bookings | days
deriving DecidableEq, Repr

/-- The day walks the DAYS stage runs (R186). -/
inductive DayWalk where
  | retirement | materialisation | planning
deriving DecidableEq, Repr

/-- A day walk the DAYS stage has still to run: its kind, its day, and whether it is a pending walk. -/
structure DayTask where
  walk : DayWalk
  day : Nat
  pending : Bool
deriving DecidableEq, Repr

/-- The catch-up walk in flight (R183): `missed` are the missed days whose three walks have not all completed and `todo`
the day walks the DAYS stage has still to begin. -/
structure CatchUp where
  stage : Stage
  pos : Nat
  minute : Nat
  missed : List Nat
  todo : List DayTask
deriving DecidableEq, Repr

/-! ### The state -/

structure State where
  pending : List Instr
  clock : Clock
  owed : Owed
  handed : List Instr
  distance : List (List Nat)
  rooms : List Room
  kitchens : List Kitchen
  weights : Weights
  policyRec : Policy
  store : Store
  dir : Directory
  series : SeriesUnit
  placement : Placement
  bank : Bank
  panelBus : PanelBus
  catering : Catering
  sweep : Sweep
  link : Link
  notice : Notice
  retention : Retention
  catchUpOwed : Bool
  missedDayStart : Option Nat
  catchUp : Option CatchUp
  attn : Bool
deriving DecidableEq, Repr

/-- Why the machine could stop. The part answers every command it cannot carry out with a status and has no fault, so
no meaning raises this one; it is the closed type the host's interface asks for. Safe: nothing raises it. -/
inductive Fault where
  /-- Raised by no command; safe. -/
  | none_
deriving DecidableEq, Repr

/-- Why a command could be refused. -/
inductive Refusal where
  /-- Raised by an arm of `exec` for a row that has no meaning yet; no row is left so. Safe: it stops the run. -/
  | notModelled (mnemonic : String)
deriving DecidableEq, Repr

/-- `n` numbers upward from `first`. -/
def upFrom (first : Nat) : Nat → List Nat
  | 0 => []
  | n + 1 => first :: upFrom (first + 1) n

/-- A channel that is FREE (R86). -/
def Channel.idle : Channel := ⟨.free, .window, none, 0⟩

/-- A room out of the table (R12). Its caps are the empty set and its auto_checkin is no, which the policy record does not
give: the defaults of R2 (log 30). -/
def Room.absent : Room where
  inTable := false
  building := 0
  floor := 0
  seats := 0
  caps := 0
  turnover := 0
  policy := .required
  who := .anyone
  earlyOpen := 5
  grace := 10
  absenceLimit := 0
  autoCheckin := false
  service := .inService
  closure := none
  panel := none
  noShow := 0
  timeline := []

/-- A kitchen out of the table (R12). -/
def Kitchen.absent : Kitchen where
  inTable := false
  reach := List.replicate Config.buildings none
  profile := List.replicate Config.windows 0
  lead := 30
  spill := 0
  terminals := []
  dispatch := []
  listSeq := 0

/-- A panel table entry after power-on reset (R102). -/
def Panel.powerOn : Panel where
  kind := none
  boundTo := none
  state := .unbound
  hold := none
  pollExp := 2
  misses := 0
  sincePoll := 0
  battery := 100
  power := .normal
  viewSeq := 0
  ackedSeq := none
  viewForced := false
  active := none
  staging := none
  viewDeferred := false
  sinceView := 0
  slot := .empty
  mark := false
  missed := 0

/-- An IDLE port record (R102). -/
def Port.idle : Port := ⟨.idle, 0, false, false, []⟩

/-- No event owed. -/
def Owed.nothing : Owed := ⟨0, [], [], [], [], [], [], []⟩

/-- The sweep context when IDLE (10 section 10.2). -/
def Sweep.idle : Sweep := ⟨false, 0, .resumed, none, 0, 0, 0, none, none⟩

/-- Row `a` of the distance table at power-on: 63 off the diagonal and 0 on it (R1). -/
def powerOnRow (a : Nat) : List Nat := (upFrom 0 Config.buildings).map fun b => if b = a then 0 else 63

/-- The part after power-on reset (R182): every block at its power-on values. -/
def State.reset : State where
  pending := []
  clock := ⟨0, 0, .stopped, false, 0, none, 0, []⟩
  owed := .nothing
  handed := []
  distance := (upFrom 0 Config.buildings).map powerOnRow
  rooms := List.replicate Config.rooms .absent
  kitchens := List.replicate Config.kitchens .absent
  weights := ⟨1, 2, 8, 1⟩
  policyRec := ⟨0, .required, .anyone, 5, 10, 0, 3⟩
  store := ⟨upFrom 0 Config.blocks, Config.blocks, 0, 0, 0, 0, none, none, none⟩
  dir := ⟨List.replicate Config.handles ⟨0, none⟩, upFrom 0 Config.handles, List.replicate Config.seriesIds 0⟩
  series := ⟨List.replicate Config.seriesIds none, none, none, none, [], none⟩
  placement := ⟨[], none, 0⟩
  bank := ⟨List.replicate Config.channels .idle, 0⟩
  panelBus := ⟨List.replicate Config.panels .powerOn, List.replicate Config.ports .idle, [], []⟩
  catering := ⟨none, List.replicate Config.kitchens (List.replicate Config.dayRows (List.replicate Config.windows 0)),
    none, none, none, [], []⟩
  sweep := .idle
  link := ⟨[], [], [], [], false, []⟩
  notice := ⟨⟨false, false⟩, ⟨false, false⟩, ⟨false, false⟩, ⟨false, false⟩, false, false,
    ⟨false, false, false, false, false, false⟩, false⟩
  retention := .good
  catchUpOwed := false
  missedDayStart := none
  catchUp := none
  attn := false

/-- The outcome of a step of this machine. -/
abbrev Outcome := Host.Outcome State Fault Refusal

end Sys2Proof.Machine
end

