-- ==== Sys2Proof/Machine/Flags.lean ====
section
/-! DEFINITION. The notice flags (11 section 11.5), NOTICE of the link status (R168) and the ATTN output (R173). -/

namespace Sys2Proof.Machine

/-- A mark-kind flag whose cause has occurred: set and UNREAD (R175). -/
def MarkFlag.raised : MarkFlag := ⟨true, false⟩

/-- CHANGED's cause occurs (R52, R175). -/
def State.raiseChanged (s : State) : State := { s with notice := { s.notice with changed := .raised } }

/-- SERIES' cause occurs (R67, R175). -/
def State.raiseSeries (s : State) : State := { s with notice := { s.notice with series := .raised } }

/-- PANEL's cause occurs (R112, R119, R175). -/
def State.raisePanel (s : State) : State := { s with notice := { s.notice with panel := .raised } }

/-- CATERING's cause occurs (R138, R143, R148, R175). -/
def State.raiseCatering (s : State) : State := { s with notice := { s.notice with catering := .raised } }

/-- CLOCK's cause occurs (R16, R17, R175). -/
def State.raiseClock (s : State) : State := { s with notice := { s.notice with clock := true } }

/-- The six flags in the order of 11 section 11.5. -/
def Notice.flags (n : Notice) : Enables :=
  ⟨n.changed.isSet, n.series.isSet, n.panel.isSet, n.catering.isSet, n.store, n.clock⟩

/-- The six values of a flag set, in order. -/
def flagList (e : Enables) : List Bool := [e.changed, e.series, e.panel, e.catering, e.store, e.clock]

/-- NOTICE of the link status: some flag is set, whatever the enables (R168). -/
def Notice.anySet (n : Notice) : Bool := (flagList n.flags).any id

/-- Some flag is set and has its own enable on (R173). -/
def Notice.anyEnabled (n : Notice) : Bool :=
  ((flagList n.flags).zip (flagList n.enables)).any fun p => p.1 && p.2

/-- The terms of R173. -/
def State.attnTerms (s : State) : Bool :=
  !s.link.filled.isEmpty || (s.notice.master && s.notice.anyEnabled)

/-- ATTN follows its terms in the step of each event that changes one (R173). -/
def State.followAttn (s : State) : State := { s with attn := s.attnTerms }

/-- READ_NOTICES sets the read state of a flag it returned set to READ (R177 step 2). -/
def MarkFlag.seen (f : MarkFlag) : MarkFlag := if f.isSet then { f with read := true } else f

/-- A drained category clears a set flag that is READ, and its read state becomes UNREAD (R179). -/
def MarkFlag.drained (f : MarkFlag) : MarkFlag := if f.isSet && f.read then ⟨false, false⟩ else f

/-- Whether R179 clears the flag. -/
def MarkFlag.clears (f : MarkFlag) : Bool := f.isSet && f.read

end Sys2Proof.Machine
end

