-- ==== Sys2Proof/Machine/Ops.lean ====
section
/-! DEFINITION. The named operations over the block's records: reading and changing a table entry, the run state, handle
lookup (R25), the Record Store (R19 to R22), the directory (R24, R26), timelines (R34, R35), change marks (R52, R67) and
the reports between blocks. -/

namespace Sys2Proof.Machine

/-! ### Tables -/

/-- The room record of an index; an index above 511 reads as a room out of the table. -/
def State.room (s : State) (r : Nat) : Room := s.rooms.getD r .absent

def State.modRoom (s : State) (r : Nat) (f : Room → Room) : State := { s with rooms := s.rooms.modify r f }

/-- The kitchen record of an index. -/
def State.kitchen (s : State) (k : Nat) : Kitchen := s.kitchens.getD k .absent

def State.modKitchen (s : State) (k : Nat) (f : Kitchen → Kitchen) : State :=
  { s with kitchens := s.kitchens.modify k f }

/-- The panel table entry of an index. -/
def State.panel (s : State) (p : Nat) : Panel := s.panelBus.panels.getD p .powerOn

def State.modPanel (s : State) (p : Nat) (f : Panel → Panel) : State :=
  { s with panelBus := { s.panelBus with panels := s.panelBus.panels.modify p f } }

/-- The port record of a port. -/
def State.port (s : State) (p : Nat) : Port := s.panelBus.ports.getD p .idle

def State.modPort (s : State) (p : Nat) (f : Port → Port) : State :=
  { s with panelBus := { s.panelBus with ports := s.panelBus.ports.modify p f } }

/-- The timer channel of a number. -/
def State.channel (s : State) (c : Nat) : Channel := s.bank.channels.getD c .idle

def State.modChannel (s : State) (c : Nat) (f : Channel → Channel) : State :=
  { s with bank := { s.bank with channels := s.bank.channels.modify c f } }

/-- The live series of an id, absent when the id is free (R56). -/
def State.seriesAt (s : State) (id : Nat) : Option Series := (s.series.list[id]?).join

def State.modSeries (s : State) (id : Nat) (f : Series → Series) : State :=
  { s with series := { s.series with list := s.series.list.modify id (Option.map f) } }

/-- The live booking of a directory entry. -/
def State.bookingAt (s : State) (i : Nat) : Option Booking := (s.dir.entries.getD i ⟨0, none⟩).booking

/-- Changes the booking of a live entry and nothing else. -/
def State.modBooking (s : State) (i : Nat) (f : Booking → Booking) : State :=
  { s with dir := { s.dir with entries := s.dir.entries.modify i fun e => { e with booking := e.booking.map f } } }

/-- Changes the order of a booking that has one. -/
def State.modOrder (s : State) (i : Nat) (f : Order → Order) : State :=
  s.modBooking i fun b => { b with order := b.order.map f }

/-- Applies `f` to each number below `n`, in ascending order. -/
def overAll (n : Nat) (f : Nat → State → State) (s : State) : State := (upFrom 0 n).foldl (fun s i => f i s) s

/-! ### Modes of the part -/

/-- Run state RUNNING: the clock state is RUNNING or HOLDOVER (01 section 1.6). -/
def State.running (s : State) : Bool := s.clock.state ≠ .stopped

/-- The catch-up walk is in flight (R183). -/
def State.catching (s : State) : Bool := s.catchUp.isSome

/-- The minute that a walk counts as now: the catch-up minute during the catch-up walk (R186), else the campus minute. -/
def State.walkNow (s : State) : Nat := match s.catchUp with | some c => c.minute | none => s.clock.minute

/-- The day number of a minute (00_scope, "Campus time"). -/
def dayOf (m : Nat) : Nat := m / Config.dayMinutes

/-- The panel of a room is available: bound, and ONLINE or LATE (06 section 6.1). -/
def State.panelAvailable (s : State) (r : Nat) : Bool :=
  match (s.room r).panel with
  | some p => (s.panel p).state = .online || (s.panel p).state = .late
  | none => false

/-- Two spans overlap when each one starts before the other ends (00_scope, "Campus time"). -/
def overlap (a b c d : Nat) : Bool := a < d && c < b

/-- The span overlaps the room's recorded closure. -/
def Room.closedFor (r : Room) (a b : Nat) : Bool :=
  match r.closure with
  | some c => overlap a b c.fromMin c.toMin
  | none => false

/-! ### Handle lookup -/

/-- The four outcomes of R25. -/
inductive Lookup where
  | badField | noSuch | stale
  | found (b : Booking)
deriving DecidableEq, Repr

/-- Looks a handle up in the directory (R25). -/
def State.lookup (s : State) (h : Handle) : Lookup :=
  if Config.handles ≤ h.idx then .badField
  else
    match (s.dir.entries.getD h.idx ⟨0, none⟩).booking with
    | none => .noSuch
    | some b => if (s.dir.entries.getD h.idx ⟨0, none⟩).generation = h.gen then .found b else .stale

/-- The booking of a handle when the lookup finds it. -/
def State.find (s : State) (h : Handle) : Option Booking :=
  match s.lookup h with
  | .found b => some b
  | _ => none

/-! ### Record Store -/

/-- The class of an allocation; HOST states a headroom need (R20). -/
inductive AllocClass where
  | host (need : Nat)
  | part
deriving DecidableEq, Repr

/-- The test of R20 for `n` blocks. The headroom is the free count less 64, so each condition on it is read on the free
count. -/
def AllocClass.admits (c : AllocClass) (freeCount n : Nat) : Bool :=
  match c with
  | .host need => Config.reserve + n ≤ freeCount && Config.reserve + need ≤ freeCount
  | .part => n ≤ freeCount

/-- Changes the count of the held blocks of a kind (R19). -/
def Store.countKind (st : Store) (k : BlockKind) (f : Nat → Nat) : Store :=
  match k with
  | .head => { st with heldHead := f st.heldHead }
  | .note => { st with heldNote := f st.heldNote }
  | .order => { st with heldOrder := f st.heldOrder }
  | .series => { st with heldSeries := f st.heldSeries }

/-- Takes the block on top of the stack for a record kind (R19). -/
def Store.takeOne (st : Store) (k : BlockKind) : Store :=
  { st.countKind k (· + 1) with free := st.free.drop 1, freeCount := st.freeCount - 1 }

/-- Puts a block back on top of the stack (R19, R21). -/
def Store.giveOne (st : Store) (k : BlockKind) (block : Nat) : Store :=
  { st.countKind k (· - 1) with free := block :: st.free, freeCount := st.freeCount + 1 }

/-- An allocation of one block for each kind in `kinds`, or nothing (R20). The blocks are those on top of the stack, in
order. A taken allocation that leaves the free count below 512 sets STORE (R22). -/
def State.allocate (s : State) (cls : AllocClass) (kinds : List BlockKind) : Option (State × List Nat) :=
  if cls.admits s.store.freeCount kinds.length then
    let st := kinds.foldl Store.takeOne s.store
    some ({ s with store := st, notice := { s.notice with store := s.notice.store || st.freeCount < Config.lowWater } },
      s.store.free.take kinds.length)
  else none

/-- Gives one block back (R21). A return neither sets nor clears STORE (R22). -/
def State.giveBack (s : State) (k : BlockKind) (block : Nat) : State := { s with store := s.store.giveOne k block }

/-- Gives a block back when there is one. -/
def State.giveBackOpt (s : State) (k : BlockKind) (block : Option Nat) : State :=
  match block with
  | some b => s.giveBack k b
  | none => s

/-- Returns the order, note and head blocks of a booking, in that order (R21). -/
def State.giveBackBooking (s : State) (b : Booking) : State :=
  (((s.giveBackOpt .order (b.order.map (·.block))).giveBackOpt .note (b.note.map (·.block))).giveBack .head b.head)

/-! ### Directory -/

/-- Raises or lowers the series reference count of a link (R24, R26, R27). -/
def State.modRef (s : State) (link : Option Nat) (f : Nat → Nat) : State :=
  match link with
  | some id => { s with dir := { s.dir with refs := s.dir.refs.modify id f } }
  | none => s

/-- What a creation takes: the handle and the blocks, in the order head, note, order (R20, R24). -/
structure Taken where
  handle : Handle
  head : Nat
  note : Option Nat
  order : Option Nat
deriving DecidableEq, Repr

/-- The block kinds of a booking, in the order of R20. -/
def bookingKinds (withNote withOrder : Bool) : List BlockKind :=
  [BlockKind.head] ++ (if withNote then [BlockKind.note] else []) ++ (if withOrder then [BlockKind.order] else [])

/-- Takes a handle and blocks for a booking; neither is taken when either cannot be had (R20, R24). The entry's booking
is written by `State.enter`. -/
def State.takeRecord (s : State) (cls : AllocClass) (withNote withOrder : Bool) (link : Option Nat) :
    Option (State × Taken) :=
  match s.dir.fifo with
  | [] => none
  | i :: rest =>
    match s.allocate cls (bookingKinds withNote withOrder) with
    | none => none
    | some (s1, blocks) =>
      let gen := ((s.dir.entries.getD i ⟨0, none⟩).generation + 1) % 256
      let s2 := { s1 with dir := { s1.dir with
        fifo := rest
        entries := s1.dir.entries.modify i fun e => { e with generation := gen } } }
      some (s2.modRef link (· + 1),
        { handle := ⟨i, gen⟩
          head := blocks.getD 0 0
          note := if withNote then some (blocks.getD 1 0) else none
          order := if withOrder then some (blocks.getD (if withNote then 2 else 1) 0) else none })

/-- Writes the head block: the entry becomes live with the booking (R24, R33). -/
def State.enter (s : State) (b : Booking) : State :=
  { s with dir := { s.dir with entries := s.dir.entries.modify b.handle.idx fun e => { e with booking := some b } } }

/-- A creation whose later checks fail is returned: blocks back under R21, index to the head of the FIFO, the entry FREE
with its former generation, the series reference count down again (R26). -/
def State.returnCreation (s : State) (t : Taken) (link : Option Nat) : State :=
  let s1 := ((s.giveBackOpt .order t.order).giveBackOpt .note t.note).giveBack .head t.head
  let s2 := { s1 with dir := { s1.dir with
    fifo := t.handle.idx :: s1.dir.fifo
    entries := s1.dir.entries.modify t.handle.idx fun e => ⟨(e.generation + 255) % 256, none⟩ } }
  s2.modRef link (· - 1)

/-! ### Reports between blocks -/

/-- Adds an element to a list that holds nothing twice. -/
def addNew {α : Type} [DecidableEq α] (x : α) (l : List α) : List α := if x ∈ l then l else l ++ [x]

/-- A change of a room's timeline, service, closure or configuration is reported to the Panel Bus Controller (R34, R116). -/
def State.reportRoom (s : State) (r : Nat) : State :=
  { s with panelBus := { s.panelBus with viewReports := addNew r s.panelBus.viewReports } }

/-- A change of a kitchen list is reported to the Panel Bus Controller (R118, R144). -/
def State.reportList (s : State) (k : Nat) : State :=
  { s with panelBus := { s.panelBus with listReports := addNew k s.panelBus.listReports } }

/-- A hand-over to another block is sent; its command takes it (log 4). -/
def State.hand (s : State) (c : Instr) : State := { s with handed := s.handed ++ [c] }

/-- A hand-over is taken. -/
def State.takeHanded (s : State) (c : Instr) : State := { s with handed := s.handed.erase c }

/-! ### Change marks -/

/-- The engine sets a booking's change mark and passes it to the Notice Unit (R52). -/
def State.markBooking (s : State) (i : Nat) : State := (s.modBooking i fun b => { b with mark := true }).raiseChanged

/-- The Series Unit sets a series' change mark and passes it to the Notice Unit (R67). -/
def State.markSeries (s : State) (id : Nat) : State := (s.modSeries id fun x => { x with mark := true }).raiseSeries

/-- The controller sets a panel's change mark and passes it to the Notice Unit (R112, R119). -/
def State.markPanel (s : State) (p : Nat) : State := (s.modPanel p fun x => { x with mark := true }).raisePanel

/-! ### Timelines -/

/-- The bookings of a room's timeline, in timeline order. -/
def State.timelineOf (s : State) (r : Nat) : List Booking := (s.room r).timeline.filterMap fun h => s.bookingAt h.idx

/-- Inserts a handle before the first entry that starts later (R34). -/
def insertByStart (startOf : Handle → Nat) (h : Handle) (at_ : Nat) : List Handle → List Handle
  | [] => [h]
  | x :: xs => if at_ < startOf x then h :: x :: xs else x :: insertByStart startOf h at_ xs

/-- The start of the booking of a handle. -/
def State.startOf (s : State) (h : Handle) : Nat := ((s.bookingAt h.idx).map (·.startMin)).getD 0

/-- Puts a booking on its room's timeline at the place its start gives, and reports the change (R34). -/
def State.putOnTimeline (s : State) (b : Booking) : State :=
  (s.modRoom b.room fun r => { r with timeline := insertByStart s.startOf b.handle b.startMin r.timeline }).reportRoom b.room

/-- Takes a handle off a room's timeline, and reports the change (R34, R36 step 1). -/
def State.takeOffTimeline (s : State) (room : Nat) (h : Handle) : State :=
  (s.modRoom room fun r => { r with timeline := r.timeline.filter (· ≠ h) }).reportRoom room

/-- The previous and next bookings of R35 for a span that starts at `a`. -/
def prevBooking (l : List Booking) (a : Nat) : Option Booking := (l.filter fun b => b.startMin < a).getLast?
def nextBooking (l : List Booking) (a : Nat) : Option Booking := (l.filter fun b => a ≤ b.startMin).head?

/-- The freedom test of R35 over a timeline: the booking against which it fails, or none when the span is free. -/
def freedom (turnover : Nat) (l : List Booking) (a b : Nat) : Option Handle :=
  match prevBooking l a with
  | some p =>
    if p.endMin + turnover ≤ a then
      match nextBooking l a with
      | some n => if b + turnover ≤ n.startMin then none else some n.handle
      | none => none
    else some p.handle
  | none =>
    match nextBooking l a with
    | some n => if b + turnover ≤ n.startMin then none else some n.handle
    | none => none

/-- The freedom test on a room's timeline, leaving out the booking it is made for (R35). -/
def State.blocker (s : State) (r : Nat) (self : Option Handle) (a b : Nat) : Option Handle :=
  freedom (s.room r).turnover ((s.timelineOf r).filter fun x => some x.handle ≠ self) a b

/-- The free-until minute of R81: the earlier of the first later start less the turnover, and the from minute of a
closure that lies after now. -/
def State.freeUntil (s : State) (r : Nat) (now : Nat) : Option Nat :=
  let byBooking := ((s.timelineOf r).find? fun b => now < b.startMin).map fun b => b.startMin - (s.room r).turnover
  let byClosure := (s.room r).closure.bind fun c => if now < c.fromMin then some c.fromMin else none
  match byBooking, byClosure with
  | some x, some y => some (min x y)
  | some x, none => some x
  | none, y => y

/-! ### Outcomes -/

/-- A meaning's last act: ATTN follows its terms (R173), and the step answers the next state. -/
def done (s : State) : Outcome := .next s.followAttn

end Sys2Proof.Machine
end

