-- ==== Sys2Proof/Machine/Operands.lean ====
section
/-! DEFINITION. The fields of requests: the 5-minute grid and the spans of host requests (R37), ranges and clamps (R3, R6,
R10, R11), and the ranges of notes and orders (R38, 09 section 9.1). -/

namespace Sys2Proof.Machine

/-- The grid minute at or before a minute. A day is a multiple of 5 minutes, so the grid is the multiples of 5. -/
def floorGrid (m : Nat) : Nat := m - m % 5

/-- The grid minute at or after a minute. -/
def ceilGrid (m : Nat) : Nat := floorGrid (m + 4)

/-- A span brought onto the grid, with the rounding that R37 reports. -/
structure SpanOut where
  startMin : Nat
  endMin : Nat
  startRounded : Bool
  endRounded : Bool
deriving DecidableEq, Repr

/-- A length of 5 to 1,440 minutes (R37). -/
def lengthOk (a b : Nat) : Bool := a + 5 ≤ b && b ≤ a + 1440

/-- The span of a start already on its place (rounded, or kept) and an end or a length; `kept` is the length used when
neither is given. None when it is malformed or out of range (R37). `given` is the start as given, for the test of an end at
or before the start. -/
def formEnd (given startMin : Nat) (startRounded : Bool) (endMin length kept : Option Nat) : Option SpanOut :=
  match endMin, length with
  | some _, some _ => none
  | some e, none =>
    if given < e ∧ lengthOk startMin (ceilGrid e) then some ⟨startMin, ceilGrid e, startRounded, decide (e % 5 ≠ 0)⟩ else none
  | none, some l =>
    if l ≠ 0 ∧ lengthOk startMin (ceilGrid (startMin + l)) then
      some ⟨startMin, ceilGrid (startMin + l), startRounded, decide ((startMin + l) % 5 ≠ 0)⟩
    else none
  | none, none =>
    match kept with
    | some l =>
      if lengthOk startMin (ceilGrid (startMin + l)) then
        some ⟨startMin, ceilGrid (startMin + l), startRounded, decide ((startMin + l) % 5 ≠ 0)⟩
      else none
    | none => none

/-- The span of a host request that carries a start (R37); none is BAD_FIELD. The limit of 180 days is tested on the
start as given. -/
def formSpan (now : Nat) (f : SpanForm) (kept : Option Nat) : Option SpanOut :=
  if now + Config.ahead < f.startMin then none
  else formEnd f.startMin (floorGrid f.startMin) (decide (f.startMin % 5 ≠ 0)) f.endMin f.length kept

/-- A note of at most 40 characters (R38). -/
def noteOk (n : Option (List Byte)) : Bool := (n.getD []).length ≤ 40

/-- The ranges of an order's covers and lines (09 sections 9.1 and 9.4). -/
def orderOk (o : OrderForm) : Bool :=
  1 ≤ o.covers && o.covers ≤ 500 && 1 ≤ o.lines.length && o.lines.length ≤ 6 &&
    o.lines.all fun l => l.item ≤ 31 && 1 ≤ l.qty && l.qty ≤ 255

/-- An order that may be absent. -/
def orderOptOk (o : Option OrderForm) : Bool := match o with | some x => orderOk x | none => true

/-- A head count of 1 to 400. -/
def headOk (n : Nat) : Bool := 1 ≤ n && n ≤ 400

/-- A check-in override or policy code that is REQUIRED 0, EXEMPT 1 or absent. -/
def codeOk (c : Option Nat) : Bool := match c with | some n => n ≤ 1 | none => true

def policyOf (code : Nat) : CheckinPolicy := if code = 0 then .required else .exempt
def whoOf (code : Nat) : CheckinWho := if code = 0 then .anyone else .organiser

/-- turnover: rounded up to a multiple of 5 and then clamped to 30 (R3). A value that the rounding alone changed counts as
clamped where the clamped fields are named (log 43). -/
def clampTurnover (n : Nat) : Nat := min (ceilGrid n) 30

/-- early_open: at most 15 (R3). -/
def clampEarly (n : Nat) : Nat := min n 15

/-- grace: 1 to 30 (R3). -/
def clampGrace (n : Nat) : Nat := max 1 (min n 30)

/-- absence_limit: 0, or 5 to 60 (R3). -/
def clampAbsence (n : Nat) : Nat := if n = 0 then 0 else max 5 (min n 60)

/-- Whether a field that may be absent was changed by its clamp. -/
def clamped (f : Nat → Nat) (v : Option Nat) : Bool := match v with | some n => f n ≠ n | none => false

/-- A set of names as the 2 bytes of R188: bit i for the name in place i. -/
def nameSet (names : List Bool) : Nat := names.foldr (fun b acc => b.toNat + 2 * acc) 0

end Sys2Proof.Machine
end

