-- ==== Sys2Proof/Machine/Encode.lean ====
section
/-! DEFINITION. The encodings of chapter 13: fields to bytes (R188), codes of names, answers and their frames, and the
booking and order summaries. Where R188 leaves a layout open, log 23 says what is chosen. -/

namespace Sys2Proof.Machine

/-! ### Bytes -/

/-- A number in `w` bytes, least significant byte first (chapter 13). -/
def leBytes : Nat → Nat → List Byte
  | 0, _ => []
  | w + 1, n => BitVec.ofNat 8 n :: leBytes w (n / 256)

/-- The number that bytes hold, least significant byte first. -/
def leNat : List Byte → Nat
  | [] => 0
  | b :: bs => b.toNat + 256 * leNat bs

/-- A field's bytes (R188): an absent field has every byte FFh, and no handle is FFFFFFh. -/
def Field.encode : Field → List Byte
  | .num w (some n) => leBytes w n
  | .num w none => List.replicate w 0xFF
  | .signed w v => leBytes w (v % ((256 ^ w : Nat) : Int)).toNat
  | .handle (some h) => leBytes 2 h.idx ++ leBytes 1 h.gen
  | .handle none => List.replicate 3 0xFF
  | .text cs => BitVec.ofNat 8 cs.length :: cs
  | .bytes cs => cs

/-- The bytes of a body or a payload: its fields in order. -/
def encodeFields (fs : List Field) : List Byte := fs.flatMap Field.encode

/-! ### Fields by kind -/

def u8 (n : Nat) : Field := .num 1 (some n)
def u16 (n : Nat) : Field := .num 2 (some n)
def minuteField (m : Nat) : Field := .num 4 (some m)
def flagField (b : Bool) : Field := .num 1 (some b.toNat)
def capsField (c : Caps) : Field := .num 2 (some c.toNat)
def idField (i : Id32) : Field := .num 4 (some i.toNat)
def handleField (h : Handle) : Field := .handle (some h)

/-- A list of entries, preceded by its number of entries in 2 bytes (R188). -/
def listField {α : Type} (f : α → List Field) (l : List α) : List Field := u16 l.length :: l.flatMap f

/-! ### Codes (13 sections 13.1 and 13.2) -/

def Status.code : Status → Nat
  | .ok => 0x00 | .conflict => 0x01 | .noSuch => 0x02 | .stale => 0x03 | .noRoom => 0x04 | .noSpace => 0x05
  | .badField => 0x06 | .badState => 0x07 | .wait => 0x08 | .busy => 0x09 | .cateringFull => 0x0A | .tooLate => 0x0B
  | .tooEarly => 0x0C | .notStarted => 0x0D | .already => 0x0E | .notOrganiser => 0x0F | .noTime => 0x10
  | .closed => 0x11 | .notAllowed => 0x12

def BookingState.code : BookingState → Nat
  | .booked => 0 | .awaiting => 1 | .inUse => 2 | .ended => 3 | .endedEarly => 4 | .released => 5 | .cancelled => 6
  | .displaced => 7

def Attendance.code : Attendance → Nat
  | .none_ => 0 | .checked => 1 | .noShow => 2 | .unknown => 3

def Source.code : Source → Nat
  | .host => 0 | .walkup => 1 | .series => 2

def OrderState.code : OrderState → Nat
  | .requested => 0 | .planned => 1 | .unplaced => 2 | .committed => 3 | .dispatched => 4 | .delivered => 5
  | .stranded => 6 | .discarded => 7 | .voided => 8

def CheckinPolicy.code : CheckinPolicy → Nat
  | .required => 0 | .exempt => 1

def CheckinWho.code : CheckinWho → Nat
  | .anyone => 0 | .organiser => 1

def ServiceState.code : ServiceState → Nat
  | .inService => 0 | .closing => 1 | .closed => 2

def ClosureMode.code : ClosureMode → Nat
  | .relocate => 0 | .displace => 1

def ChannelState.code : ChannelState → Nat
  | .free => 0 | .running => 1 | .paused => 2 | .suspended => 3

def ChannelMode.code : ChannelMode → Nat
  | .window => 0 | .watch => 1

def ClockState.code : ClockState → Nat
  | .stopped => 0 | .running => 1 | .holdover => 2

def SeriesState.code : SeriesState → Nat
  | .active => 0 | .suspended => 1 | .finished => 2

def SearchKind.code : SearchKind → Nat
  | .place => 0 | .placeAndBook => 1 | .findNearby => 2 | .sweep => 3

def PanelKindCode : PanelKind → Nat
  | .room => 0 | .kitchen => 1

def Liveness.code : Liveness → Nat
  | .unbound => 0 | .bound => 1 | .online => 2 | .late => 3 | .lost => 4 | .barred => 5

def HoldKind.code : HoldKind → Nat
  | .bar => 0 | .unbind => 1

def PowerClass.code : PowerClass → Nat
  | .normal => 0 | .saving => 1 | .critical => 2

def PortPhase.code : PortPhase → Nat
  | .idle => 0 | .polling => 1 | .serving => 2 | .following => 3

def Stage.code : Stage → Nat
  | .commits => 0 | .closures => 1 | .bookings => 2 | .days => 3

def SweepPhase.code : SweepPhase → Nat
  | .deciding => 0 | .searching => 1

/-! ### Frames on the host link -/

/-- The bytes of an answer frame (13 section 13.1). The length takes its 2 bytes whatever it is, above 4,095 too (log 57). -/
def Answer.bytes (a : Answer) : List Byte :=
  let body := encodeFields a.body
  a.tag :: (leBytes 1 a.kind ++ leBytes 1 a.status.code ++ leBytes 2 body.length ++ body)

/-- The empty-answer marker (13 section 13.1). -/
def emptyMarker : List Byte := [0x00, 0x00, 0xFF, 0x00, 0x00]

/-! ### Summaries -/

/-- A closure that may be absent: from, to, mode and swept. -/
def closureFields (c : Option Closure) : List Field :=
  [.num 4 (c.map (·.fromMin)), .num 4 (c.map (·.toMin)), .num 1 (c.map (·.mode.code)), .num 1 (c.map (·.swept.toNat))]

def lineFields (l : Line) : List Field := [u8 l.item, u8 l.qty]

/-- The order summary of 13 section 13.1. -/
def orderSummary (o : Order) (tight : Bool) : List Field :=
  [u8 o.state.code, u16 o.covers, .num 1 o.kitchen, .num 4 (o.window.map (·.day)), .num 1 (o.window.map (·.win)),
    .num 4 o.ready, .num 4 o.commit, flagField tight, u8 o.lines.length] ++ o.lines.flatMap lineFields

/-- The order state byte: FFh when there is no order. -/
def orderStateField (o : Option Order) : Field := .num 1 (o.map (·.state.code))

/-- Bytes 0 to 17 of the booking summary, with the rounding marks of the answer. -/
def bookingHead (b : Booking) (startRounded endRounded : Bool) : List Field :=
  [handleField b.handle, u16 b.room, minuteField b.startMin, minuteField b.endMin, u8 b.state.code, u8 b.attendance.code,
    u8 (b.checkin.code + 2 * b.mark.toNat + 4 * startRounded.toNat + 8 * endRounded.toNat), u16 b.headCount]

/-- The booking summary of 13 section 13.1, with the note after it and the channel as the bank holds it (R46). -/
def State.bookingSummary (s : State) (b : Booking) (startRounded endRounded : Bool) : List Field :=
  let ch := b.timer.map s.channel
  let text := (b.note.map (·.text)).getD []
  bookingHead b startRounded endRounded ++
    [idField b.organiser, u8 b.origin, capsField b.needs, capsField b.wants, u8 b.source.code, .num 2 b.series,
      .num 1 b.timer, .num 1 (ch.map fun c => c.mode.code + 16 * c.state.code), .num 3 (ch.map (·.remaining)),
      orderStateField b.order, u8 text.length, u8 0, .bytes text]

/-- A booking as an answer gives it: its summary, and its order summary when it has an order (R188). -/
def State.bookingFields (s : State) (b : Booking) (startRounded endRounded tight : Bool) : List Field :=
  s.bookingSummary b startRounded endRounded ++ ((b.order.map fun o => orderSummary o tight).getD [])

/-- The outcome of an order in an answer: its summary, or the order state FFh when there is none. -/
def orderOutcome (o : Option Order) (tight : Bool) : List Field :=
  match o with
  | some x => orderSummary x tight
  | none => [orderStateField none]

end Sys2Proof.Machine
end

