-- ==== Sys2Proof/Machine/Catering.lean ====
section
/-! DEFINITION. The Catering Scheduler's shared operations: the load table (R135), the planning computation (R137), the
contexts of planning (R138), counting and uncounting (R134), what a booking's exit does to its order (R148), and the
kitchen list (R144). -/

namespace Sys2Proof.Machine

/-- The counted order states (R134). -/
def OrderState.counted : OrderState → Bool
  | .planned | .committed | .dispatched | .delivered | .stranded | .discarded => true
  | .requested | .unplaced | .voided => false

/-- The order of a booking. -/
def State.orderAt (s : State) (i : Nat) : Option Order := (s.bookingAt i).bind (·.order)

/-! ### The load table -/

/-- A day is held when a row stands for it (09 section 9.2). -/
def State.held (s : State) (day : Nat) : Bool :=
  match s.catering.horizon with
  | some f => f ≤ day && day < f + Config.dayRows
  | none => false

/-- A start's day is beyond the horizon (R136). -/
def State.beyond (s : State) (day : Nat) : Bool :=
  match s.catering.horizon with
  | some f => f + Config.dayRows ≤ day
  | none => false

/-- The load of a window of a kitchen; 0 where the day is not held. -/
def State.load (s : State) (k : Nat) (w : AbsWindow) : Nat :=
  match s.catering.horizon with
  | some f => if f ≤ w.day then (((s.catering.loads.getD k []).getD (w.day - f) []).getD w.win 0) else 0
  | none => 0

/-- Changes the load of a window when its day is held; the load is left as it is otherwise (R135). -/
def State.modLoad (s : State) (k : Nat) (w : AbsWindow) (f : Nat → Nat) : State :=
  match s.catering.horizon with
  | some h =>
    if h ≤ w.day then
      { s with catering := { s.catering with
        loads := s.catering.loads.modify k fun rows => rows.modify (w.day - h) fun row => row.modify w.win f } }
    else s
  | none => s

/-- The capacity of a kitchen's window (01 section 1.3). -/
def State.capacity (s : State) (k win : Nat) : Nat := (s.kitchen k).profile.getD win 0

/-! ### Planning -/

/-- The reach of a kitchen to a building, absent when the kitchen is not configured or does not serve it. -/
def State.serves (s : State) (k b : Nat) : Option Nat :=
  if (s.kitchen k).inTable then ((s.kitchen k).reach.getD b none) else none

/-- Inserts a kitchen by reach, after those of the same reach, which have the lower index (R137). -/
def insertReach (x : Nat × Nat) : List (Nat × Nat) → List (Nat × Nat)
  | [] => [x]
  | y :: ys => if x.1 < y.1 then x :: y :: ys else y :: insertReach x ys

/-- The kitchens that serve a building as (reach, kitchen), ascending reach, ties to the lower index (R137). -/
def State.kitchensFor (s : State) (b : Nat) : List (Nat × Nat) :=
  (upFrom 0 Config.kitchens).foldl (fun l k => match s.serves k b with | some r => insertReach (r, k) l | none => l) []

/-- An acceptance of the planning computation (R137). -/
structure Accept where
  kitchen : Nat
  window : AbsWindow
  ready : Nat
  commit : Nat
deriving DecidableEq, Repr

/-- Tests the candidate windows of one kitchen from the `j`-th earlier window on, `fuel` of them (R137 steps 2 and 3). -/
def State.tryWindows (s : State) (now covers k ready : Nat) : Nat → Nat → Option Accept
  | 0, _ => none
  | fuel + 1, j =>
    let natural := ready / Config.windowMinutes
    if natural < j then none
    else
      let w : AbsWindow := ⟨(natural - j) / Config.windows, (natural - j) % Config.windows⟩
      let readyMinute := if j = 0 then ready else (natural - j) * Config.windowMinutes + (Config.windowMinutes - 1)
      let lead := (s.kitchen k).lead
      if !s.held w.day || readyMinute < now + lead then none
      else if s.load k w + covers ≤ s.capacity k w.win then some ⟨k, w, readyMinute, readyMinute - lead⟩
      else s.tryWindows now covers k ready fuel (j + 1)

/-- One kitchen's trial (R137 steps 1 to 3). -/
def State.tryKitchen (s : State) (now covers start : Nat) (rk : Nat × Nat) : Option Accept :=
  if start < rk.1 + Config.setup then none
  else s.tryWindows now covers rk.2 (start - rk.1 - Config.setup) ((s.kitchen rk.2).spill + 1) 0

/-- The planning computation of R137. -/
def State.planAt (s : State) (now covers start building : Nat) : Option Accept :=
  (s.kitchensFor building).findSome? (s.tryKitchen now covers start)

/-- TIGHT after the count: the capacity less the load is below the covers just counted (R139). -/
def State.tightAfter (s : State) (a : Accept) (covers : Nat) : Bool :=
  s.capacity a.kitchen a.window.win < s.load a.kitchen a.window + covers

/-! ### The queues -/

/-- Inserts a handle before the first entry whose key is later; keys are compared in both parts, the second being the
handle index (R143, R144, R152). -/
def insertKeyed (key : Handle → Nat) (h : Handle) (at_ : Nat) : List Handle → List Handle
  | [] => [h]
  | x :: xs =>
    if at_ < key x ∨ (at_ = key x ∧ h.idx < x.idx) then h :: x :: xs else x :: insertKeyed key h at_ xs

def State.readyOf (s : State) (h : Handle) : Nat := ((s.orderAt h.idx).bind (·.ready)).getD 0
def State.commitOf (s : State) (h : Handle) : Nat := ((s.orderAt h.idx).bind (·.commit)).getD 0

/-- An order joins its kitchen's dispatch queue in ready order (R144). -/
def State.joinDispatch (s : State) (h : Handle) (k ready : Nat) : State :=
  s.modKitchen k fun x => { x with dispatch := insertKeyed s.readyOf h ready (x.dispatch.filter (· ≠ h)) }

/-- An order leaves every dispatch queue (R144). -/
def State.leaveDispatch (s : State) (h : Handle) : State :=
  { s with kitchens := s.kitchens.map fun x => { x with dispatch := x.dispatch.filter (· ≠ h) } }

/-- An order joins the commit queue in commit order (R143). -/
def State.joinCommit (s : State) (h : Handle) (commit : Nat) : State :=
  { s with catering := { s.catering with
    commitQueue := insertKeyed s.commitOf h commit (s.catering.commitQueue.filter (· ≠ h)) } }

def State.leaveCommit (s : State) (h : Handle) : State :=
  { s with catering := { s.catering with commitQueue := s.catering.commitQueue.filter (· ≠ h) } }

/-- An order joins the request list in the order of its booking's start (R152). -/
def State.joinRequests (s : State) (h : Handle) (start : Nat) : State :=
  { s with catering := { s.catering with
    requestList := insertKeyed s.startOf h start (s.catering.requestList.filter (· ≠ h)) } }

def State.leaveRequests (s : State) (h : Handle) : State :=
  { s with catering := { s.catering with requestList := s.catering.requestList.filter (· ≠ h) } }

/-! ### Counting -/

/-- Takes an order's covers out of its window when it is counted and the window is held (R27, R135). -/
def State.unload (s : State) (o : Order) : State :=
  match o.state.counted, o.kitchen, o.window with
  | true, some k, some w => s.modLoad k w (· - o.covers)
  | _, _, _ => s

/-- Takes an order out of the load table and every queue (R134, R27). -/
def State.unplan (s : State) (h : Handle) : State :=
  match s.orderAt h.idx with
  | some o => ((((s.unload o).leaveDispatch h).leaveCommit h).leaveRequests h)
  | none => s

/-- An order enters an uncounted state (R134): it leaves the load table and the queues, its kitchen, window and ready
minute become absent, and its commit minute becomes `commit`. -/
def State.setUncounted (s : State) (h : Handle) (st : OrderState) (commit : Option Nat) : State :=
  (s.unplan h).modOrder h.idx fun o => { o with state := st, kitchen := none, window := none, ready := none, commit := commit }

/-- An order is VOIDED (R142, R148, R149). -/
def State.voidOrder (s : State) (h : Handle) : State := s.setUncounted h .voided none

/-- An order is counted as PLANNED in an accepted window: load, dispatch queue and commit queue in one step (R134). -/
def State.count (s : State) (h : Handle) (covers : Nat) (a : Accept) : State :=
  let s1 := s.modOrder h.idx fun o =>
    { o with state := .planned, kitchen := some a.kitchen, window := some a.window, ready := some a.ready
             commit := some a.commit }
  ((s1.modLoad a.kitchen a.window (· + covers)).joinDispatch h a.kitchen a.ready).joinCommit h a.commit

/-- An order becomes REQUESTED and joins the request list (R138 step 2). -/
def State.makeRequested (s : State) (b : Booking) : State :=
  (s.setUncounted b.handle .requested none).joinRequests b.handle b.startMin

/-- The commit minute of an UNPLACED order (R138): the nearest serving kitchen's natural window, or 35 minutes before the
start; one before now is set to now. -/
def State.unplacedCommit (s : State) (now : Nat) (b : Booking) : Nat :=
  let food := ((s.room b.room).caps.getLsbD 1)
  let c :=
    match food, (s.kitchensFor (s.room b.room).building).head? with
    | true, some (r, k) => b.startMin - r - Config.setup - (s.kitchen k).lead
    | _, _ => b.startMin - 35
  max c now

/-- The catering failure mark on a booking (R51, R52) with the scheduler's own report (R175). -/
def State.cateringFailure (s : State) (i : Nat) : State := (s.markBooking i).raiseCatering

/-- An order becomes UNPLACED and joins the commit queue, its booking is marked and CATERING set (R138). -/
def State.makeUnplaced (s : State) (now : Nat) (b : Booking) : State :=
  let c := s.unplacedCommit now b
  (((s.setUncounted b.handle .unplaced (some c)).joinCommit b.handle c).cateringFailure b.handle.idx)

/-- FOOD_ALLOWED, the capability of index 1 (00_scope). -/
def Room.foodAllowed (r : Room) : Bool := r.caps.getLsbD 1

/-- Planning in the HOST context (R138): the state after it and TIGHT, or the refusing status with nothing changed. The
order's contents stand in the booking and it is in no queue. -/
def State.planHost (s : State) (now : Nat) (b : Booking) (covers : Nat) : Except Status (State × Bool) :=
  if !(s.room b.room).foodAllowed then .error .notAllowed
  else if s.beyond (dayOf b.startMin) then .ok (s.makeRequested b, false)
  else
    match s.planAt now covers b.startMin (s.room b.room).building with
    | some a => let s1 := s.count b.handle covers a; .ok (s1, s1.tightAfter a covers)
    | none => .error .cateringFull

/-- Planning in the WALK, SERIES and RELOCATION contexts (R138), where a failure makes the order UNPLACED. A
SERIES-context order whose day is within the horizon is planned at once, an added day of a planning walk among them (log
49). -/
def State.planPart (s : State) (now : Nat) (b : Booking) (covers : Nat) : State :=
  match s.planHost now b covers with
  | .ok (s1, _) => s1
  | .error _ => s.makeUnplaced now b

/-- The planning walk's WAIT scope (R152): the day is one of its added days. -/
def State.planningScope (s : State) (day : Nat) : Bool :=
  match s.catering.walk with
  | some w => day ∈ w.added
  | none => false

/-! ### Exits of bookings -/

/-- The kind of a booking's exit (R36 step 3). A cancel by the host is told from one by the part, for the marks of R148. -/
inductive ExitKind where
  | ended | early | release | hostCancel | partCancel | displacement
deriving DecidableEq, Repr

/-- An order is STRANDED, still counted (R148). A strand made by the part marks the booking and sets CATERING. -/
def State.strand (s : State) (i : Nat) (byPart : Bool) : State :=
  let s1 := s.modOrder i fun o => { o with state := .stranded }
  if byPart then s1.cateringFailure i else s1

/-- What an exit does to the order of a booking (R148). -/
def State.exitOrder (s : State) (h : Handle) (kind : ExitKind) : State :=
  match s.orderAt h.idx with
  | none => s
  | some o =>
    match o.state with
    | .requested | .unplaced | .planned => s.voidOrder h
    | .committed => if kind = .ended ∨ kind = .early then s else s.strand h.idx (kind ≠ .hostCancel)
    | .dispatched => s.strand h.idx (kind ≠ .hostCancel)
    | .delivered | .stranded | .discarded | .voided => s

/-! ### The kitchen list -/

/-- The first eight entries of a kitchen's dispatch queue (R144). -/
def State.kitchenList (s : State) (k : Nat) : List ListEntry :=
  ((s.kitchen k).dispatch.take 8).filterMap fun h =>
    match s.bookingAt h.idx with
    | some b =>
      b.order.map fun o => ⟨b.handle, b.room, (s.room b.room).building, o.ready, o.covers, o.lines, o.state⟩
    | none => none

/-- A step that changed a kitchen's list raises its list_seq once and reports the change (R144). -/
def State.relist (s : State) (before : State) : State :=
  overAll Config.kitchens (fun k t =>
    if before.kitchenList k = s.kitchenList k then t
    else (t.modKitchen k fun x => { x with listSeq := (x.listSeq + 1) % 256 }).reportList k) s

/-- The last act of a step that may have changed orders: the kitchen lists, then ATTN. -/
def doneLists (before after : State) : Outcome := done (after.relist before)

end Sys2Proof.Machine
end

