-- ==== Sys2Proof/Machine/Engine.lean ====
section
/-! DEFINITION. Shared operations of the Attendance Timer Bank, the Series Unit's attendance reports and the Reservation
Engine: opening a window (R89), giving a channel back (R100), leaving the active states (R36), the changes of R51, making a
booking (R33) and handling its start (R39). -/

namespace Sys2Proof.Machine

/-! ### Channels -/

/-- A freed channel: FREE, no booking, remaining 0 (R86). -/
def Channel.freed (c : Channel) : Channel := { c with state := .free, booking := none, remaining := 0 }

def State.freeChannel (s : State) (c : Nat) : State := s.modChannel c Channel.freed

/-- The bank frees a booking's channel and the engine writes the booking's timer field absent (R86, R92, R95). -/
def State.dropChannel (s : State) (b : Booking) (c : Nat) : State :=
  (s.freeChannel c).modBooking b.handle.idx fun x => { x with timer := none }

/-- The lowest-numbered FREE channel (R86). -/
def State.lowestFree (s : State) : Option Nat := s.bank.channels.findIdx? fun c => c.state = .free

/-- A saturating count of 0 to 255 rises by one (00_scope, "Saturating counts"). -/
def saturate (n : Nat) : Nat := min (n + 1) 255

/-- The engine returns a booking's channel to the bank and its timer field becomes absent (R36 step 2); the room's
no_show_count rises when the booking has become RELEASED (R100). -/
def State.returnChannel (s : State) (i : Nat) : State :=
  match s.bookingAt i with
  | none => s
  | some b =>
    match b.timer with
    | none => s
    | some c =>
      let s1 := (s.freeChannel c).modBooking i fun b => { b with timer := none }
      if b.state = .released then s1.modRoom b.room fun r => { r with noShow := saturate r.noShow } else s1

/-- The deadline of a window (R89): the earlier of the booking's end and the later of start + grace and now + 1. -/
def windowDeadline (b : Booking) (grace now : Nat) : Nat := min b.endMin (max (b.startMin + grace) (now + 1))

/-- The seconds from the clock's time to a minute, 0 when it is past: (m − now) × 60 − second (R89, R98, R99). -/
def State.secondsTo (s : State) (m : Nat) : Nat := (m - s.clock.minute) * 60 - s.clock.second

/-- The start as EXEMPT for want of a channel (R51, R89). -/
def State.startExempt (s : State) (b : Booking) : State :=
  if b.startMin ≤ s.clock.minute then
    (s.modBooking b.handle.idx fun x => { x with state := .inUse, checkin := .exempt, attendance := .none_ }).reportRoom b.room
  else s.modBooking b.handle.idx fun x => { x with checkin := .exempt }

/-- Opens the check-in window of a BOOKED booking (R89). Now and second are the clock's, as they stand (log 8). -/
def State.openWindow (s : State) (i : Nat) : State :=
  match s.bookingAt i with
  | none => s
  | some b =>
    if b.state ≠ .booked then s
    else
      match s.lowestFree with
      | some c =>
        let left := s.secondsTo (windowDeadline b (s.room b.room).grace s.clock.minute)
        (((s.modChannel c fun _ => ⟨.running, .window, some b.handle, left⟩).modBooking i fun x =>
          { x with state := .awaiting, timer := some c }).reportRoom b.room)
      | none => ({ s with bank := { s.bank with timerCount := saturate s.bank.timerCount } }).startExempt b

/-- Handles the start of a BOOKED booking (R39, R42, R90): a REQUIRED one whose opening minute has come has its window
opened when the room's panel is available, and no window opens during the catch-up walk (R183); an EXEMPT one whose start
has come enters IN_USE. -/
def State.handleStart (s : State) (now i : Nat) : State :=
  match s.bookingAt i with
  | none => s
  | some b =>
    if b.state ≠ .booked then s
    else
      match b.checkin with
      | .required =>
        if !s.catching ∧ b.startMin ≤ now + (s.room b.room).earlyOpen ∧ s.panelAvailable b.room then s.openWindow i else s
      | .exempt =>
        if b.startMin ≤ now then (s.modBooking i fun x => { x with state := .inUse }).reportRoom b.room else s

/-! ### Attendance reports to the Series Unit -/

/-- A release is counted, and suspends an ACTIVE series that reaches its threshold (R62, R63). -/
def State.seriesRelease (s : State) (id : Nat) : State :=
  match s.seriesAt id with
  | none => s
  | some x =>
    let n := min (x.noShows + 1) 7
    if x.state = .active ∧ x.threshold ≠ 0 ∧ x.threshold ≤ n then
      let s1 := (s.modSeries id fun x => { x with noShows := n, state := .suspended, passOwed := true }).markSeries id
      { s1 with series := { s1.series with passQueue := addNew id s1.series.passQueue } }
    else s.modSeries id fun x => { x with noShows := n }

/-- A check-in sets the count of no-shows to 0 (R62). -/
def State.seriesCheckIn (s : State) (link : Option Nat) : State :=
  match link with
  | some id => s.modSeries id fun x => { x with noShows := 0 }
  | none => s

/-! ### Leaving the active states -/

/-- The four steps of R36, taken after the booking's new state is written. -/
def State.leaveActive (s : State) (i : Nat) (kind : ExitKind) : State :=
  match s.bookingAt i with
  | none => s
  | some b =>
    let s3 := ((s.takeOffTimeline b.room b.handle).returnChannel i).exitOrder b.handle kind
    match b.series with
    | some id => if kind = .release then s3.seriesRelease id else s3
    | none => s3

/-- The release of a booking as a no-show (R50, R51, R52, R93). -/
def State.release (s : State) (i : Nat) : State :=
  ((s.modBooking i fun b => { b with state := .released, attendance := .noShow }).markBooking i).leaveActive i .release

/-- The end of a booking at its end minute, with the attendance it is given (R49, R50, R185). -/
def State.endBooking (s : State) (i : Nat) (attendance : Attendance → Attendance) : State :=
  (s.modBooking i fun b => { b with state := .ended, attendance := attendance b.attendance }).leaveActive i .ended

/-- An early end with end = now, or the start when now is before it (R51, R96, R131); the change mark is set (R52). -/
def State.endEarly (s : State) (i now : Nat) : State :=
  ((s.modBooking i fun b => { b with state := .endedEarly, endMin := max now b.startMin }).markBooking i).leaveActive i .early

/-- An occurrence cancel asked by the Series Unit (R51, R64). -/
def State.cancelOccurrence (s : State) (i : Nat) : State :=
  ((s.modBooking i fun b => { b with state := .cancelled }).markBooking i).leaveActive i .partCancel

/-- A displacement asked by the sweep (R51, R160). -/
def State.displace (s : State) (i : Nat) : State :=
  ((s.modBooking i fun b => { b with state := .displaced }).markBooking i).leaveActive i .displacement

/-! ### Check-in -/

/-- What a check-in does with the booking's channel (R92). -/
def State.checkInChannel (s : State) (b : Booking) : State :=
  match b.timer with
  | none => s
  | some c =>
    let limit := (s.room b.room).absenceLimit
    if limit = 0 then s.dropChannel b c
    else
      s.modChannel c fun ch =>
        { ch with mode := .watch, state := if s.panelAvailable b.room then .paused else .suspended, remaining := limit * 60 }

/-- The check-in change of an AWAITING booking (R51, R92): IN_USE, CHECKED, the series hears of it, and the channel stops
or turns to WATCH. -/
def State.checkInBooking (s : State) (b : Booking) : State :=
  (((s.modBooking b.handle.idx fun x => { x with state := .inUse, attendance := .checked }).reportRoom b.room).seriesCheckIn
    b.series).checkInChannel b

/-! ### Making a booking -/

/-- An order just written from a request, not yet planned (R140, R60). -/
def newOrder (block : Nat) (f : OrderForm) : Order := ⟨block, f.covers, f.lines, .voided, none, none, none, none⟩

/-- The note of a booking or series as stored: a note of 0 characters is absent (02 section 2.2). -/
def storedNote (n : Option (List Byte)) : List Byte := n.getD []

/-- The booking of a creation, with the values R33 gives every booking. -/
def newBooking (t : Taken) (room startMin endMin headCount : Nat) (organiser : Id32) (origin : Nat) (needs wants : Caps)
    (checkin : CheckinPolicy) (source : Source) (series : Option Nat) (order : Option OrderForm) (note : List Byte) :
    Booking where
  handle := t.handle
  head := t.head
  room := room
  startMin := startMin
  endMin := endMin
  headCount := headCount
  organiser := organiser
  origin := origin
  needs := needs
  wants := wants
  checkin := checkin
  state := .booked
  attendance := .none_
  source := source
  series := series
  order := match t.order, order with | some blk, some f => some (newOrder blk f) | _, _ => none
  note := t.note.map fun blk => ⟨blk, note⟩
  mark := false
  timer := none

/-- Makes a host booking with its order (R33, R38 steps 11 and 12, R39, R80 step 6): the handle and blocks, the order's
plan, the timeline and the start. A refused plan returns the creation (R26), and the refusal comes with the state so
left. -/
def State.makeHostBooking (s : State) (now : Nat) (mk : Taken → Booking) (withNote : Bool) (order : Option OrderForm) :
    Except (Status × State) (State × Handle × Bool) :=
  let kinds := bookingKinds withNote order.isSome
  match s.takeRecord (.host kinds.length) withNote order.isSome none with
  | none => .error (.noSpace, s)
  | some (s1, t) =>
    let b := mk t
    let s2 := s1.enter b
    match order with
    | none => .ok ((s2.putOnTimeline b).handleStart now t.handle.idx, t.handle, false)
    | some f =>
      if s2.planningScope (dayOf b.startMin) then .error (.wait, s2.returnCreation t none)
      else
        match s2.planHost now b f.covers with
        | .error st => .error (st, s2.returnCreation t none)
        | .ok (s3, tight) => .ok ((s3.putOnTimeline b).handleStart now t.handle.idx, t.handle, tight)

/-! ### Relocation -/

/-- The order of a relocated booking (R150). It is planned with its covers out of the load, and may so find an earlier
acceptance than the recheck's trial, which read the load with them in (log 50). -/
def State.relocateOrder (s : State) (now : Nat) (b : Booking) : State :=
  match b.order with
  | some o =>
    if o.state = .planned ∨ o.state = .unplaced then (s.setUncounted b.handle .unplaced none).planPart now b o.covers else s
  | none => s

/-- The relocation of a BOOKED or AWAITING booking to another room (R51, R159). An AWAITING booking gives up its channel
and its window is opened afresh (R90). -/
def State.relocate (s : State) (now : Nat) (b : Booking) (room : Nat) : State :=
  let i := b.handle.idx
  let moved := { b with room := room, state := .booked, timer := none }
  let s1 := (s.returnChannel i).takeOffTimeline b.room b.handle
  let s2 := (s1.modBooking i fun x => { x with room := room, state := .booked }).putOnTimeline moved
  let s3 := (s2.relocateOrder now moved).markBooking i
  if b.state = .awaiting then s3.handleStart now i else s3

/-! ### Retirement -/

/-- Retirement of a booking (R27): its order leaves the scheduler, its blocks return, its series' reference falls and its
handle goes to the tail of the FIFO. -/
def State.retire (s : State) (b : Booking) : State :=
  let s1 := (s.unplan b.handle).giveBackBooking b
  let s2 := s1.modRef b.series (· - 1)
  { s2 with dir := { s2.dir with
    entries := s2.dir.entries.modify b.handle.idx fun e => { e with booking := none }
    fifo := s2.dir.fifo ++ [b.handle.idx] } }

end Sys2Proof.Machine
end

