-- ==== Sys2Proof/Machine/Link.lean ====
section
/-! DEFINITION. The Host Link's shared operations: reserving and filling answer places (R170 to R172), a request reaching
its owner (log 3), and the link status (R168). -/

namespace Sys2Proof.Machine

/-- The owner of a request kind, by the high digit of its code; READ_RETENTION B0h goes to the Campus Clock (13 section
13.1, R187). -/
def ownerOf (kind : Nat) : Nat := if kind = 0xB0 then 0 else kind / 16

/-- Answer places that are not free (R171). -/
def Link.used (l : Link) : Nat := l.reserved.length + l.filled.length

/-- An owner completes a request: the answer fills the place the request reserved and joins the tail of the completed
answers (R171); the answer of a dropped request is discarded (R172). -/
def State.answer (s : State) (ref : HostRef) (status : Status) (body : List Field) : State :=
  if !ref.dropped && (ref.tag, ref.kind) ∈ s.link.reserved then
    { s with link := { s.link with
      reserved := s.link.reserved.erase (ref.tag, ref.kind)
      filled := s.link.filled ++ [⟨ref.tag, ref.kind, status, body⟩] } }
  else s

/-- A request reaches its owner (R170, log 3). A request the Host Link has passed on is taken when it is the first that
waits for its owner. A request that did not come through a frame reserves its own answer place, when its owner has none
waiting and a place is free. Otherwise it is not yet the request's turn. -/
def State.takeRequest (s : State) (tag : Byte) (kind : Nat) (cmd : Instr) : Option (State × HostRef) :=
  match s.link.passed.find? (fun p => ownerOf p.ref.kind = ownerOf kind) with
  | some p =>
    if p.cmd = cmd then some ({ s with link := { s.link with passed := s.link.passed.erase p } }, p.ref) else none
  | none =>
    if s.link.used < Config.linkPlaces then
      some ({ s with link := { s.link with reserved := s.link.reserved ++ [(tag, kind)] } }, ⟨tag, kind, false⟩)
    else none

/-- What an owner does with a request it answers at once: the state after it, the status and the body. -/
structure Reply where
  state : State
  status : Status
  body : List Field

/-- A refusal that changes nothing. -/
def refuse (s : State) (st : Status) : Reply := ⟨s, st, []⟩

/-- A request that its owner answers in the step in which it takes it. -/
def hostNow (tag : Byte) (kind : Nat) (cmd : Instr) (owner : State → Reply) (s : State) : Outcome :=
  match s.takeRequest tag kind cmd with
  | none => .next s
  | some (s1, ref) =>
    let r := owner s1
    doneLists s (r.state.answer ref r.status r.body)

/-- A request that its owner answers after several steps, each of which has dealt with its own kitchen lists (R17,
R144). -/
def hostStepped (tag : Byte) (kind : Nat) (cmd : Instr) (owner : State → Reply) (s : State) : Outcome :=
  match s.takeRequest tag kind cmd with
  | none => .next s
  | some (s1, ref) =>
    let r := owner s1
    done (r.state.answer ref r.status r.body)

/-- A request that may hold its answer place until a later step (PLACE, CLOSE_ROOM, UNBIND, BAR and their like, R170): the
owner is given the request's reference and answers with a reply, or with the state in which the request waits. -/
def hostLater (tag : Byte) (kind : Nat) (cmd : Instr) (owner : HostRef → State → Reply ⊕ State) (s : State) : Outcome :=
  match s.takeRequest tag kind cmd with
  | none => .next s
  | some (s1, ref) =>
    match owner ref s1 with
    | .inl r => doneLists s (r.state.answer ref r.status r.body)
    | .inr s2 => doneLists s s2

/-- The link status as the part shifts it out: the two counts, then the two marks (R168, 13 section 13.1). -/
def State.linkStatus (s : State) : List Byte :=
  [BitVec.ofNat 8 (s.link.filled.length + 16 * (Config.linkPlaces - s.link.requests.length)),
    BitVec.ofNat 8 (s.link.fullSeen.toNat + 2 * s.notice.anySet.toNat)]

/-- The start of each transfer: the sampled link status is shifted out and FULL_SEEN clears (R168). -/
def State.beginTransfer (s : State) : State :=
  { s with link := { s.link with miso := s.linkStatus, fullSeen := false } }

/-- Marks the requests that hold a reserved place dropped (R172). -/
def HostRef.drop (r : HostRef) : HostRef := { r with dropped := true }

end Sys2Proof.Machine
end

