-- ==== Sys2Proof/Machine/Minutes.lean ====
section
/-! DEFINITION. Counted seconds and minutes (R15, R16), and what each block does at a second or a minute event: the channels
(R87, R93, R96, R99), starts and ends (R48 to R50), window openings (R88), commits (R143) and closure times (R163, R165). -/

namespace Sys2Proof.Machine

/-! ### The clock's events -/

/-- The clock raises the minute event for `m`, and its day event when it has one, to the blocks that take them (R15). -/
def State.raiseMinute (s : State) (m : Nat) (day : Option Nat) : State :=
  { s with owed := { s.owed with
    starts := s.owed.starts ++ [m]
    openings := s.owed.openings ++ [m]
    commits := s.owed.commits ++ [m]
    closures := s.owed.closures ++ [m]
    retirements := s.owed.retirements ++ day.toList
    materialisations := s.owed.materialisations ++ day.toList
    plannings := s.owed.plannings ++ day.toList } }

/-- The day event that R15 gives for a new minute: minute of day 0 on a day greater than day_raised. -/
def Clock.dayEvent (c : Clock) (m : Nat) : Option Nat :=
  if m % Config.dayMinutes = 0 ∧ c.dayRaised.all (fun d => d < dayOf m) then some (dayOf m) else none

/-- The minute increases by one and its events are raised, or held while the catch-up walk is in flight (R15 steps 1 to
3). A count of 3,999,999,999 stays. -/
def State.nextMinute (s : State) : State :=
  if Config.maxMinute ≤ s.clock.minute then s
  else
    let m := s.clock.minute + 1
    let day := s.clock.dayEvent m
    let raised := match day with | some d => some d | none => s.clock.dayRaised
    let s1 := { s with clock := { s.clock with minute := m, dayRaised := raised } }
    if s.catching then { s1 with clock := { s1.clock with held := s1.clock.held ++ [⟨m, day⟩] } }
    else s1.raiseMinute m day

/-- A counted second (R15): the second event is raised, and the 60th second ends the minute. -/
def State.countSecond (s : State) : State :=
  let s1 := { s with owed := { s.owed with seconds := s.owed.seconds + 1 } }
  if s.clock.second + 1 < 60 then { s1 with clock := { s1.clock with second := s.clock.second + 1 } }
  else ({ s1 with clock := { s1.clock with second := 0 } }).nextMinute

/-- The third tick without an edge (R16): HOLDOVER, watch 0, three counted seconds, and CLOCK. -/
def State.holdover (s : State) : State :=
  ({ s with clock := { s.clock with state := .holdover, watch := 0 } }).countSecond.countSecond.countSecond.raiseClock

/-! ### Channels -/

/-- A RUNNING channel counts down by `n` seconds, stopping at 0 (R87, R99). -/
def Channel.countDown (n : Nat) (c : Channel) : Channel :=
  if c.state = .running then { c with remaining := c.remaining - n } else c

/-- Every RUNNING channel counts down (R87, R99). -/
def State.countDown (s : State) (n : Nat) : State :=
  { s with bank := { s.bank with channels := s.bank.channels.map (Channel.countDown n) } }

/-- A RUNNING channel with nothing remaining: it expires (R87). -/
def Channel.expired (c : Channel) : Bool := c.state = .running && c.remaining = 0

/-- A WINDOW channel expires (R93). Where the engine refuses the change the bank frees the channel, and the timer field of
a booking that was found goes with it (R86). -/
def State.expireWindow (s : State) (c : Nat) : State :=
  match (s.channel c).booking.bind s.find with
  | some b => if b.state = .awaiting then s.release b.handle.idx else s.dropChannel b c
  | none => s.freeChannel c

/-- A WATCH channel expires (R96); a refused change as for a WINDOW. -/
def State.expireWatch (s : State) (c : Nat) : State :=
  match (s.channel c).booking.bind s.find with
  | some b => if b.state = .inUse then s.endEarly b.handle.idx s.clock.minute else s.dropChannel b c
  | none => s.freeChannel c

/-- A channel that is expired expires under the rule of its mode. -/
def State.expireIfDue (s : State) (c : Nat) : State :=
  if (s.channel c).expired then
    match (s.channel c).mode with
    | .window => s.expireWindow c
    | .watch => s.expireWatch c
  else s

/-- Every expired channel expires. Where several reach 0 in one step the rules give them no order: ascending channel
number (log 51). -/
def State.expireAll (s : State) : State := overAll Config.channels (fun c t => t.expireIfDue c) s

/-- One second of the bank: every RUNNING channel counts down by one, and each that reaches 0 expires in that step (R87). -/
def State.bankSecond (s : State) : State := (s.countDown 1).expireAll

/-- The bank takes one second event (R87). -/
def State.takeSecond (s : State) : State :=
  ({ s with owed := { s.owed with seconds := s.owed.seconds - 1 } }).bankSecond

/-! ### Starts and ends (R48 to R50) -/

/-- The start of a booking at a minute event (R48). -/
def State.startOne (s : State) (m : Nat) (h : Handle) : State :=
  match s.bookingAt h.idx with
  | none => s
  | some b =>
    if b.state = .booked ∧ b.startMin ≤ m then
      match b.checkin with
      | .exempt => (s.modBooking h.idx fun x => { x with state := .inUse }).reportRoom b.room
      | .required =>
        if s.panelAvailable b.room ∧ b.startMin = m + (s.room b.room).earlyOpen then s
        else (s.modBooking h.idx fun x => { x with state := .inUse, checkin := .exempt, attendance := .unknown }).reportRoom b.room
    else s

/-- The end of a booking at a minute event (R49, R50). -/
def State.endOne (s : State) (m : Nat) (h : Handle) : State :=
  match s.bookingAt h.idx with
  | none => s
  | some b =>
    if b.endMin ≤ m then
      match b.state with
      | .inUse => s.endBooking h.idx id
      | .awaiting =>
        match b.timer.map fun c => (s.channel c).state with
        | some .running => s.release h.idx
        | _ => s.endBooking h.idx fun _ => .unknown
      | _ => s
    else s

/-- The bookings of one room at a minute event: starts, then ends (log 11). -/
def State.startsAndEndsIn (s : State) (m r : Nat) : State :=
  let s1 := (s.room r).timeline.foldl (fun t h => t.startOne m h) s
  (s1.room r).timeline.foldl (fun t h => t.endOne m h) s1

/-- The engine takes a minute event whole, over all rooms (03 section 3.8). -/
def State.startsAndEnds (s : State) (m : Nat) : State := overAll Config.rooms (fun r t => t.startsAndEndsIn m r) s

/-! ### Window openings (R88) -/

/-- The window of one booking of a room with an available panel at its opening minute (R88). -/
def State.openDue (s : State) (m r : Nat) (h : Handle) : State :=
  match s.bookingAt h.idx with
  | none => s
  | some b =>
    if b.state = .booked ∧ b.checkin = .required ∧ b.startMin = m + (s.room r).earlyOpen then s.openWindow h.idx else s

/-- The bank takes a minute event: the rooms with an available panel, in ascending order (R88). -/
def State.windowOpenings (s : State) (m : Nat) : State :=
  overAll Config.rooms (fun r t =>
    if t.panelAvailable r then (t.room r).timeline.foldl (fun u h => u.openDue m r h) t else t) s

/-! ### Commits (R143) -/

/-- Commits or voids the order at the head of the commit queue (R143, R184). -/
def State.commitHead (s : State) (h : Handle) : State :=
  match (s.orderAt h.idx).map Order.state with
  | some .planned => (s.modOrder h.idx fun o => { o with state := .committed }).leaveCommit h
  | some .unplaced => (s.voidOrder h).cateringFailure h.idx
  | _ => s.leaveCommit h

/-- Takes the orders at the head of the queue that are due, at most `fuel` of them. -/
def State.commitDue (s : State) (m : Nat) : Nat → State
  | 0 => s
  | fuel + 1 =>
    match s.catering.commitQueue with
    | [] => s
    | h :: _ => if s.commitOf h ≤ m then (s.commitHead h).commitDue m fuel else s

/-- The scheduler takes a minute event (R143). -/
def State.commits (s : State) (m : Nat) : State := s.commitDue m s.catering.commitQueue.length

/-! ### Closure times (R163, R165) -/

/-- Changes a room's service_state and closure and reports the change (R155). -/
def State.setService (s : State) (r : Nat) (st : ServiceState) (c : Option Closure) : State :=
  (s.modRoom r fun x => { x with service := st, closure := c }).reportRoom r

/-- One room at a minute event (R163). -/
def State.closureTime (s : State) (m r : Nat) : State :=
  let room := s.room r
  match room.inTable, room.closure with
  | true, some c =>
    if room.service = .closing ∨ c.swept = false then s
    else if c.toMin ≤ m then s.setService r .inService none
    else if c.fromMin ≤ m ∧ room.service = .inService then s.setService r .closed (some c)
    else s
  | _, _ => s

/-- The lowest-indexed configured room whose closure has swept no (R165). -/
def State.unswept (s : State) : Option Nat :=
  (upFrom 0 Config.rooms).find? fun r =>
    (s.room r).inTable && (match (s.room r).closure with | some c => !c.swept | none => false)

/-- A RESUMED sweep begins while the context is IDLE (R165). -/
def State.resumeSweep (s : State) : State :=
  if s.sweep.sweeping then s
  else
    match s.unswept with
    | none => s
    | some r => { s.setService r .closing (s.room r).closure with sweep := { Sweep.idle with sweeping := true, room := r } }

/-- The Closure Sweep Unit takes a minute event (R163, R165). -/
def State.closureTimes (s : State) (m : Nat) : State :=
  (overAll Config.rooms (fun r t => t.closureTime m r) s).resumeSweep

/-! ### Taking what is owed -/

/-- A step within a command that takes several: the kitchen lists it changed are raised once for it (R144). -/
def State.stepped (s : State) (f : State → State) : State := (f s).relist s

/-- The bank takes `n` seconds, each a step (R87). -/
def State.takeSeconds : Nat → State → State
  | 0, s => s
  | n + 1, s => State.takeSeconds n (s.stepped State.bankSecond)

/-- Takes every second event owed, with its expiries, and every minute event owed, each a step (log 9). -/
def State.takeOwed (s : State) : State :=
  let o := s.owed
  let s1 := { s with owed := { o with seconds := 0, starts := [], openings := [], commits := [], closures := [] } }
  let s2 := State.takeSeconds o.seconds s1
  let s3 := o.starts.foldl (fun t m => t.stepped fun u => u.startsAndEnds m) s2
  let s4 := o.openings.foldl (fun t m => t.stepped fun u => u.windowOpenings m) s3
  let s5 := o.commits.foldl (fun t m => t.stepped fun u => u.commits m) s4
  o.closures.foldl (fun t m => t.stepped fun u => u.closureTimes m) s5

/-- The minute and the bank's trim of 60 seconds with its expiries, in one step of a forward trim (R17, R99). -/
def State.trimMinute (s : State) : State := (s.nextMinute.countDown 60).expireAll

/-- One step of a forward trim (R17), and the minute event it raises, which the blocks take after it (log 9). -/
def State.trimForwardStep (s : State) : State := (s.stepped State.trimMinute).takeOwed

/-- A forward trim of `n` minutes (R17). -/
def State.trimForward : Nat → State → State
  | 0, s => s
  | n + 1, s => State.trimForward n s.trimForwardStep

/-- The bank's backward trim (R99). -/
def State.trimBack (s : State) (seconds : Nat) : State :=
  { s with bank := { s.bank with channels := s.bank.channels.map fun c =>
    if c.state = .running then { c with remaining := min (c.remaining + seconds) Config.maxRemaining } else c } }

end Sys2Proof.Machine
end

