-- ==== Sys2Proof/Machine/Booking.lean ====
section
/-! DEFINITION. The host requests of the Reservation Engine (chapter 3): BOOK, AMEND, CANCEL, READ_BOOKING and LIST_ROOM. -/

namespace Sys2Proof.Machine

/-- The day that an in-flight materialisation walk is making (R38 step 10, R61). -/
def State.seriesScope (s : State) (day : Nat) : Bool :=
  match s.series.walk with
  | some w => day = w.day + Config.seriesHorizon
  | none => false

/-- The status of a refused lookup (R25), or the booking. -/
def State.lookupOr (s : State) (h : Handle) : Except Status Booking :=
  match s.lookup h with
  | .badField => .error .badField
  | .noSuch => .error .noSuch
  | .stale => .error .stale
  | .found b => .ok b

/-! ### BOOK -/

/-- R38 step 3. -/
def bookFormOk (f : BookForm) : Bool :=
  f.room < Config.rooms && headOk f.headCount && f.origin < Config.buildings && noteOk f.note && codeOk f.override &&
    orderOptOk f.order

/-- The check-in value of a creation: the override, else the room's policy (03 section 3.1). -/
def checkinOf (override : Option Nat) (r : Room) : CheckinPolicy := (override.map policyOf).getD r.policy

/-- The answer of a booking made by BOOK (R39, log 23). -/
def State.bookAnswer (s : State) (h : Handle) (sp : SpanOut) (tight : Bool) : List Field :=
  match s.bookingAt h.idx with
  | some b =>
    [handleField h, minuteField b.startMin, minuteField b.endMin, flagField sp.startRounded, flagField sp.endRounded,
      u8 b.checkin.code, u8 b.state.code] ++ orderOutcome b.order tight
  | none => []

/-- R38 steps 7 to 12 and R39, for a span that stands. -/
def State.bookSpan (s : State) (f : BookForm) (sp : SpanOut) : Reply :=
  let r := s.room f.room
  if r.service = .closing then refuse s .wait
  else if r.closedFor sp.startMin sp.endMin then refuse s .closed
  else
    match s.blocker f.room none sp.startMin sp.endMin with
    | some h => ⟨s, .conflict, [handleField h]⟩
    | none =>
      if s.seriesScope (dayOf sp.startMin) then refuse s .wait
      else
        let note := storedNote f.note
        match s.makeHostBooking s.clock.minute
            (fun t => newBooking t f.room sp.startMin sp.endMin f.headCount f.organiser f.origin f.needs f.wants
              (checkinOf f.override r) .host none f.order note)
            (note ≠ []) f.order with
        | .error (st, s1) => ⟨s1, st, []⟩
        | .ok (s1, h, tight) => ⟨s1, .ok, s1.bookAnswer h sp tight⟩

/-- BOOK (R38, R39). -/
def State.book (s : State) (f : BookForm) : Reply :=
  if !s.running then refuse s .notStarted
  else if s.catching then refuse s .wait
  else if !bookFormOk f then refuse s .badField
  else if !(s.room f.room).inTable then refuse s .noSuch
  else if f.span.startMin < s.clock.minute then refuse s .tooLate
  else
    match formSpan s.clock.minute f.span none with
    | none => refuse s .badField
    | some sp => s.bookSpan f sp

def execBook (tag : Byte) (form : BookForm) (s : State) : Outcome :=
  hostNow tag 0x30 (.book tag form) (fun s => s.book form) s

/-! ### AMEND -/

/-- A room field equal to the booking's room is taken as absent (R40). -/
def amendRoom (f : AmendForm) (b : Booking) : Option Nat := if f.room = some b.room then none else f.room

/-- The state admits the fields present (R40). A terminal booking admits no AMEND (log 17). -/
def amendAdmitted (f : AmendForm) (b : Booking) : Bool :=
  match b.state with
  | .booked | .displaced => true
  | .awaiting | .inUse => f.startMin.isNone && (amendRoom f b).isNone && f.headCount.isNone
  | .ended | .endedEarly | .released | .cancelled => false

/-- R41 step 5. -/
def amendFormOk (f : AmendForm) : Bool := f.room.all (· < Config.rooms) && f.headCount.all headOk && noteOk f.note

/-- The AMEND asks for a span, a room or a head count, or brings a DISPLACED booking back: it is not note-only (R41
step 9). -/
def amendReshapes (f : AmendForm) (b : Booking) : Bool :=
  f.startMin.isSome || f.endMin.isSome || f.length.isSome || (amendRoom f b).isSome || f.headCount.isSome ||
    b.state = .displaced

/-- The AMEND asks for a new end: it gives an end or a length (R40, R43). -/
def amendEnds (f : AmendForm) : Bool := f.endMin.isSome || f.length.isSome

/-- The new span formed from the present and kept fields (R37, R41). A kept start is kept as it stands, off the grid for a
walk-up, and a length is added to it (log 42). -/
def amendForm (now : Nat) (f : AmendForm) (b : Booking) : Option SpanOut :=
  match f.startMin with
  | some m => formSpan now ⟨m, f.endMin, f.length⟩ (some (b.endMin - b.startMin))
  | none =>
    if amendEnds f then formEnd b.startMin b.startMin false f.endMin f.length none
    else some ⟨b.startMin, b.endMin, false, false⟩

/-- R41 step 8: none when the new span is malformed or out of range, or ends an AWAITING or IN_USE booking before
now + 5, be that end given or kept (log 53). -/
def amendSpan (now : Nat) (f : AmendForm) (b : Booking) : Option SpanOut :=
  (amendForm now f b).filter fun sp => !((b.state = .awaiting || b.state = .inUse) && sp.endMin < now + 5)

/-- R41 step 7. -/
def amendTooLate (now : Nat) (f : AmendForm) (b : Booking) : Bool :=
  match f.startMin with
  | some m => m < now
  | none => b.state = .displaced && b.startMin < now

/-- The note of an AMEND (R44): the state after it, or none when the allocation is refused. -/
def State.amendNote (s : State) (b : Booking) (note : Option (List Byte)) : Option State :=
  match note, b.note with
  | none, _ => some s
  | some [], none => some s
  | some [], some n => some ((s.giveBack .note n.block).modBooking b.handle.idx fun x => { x with note := none })
  | some text, some n => some (s.modBooking b.handle.idx fun x => { x with note := some ⟨n.block, text⟩ })
  | some text, none =>
    match s.allocate (.host 1) [.note] with
    | some (s1, blocks) => some (s1.modBooking b.handle.idx fun x => { x with note := some ⟨blocks.getD 0 0, text⟩ })
    | none => none

/-- The catering consequences of a move of start or room (R149): the state after them and TIGHT, or the refusal. -/
def State.amendOrder (s : State) (now : Nat) (b new : Booking) (drop : Bool) : Except Status (State × Bool) :=
  match b.order with
  | none => .ok (s, false)
  | some o =>
    match o.state with
    | .voided | .delivered | .stranded | .discarded => .ok (s, false)
    | .committed | .dispatched => if drop then .ok (s.strand b.handle.idx false, false) else .error .tooLate
    | .requested | .unplaced | .planned =>
      if s.planningScope (dayOf b.startMin) || s.planningScope (dayOf new.startMin) then .error .wait
      else
        match (s.setUncounted b.handle .unplaced none).planHost now new o.covers with
        | .ok r => .ok r
        | .error _ => if drop then .ok (s.voidOrder b.handle, false) else .error .cateringFull

/-- The booking takes its new place (R42, R43): off its old timeline, its new fields, and on the target's timeline. -/
def State.replace (s : State) (b new : Booking) : State :=
  ((s.takeOffTimeline b.room b.handle).modBooking b.handle.idx fun x =>
    { x with room := new.room, startMin := new.startMin, endMin := new.endMin, headCount := new.headCount
             state := new.state }).putOnTimeline new

/-- The answer of an AMEND of a BOOKED or DISPLACED booking (R42). -/
def State.amendAnswer (s : State) (i : Nat) (sp : SpanOut) (tight : Bool) : List Field :=
  match s.bookingAt i with
  | some b =>
    [minuteField b.startMin, minuteField b.endMin, flagField sp.startRounded, flagField sp.endRounded, u8 b.state.code] ++
      orderOutcome b.order tight
  | none => []

/-- The bank shortens a WINDOW channel whose remaining time reaches past the new end (R43, R99). -/
def State.shortenWindow (s : State) (b : Booking) (endMin : Nat) : State :=
  match b.timer with
  | some c =>
    s.modChannel c fun ch =>
      if ch.mode = .window then { ch with remaining := min ch.remaining (s.secondsTo endMin) } else ch
  | none => s

/-- A refused AMEND changes nothing but the STORE flag of an allocation that was taken and returned (R26, R40). -/
def amendUndone (s taken : State) (st : Status) : Reply :=
  refuse { s with notice := { s.notice with store := taken.notice.store } } st

/-- R41 steps 13 and 14, and the change (R42 to R44, R54). R43 gives the answer of an AMEND of the end; a note-only AMEND of an
AWAITING or IN_USE booking, whose answer R44 does not give, answers the kept end in the same way (log 23). -/
def State.amendWrite (s : State) (f : AmendForm) (b : Booking) (target : Nat) (sp : SpanOut) : Reply :=
  let now := s.clock.minute
  match s.amendNote b f.note with
  | none => refuse s .noSpace
  | some s1 =>
    if b.state = .awaiting ∨ b.state = .inUse then
      let new := { b with endMin := sp.endMin }
      let s2 := s1.replace b new
      ⟨if amendEnds f then s2.shortenWindow b sp.endMin else s2, .ok, [minuteField sp.endMin]⟩
    else
      let new := { b with
        room := target, startMin := sp.startMin, endMin := sp.endMin, headCount := f.headCount.getD b.headCount
        state := .booked }
      let moves := b.state = .booked ∧ (sp.startMin ≠ b.startMin ∨ target ≠ b.room)
      match if moves then s1.amendOrder now b new f.dropCatering else .ok (s1, false) with
      | .error st => amendUndone s s1 st
      | .ok (s2, tight) =>
        let s3 := (s2.replace b new).handleStart now b.handle.idx
        ⟨s3, .ok, s3.amendAnswer b.handle.idx sp tight⟩

/-- R41 steps 7 to 12. They are tested on the kept span of a note-only AMEND too: in the last 5 minutes of an AWAITING or
IN_USE booking step 8 refuses it, and in the closure of a CLOSING room step 10 does, where the table of 10 section 10.5 has it
taken (log 53). -/
def State.amendPlace (s : State) (f : AmendForm) (b : Booking) (target : Nat) : Reply :=
  let now := s.clock.minute
  let r := s.room target
  if amendTooLate now f b then refuse s .tooLate
  else
    match amendSpan now f b with
    | none => refuse s .badField
    | some sp =>
      if amendReshapes f b ∧ r.service = .closing then refuse s .wait
      else if r.closedFor sp.startMin sp.endMin then refuse s .closed
      else
        match s.blocker target (some b.handle) sp.startMin sp.endMin with
        | some h => ⟨s, .conflict, [handleField h]⟩
        | none =>
          if (sp.startMin ≠ b.startMin ∨ b.state = .displaced) ∧ s.seriesScope (dayOf sp.startMin) then refuse s .wait
          else s.amendWrite f b target sp

/-- AMEND (R40, R41). -/
def State.amend (s : State) (f : AmendForm) : Reply :=
  if !s.running then refuse s .notStarted
  else if s.catching then refuse s .wait
  else
    match s.lookupOr f.handle with
    | .error st => refuse s st
    | .ok b =>
      let target := (amendRoom f b).getD b.room
      if !amendAdmitted f b then refuse s .badState
      else if !amendFormOk f then refuse s .badField
      else if !amendReshapes f b ∧ f.note.isNone then ⟨s, .ok, []⟩
      else if !(s.room target).inTable then refuse s .noSuch
      else s.amendPlace f b target

def execAmend (tag : Byte) (form : AmendForm) (s : State) : Outcome :=
  hostNow tag 0x31 (.amend tag form) (fun s => s.amend form) s

/-! ### CANCEL -/

/-- The cancelled booking's order lets R28 retire it: absent or in an uncounted state. -/
def retirableOrder (o : Option Order) : Bool := o.all fun x => !x.state.counted

/-- The cancel of a BOOKED, AWAITING or DISPLACED booking (R45), then R28. -/
def State.cancelBooking (s : State) (b : Booking) : Reply :=
  let i := b.handle.idx
  let s1 := s.modBooking i fun x => { x with state := .cancelled }
  let s2 := if b.state = .displaced then s1 else s1.leaveActive i .hostCancel
  match s2.bookingAt i with
  | none => ⟨s2, .ok, []⟩
  | some x =>
    if retirableOrder x.order ∧ !x.mark then ⟨s2.retire x, .ok, [flagField true, orderStateField x.order]⟩
    else ⟨s2, .ok, [flagField false, orderStateField x.order]⟩

/-- CANCEL (R45). -/
def State.cancel (s : State) (h : Handle) : Reply :=
  if !s.running then refuse s .notStarted
  else if s.catching then refuse s .wait
  else
    match s.lookupOr h with
    | .error st => refuse s st
    | .ok b =>
      match b.state with
      | .inUse | .ended | .endedEarly | .released => refuse s .badState
      | .cancelled => refuse s .already
      | .booked | .awaiting | .displaced => s.cancelBooking b

def execCancel (tag : Byte) (handle : Handle) (s : State) : Outcome :=
  hostNow tag 0x32 (.cancel tag handle) (fun s => s.cancel handle) s

/-! ### Reading -/

/-- What READ_BOOKING returns of a booking (R46). -/
def State.readFields (s : State) (b : Booking) : List Field := s.bookingFields b false false false

/-- READ_BOOKING (R46). -/
def execReadBooking (tag : Byte) (handle : Handle) (s : State) : Outcome :=
  hostNow tag 0x33 (.readBooking tag handle) (fun s =>
    match s.lookupOr handle with
    | .error st => refuse s st
    | .ok b => ⟨s, .ok, s.readFields b⟩) s

/-- The entry count of LIST_ROOM: absent or 0 means 12, above 12 is clamped (R47). -/
def listCount (count : Option Nat) : Nat :=
  match count with
  | some 0 | none => 12
  | some n => min n 12

/-- LIST_ROOM (R47). -/
def execListRoom (tag : Byte) (room : Nat) (fromMin count : Option Nat) (s : State) : Outcome :=
  hostNow tag 0x34 (.listRoom tag room fromMin count) (fun s =>
    if Config.rooms ≤ room then refuse s .badField
    else if !(s.room room).inTable then refuse s .noSuch
    else
      let r := s.room room
      let rest := (s.timelineOf room).filter fun b => fromMin.getD s.clock.minute < b.endMin
      let n := listCount count
      ⟨s, .ok, [u8 r.service.code] ++ closureFields r.closure ++ [u8 r.turnover, u16 r.timeline.length] ++
        listField (fun b => bookingHead b false false ++ [orderStateField b.order]) (rest.take n) ++
        [flagField (n < rest.length)]⟩) s

end Sys2Proof.Machine
end

