-- ==== Sys2Proof/Machine/Frames.lean ====
section
/-! DEFINITION. The panel bus frames (13 section 13.2): the frame check (R189), the frames the part sends, and the decoding
of a received REPLY (R189, R190). -/

namespace Sys2Proof.Machine

/-- The port and the address of a panel index (00_scope, "Handles, indexes and sets"). -/
def portOf (p : Nat) : Nat := p / 32
def addressOf (p : Nat) : Nat := p % 32 + 1

/-! ### The frame check -/

/-- One bit of the division by 1021h, most significant bit first (R189). -/
def crcBit (c : BitVec 16) : BitVec 16 := if c.msb then (c <<< 1) ^^^ 0x1021 else c <<< 1

def crcBits : Nat → BitVec 16 → BitVec 16
  | 0, c => c
  | n + 1, c => crcBits n (crcBit c)

/-- One byte enters the check (R189). -/
def crcByte (c : BitVec 16) (b : Byte) : BitVec 16 := crcBits 8 (c ^^^ (b.setWidth 16 <<< 8))

/-- The frame check of bytes, begun at FFFFh (R189). -/
def frameCheck (bs : List Byte) : BitVec 16 := bs.foldl crcByte 0xFFFF

/-- A frame with its check, sent least significant byte first (R189). -/
def withCheck (bs : List Byte) : List Byte := bs ++ leBytes 2 (frameCheck bs).toNat

/-! ### Frames the part sends -/

/-- The result block (13 section 13.2). -/
def resultBlock (r : PanelResult) : List Byte :=
  let payload := encodeFields r.payload
  leBytes 1 r.code ++ leBytes 1 r.status.code ++ leBytes 1 payload.length ++ payload

/-- Result present, and the block when present. -/
def resultPart (r : Option PanelResult) : List Byte :=
  match r with
  | some x => 1 :: resultBlock x
  | none => [0]

/-- POLL (13 section 13.2). -/
def pollFrame (p viewSeq : Nat) (r : Option PanelResult) : List Byte :=
  withCheck (leBytes 1 (addressOf p) ++ [1] ++ leBytes 1 viewSeq ++ resultPart r)

/-- An entry of a VIEW. -/
def viewEntryFields (e : ViewEntry) : List Field :=
  [handleField e.handle, minuteField e.startMin, minuteField e.endMin, u8 e.state.code, .text e.note]

/-- VIEW (13 section 13.2). -/
def viewFrame (p viewSeq : Nat) (v : View) (r : Option PanelResult) : List Byte :=
  withCheck (leBytes 1 (addressOf p) ++ [3] ++ leBytes 1 viewSeq ++
    encodeFields ([u8 v.service.code, .num 4 (v.closure.map (·.fromMin)), .num 4 (v.closure.map (·.toMin)),
      .num 4 v.freeUntil, u8 (v.current.isSome.toNat + 16 * v.following.length)] ++
      (v.current.toList ++ v.following).flatMap viewEntryFields) ++ resultPart r)

/-- An entry of a LIST. -/
def listEntryFields (e : ListEntry) : List Field :=
  [handleField e.handle, u16 e.room, u8 e.building, .num 4 e.ready, u16 e.covers, u8 e.state.code, u8 e.lines.length] ++
    e.lines.flatMap lineFields

/-- LIST (13 section 13.2). -/
def listFrame (p listSeq : Nat) (es : List ListEntry) (r : Option PanelResult) : List Byte :=
  withCheck (leBytes 1 (addressOf p) ++ [4] ++ leBytes 1 listSeq ++
    encodeFields (u8 es.length :: es.flatMap listEntryFields) ++ resultPart r)

/-- The follow-up frame of a slot's content (R110). -/
def contentFrame (p viewSeq : Nat) (c : Content) (r : Option PanelResult) : List Byte :=
  match c with
  | .view v => viewFrame p viewSeq v r
  | .list es => listFrame p viewSeq es r

/-! ### A received REPLY -/

/-- The fields of a REPLY (13 section 13.2). -/
structure PanelReply where
  acked : Nat
  code : Nat
  occupancy : Nat
  seconds : Nat
  battery : Nat
  fields : List Byte
deriving DecidableEq, Repr

/-- A received frame when it is valid for the panel waited on (R189): its check matches, its address is the panel's, its
type is REPLY and its length agrees with its field length. -/
def validReply (p : Nat) (frame : List Byte) : Option PanelReply :=
  let body := frame.take (frame.length - 2)
  if frame = withCheck body then
    match body with
    | addr :: ty :: acked :: code :: occ :: s0 :: s1 :: battery :: len :: fields =>
      if addr.toNat = addressOf p ∧ ty = 2 ∧ fields.length = len.toNat then
        some ⟨acked.toNat, code.toNat, occ.toNat, leNat [s0, s1], battery.toNat, fields⟩
      else none
    | _ => none
  else none

/-- A badge id of 4 bytes. -/
def badgeOf (bs : List Byte) : Id32 := BitVec.ofNat 32 (leNat (bs.take 4))

/-- A handle of 3 bytes; FFFFFFh is no handle (R190). -/
def handleOf (bs : List Byte) : Option Handle :=
  if leNat (bs.take 3) = 0xFFFFFF then none else some ⟨leNat (bs.take 2), leNat ((bs.drop 2).take 1)⟩

/-- How many field bytes a request code needs (13 section 13.2). -/
def fieldsNeeded (code : Nat) : Nat :=
  if code = 1 then 7 else if code = 2 then 5 else if code = 3 then 4 else if code = 5 then 0 else 3

/-- The command of a panel request (R113, R190): none when the code is above 9 or its fields are too short, which the
controller answers BAD_FIELD. Extra field bytes are ignored. -/
def panelCommand (src : PanelRef) (code : Nat) (fields : List Byte) : Option Instr :=
  if fields.length < fieldsNeeded code then none
  else
    match code with
    | 1 => some (.checkIn src (badgeOf fields) (handleOf (fields.drop 4)))
    | 2 => some (.walkUp src (leNat (fields.take 1)) (badgeOf (fields.drop 1)))
    | 3 => some (.extend src (leNat (fields.take 1)) (handleOf (fields.drop 1)))
    | 4 => some (.endNow src (handleOf fields))
    | 5 => some (.findNearby src)
    | 6 => some (.received src (handleOf fields))
    | 7 => some (.out src (handleOf fields))
    | 8 => some (.handed src (handleOf fields))
    | 9 => some (.discard src (handleOf fields))
    | _ => none

/-- A hand-over that is a request of the panel. -/
def isRequestOf (p : Nat) : Instr → Bool
  | .checkIn src _ _ => src.panel = p
  | .walkUp src _ _ => src.panel = p
  | .extend src _ _ => src.panel = p
  | .endNow src _ => src.panel = p
  | .findNearby src => src.panel = p
  | .received src _ => src.panel = p
  | .out src _ => src.panel = p
  | .handed src _ => src.panel = p
  | .discard src _ => src.panel = p
  | _ => false

end Sys2Proof.Machine
end

