-- ==== Sys2Proof/Machine/Panels.lean ====
section
/-! DEFINITION. The Panel Bus Controller's shared operations: views and lists (R116 to R120), binding changes (R104, R105),
the result slot (R114, R115), scheduling (R108), a transaction's frames (R109 to R112). -/

namespace Sys2Proof.Machine

/-- The effective interval (R108). -/
def Panel.interval (p : Panel) : Nat :=
  match p.power with
  | .normal => 2 ^ p.pollExp
  | .saving | .critical => 2 ^ max p.pollExp 4

/-! ### Views and lists -/

def viewEntry (b : Booking) : ViewEntry := ⟨b.handle, b.startMin, b.endMin, b.state, (b.note.map (·.text)).getD []⟩

/-- The view of a room as its record and timeline stand (R116). -/
def State.buildView (s : State) (r : Nat) : View :=
  let room := s.room r
  let tl := s.timelineOf r
  let current := tl.head?.bind fun b => if b.state = .awaiting ∨ b.state = .inUse then some b else none
  let rest := if current.isSome then tl.drop 1 else tl
  { service := room.service
    closure := room.closure
    current := current.map viewEntry
    following := (rest.take 3).map viewEntry
    freeUntil := if current.isNone ∧ room.service = .inService then s.freeUntil r s.clock.minute else none }

/-- The slots swap: the candidate becomes active with the sequence given (R116, R118). -/
def Panel.swapIn (p : Panel) (c : Content) (seq : Nat) : Panel :=
  { p with active := some c, staging := p.active, viewSeq := seq, sinceView := 0 }

/-- A view that is built: view_seq rises by one and view_deferred becomes clear (R116). -/
def Panel.publish (p : Panel) (v : View) : Panel :=
  { p.swapIn (.view v) ((p.viewSeq + 1) % 256) with viewDeferred := false }

/-- Whether a candidate is built at once in the panel's power class (R120). An invalid active slot differs in
everything. -/
def Panel.buildsAtOnce (p : Panel) (v : View) : Bool :=
  match p.active with
  | some (.view old) =>
    match p.power with
    | .normal => true
    | .saving =>
      old.service ≠ v.service || old.closure ≠ v.closure || old.freeUntil ≠ v.freeUntil || old.current ≠ v.current ||
        old.following.head? ≠ v.following.head?
    | .critical => old.current ≠ v.current
  | _ => true

/-- A candidate view in the staging slot: discarded when it equals the active view, built, or deferred (R116, R120). -/
def Panel.offer (p : Panel) (v : View) : Panel :=
  if p.active = some (.view v) then { p with staging := none }
  else if p.buildsAtOnce v then p.publish v
  else { p with staging := none, viewDeferred := true }

/-- A view built whatever the power class, unless it equals the active view (R119, R120). -/
def Panel.rebuild (p : Panel) (v : View) : Panel :=
  if p.active = some (.view v) then { p with staging := none } else p.publish v

/-- A room panel's view built at once (R103, R119, R120, R121). -/
def State.rebuildView (s : State) (p : Nat) : State :=
  match (s.panel p).kind, (s.panel p).boundTo with
  | some .room, some r => s.modPanel p fun e => e.rebuild (s.buildView r)
  | _, _ => s

/-- A kitchen's list built into one terminal (R118). -/
def State.buildList (s : State) (k p : Nat) : State :=
  s.modPanel p fun e => e.swapIn (.list (s.kitchenList k)) (s.kitchen k).listSeq

/-! ### Requests and results -/

/-- The slot a new request or a change finds: a PENDING search is withdrawn, and the slot becomes EMPTY (R104, R105,
R115). -/
def State.emptySlot (s : State) (p : Nat) : State :=
  match (s.panel p).slot with
  | .pending n => (s.hand (.withdrawal p n)).modPanel p fun e => { e with slot := .empty }
  | _ => s.modPanel p fun e => { e with slot := .empty }

/-- The result a frame to the panel carries: the one in its slot (R109, R110). -/
def Panel.result (p : Panel) : Option PanelResult := match p.slot with | .result r => some r | _ => none

/-- The active slot's contents are owed: they are valid, and acked_seq differs from view_seq, or is UNKNOWN (R110), or was
UNKNOWN when the REPLY to a POLL came and the forced view has had no REPLY since (R112, R117, log 60). -/
def Panel.owesView (p : Panel) : Bool := p.active.isSome && (p.ackedSeq ≠ some p.viewSeq || p.viewForced)

/-- A follow-up is owed: the view or list is, or the slot holds a result (R110). -/
def Panel.owesFollowUp (p : Panel) : Bool := p.owesView || p.result.isSome

/-- The transaction ends and the port becomes IDLE (R110, R111). -/
def State.endTransaction (s : State) (port : Nat) : State :=
  s.modPort port fun q => { q with phase := .idle, panel := 0, carried := false, followed := false }

/-- The controller decides the follow-up (R110): it is sent and the port becomes FOLLOWING, or the transaction ends. -/
def State.decideFollowUp (s : State) (port p : Nat) : State :=
  let e := s.panel p
  match e.owesFollowUp, e.active with
  | true, some c =>
    s.modPort port fun q =>
      { q with phase := .following, panel := p, carried := e.result.isSome, sent := contentFrame p e.viewSeq c e.result }
  | _, _ => s.endTransaction port

/-- After an owner has answered: the port that is SERVING the panel goes on, when no request of the panel is still with
its owner: the follow-up is decided (R110), or the transaction ends where it has had its follow-up (R111). -/
def State.served (s : State) (p : Nat) : State :=
  let q := s.port (portOf p)
  if q.phase = .serving ∧ q.panel = p ∧ !s.handed.any (isRequestOf p) then
    if q.followed then s.endTransaction (portOf p) else s.decideFollowUp (portOf p) p
  else s

/-- What an owner gives back to a panel request: a result, or PENDING naming a search (R114). -/
inductive PanelAnswer where
  | result (status : Status) (payload : List Field)
  | pending (search : Nat)
deriving DecidableEq, Repr

/-- The owner's result is put in the slot in the step in which it gives it (R114), and the port goes on (R110). The
follow-up is formed and sent in this step, before the VIEW_BUILD of a change that the request itself made (log 61). -/
def State.answerPanel (s : State) (p code : Nat) (a : PanelAnswer) : State :=
  let slot : ResultSlot := match a with
    | .result st payload => .result ⟨code, st, payload⟩
    | .pending n => .pending n
  (s.modPanel p fun e => { e with slot := slot }).served p

/-- A panel request reaches its owner as an event of its own (R110, R113): the hand-over is taken, the owner decides, and
the result goes to the slot. -/
def panelNow (src : PanelRef) (code : Nat) (cmd : Instr) (owner : State → State × PanelAnswer) (s : State) : Outcome :=
  let r := owner (s.takeHanded cmd)
  doneLists s (r.1.answerPanel src.panel code r.2)

/-! ### Binding changes -/

/-- The room's panel has stopped being available: the controller reports it to the bank (R97). -/
def State.reportUnavailable (s : State) (p : Nat) : State :=
  match (s.panel p).kind, (s.panel p).boundTo with
  | some .room, some r => s.hand (.panelUnavailable r)
  | _, _ => s

/-- The room's panel has become available (R98). -/
def State.reportAvailable (s : State) (p : Nat) : State :=
  match (s.panel p).kind, (s.panel p).boundTo with
  | some .room, some r => s.hand (.panelAvailable r)
  | _, _ => s

/-- The room's panel field or the kitchen's terminals give the panel up (R104). -/
def State.releaseBinding (s : State) (p : Nat) : State :=
  match (s.panel p).kind, (s.panel p).boundTo with
  | some .room, some r => s.modRoom r fun x => { x with panel := none }
  | some .kitchen, some k => s.modKitchen k fun x => { x with terminals := x.terminals.filter (· ≠ p) }
  | _, _ => s

/-- The change of UNBIND (R104). -/
def State.makeUnbound (s : State) (p : Nat) : State :=
  (((s.emptySlot p).reportUnavailable p).releaseBinding p).modPanel p fun e =>
    { e with kind := none, boundTo := none, active := none, staging := none, ackedSeq := none, viewDeferred := false
             misses := 0, state := .unbound, hold := none }

/-- The change of BAR (R105). A PENDING slot is withdrawn and emptied; a slot that holds a result keeps it (log 59). -/
def State.makeBarred (s : State) (p : Nat) : State :=
  let s1 := match (s.panel p).slot with | .pending _ => s.emptySlot p | _ => s
  (s1.reportUnavailable p).modPanel p fun e =>
    { e with state := .barred, misses := 0, ackedSeq := none, hold := none }

/-- The change a hold waits for. -/
def State.makeHold (s : State) (p : Nat) (k : HoldKind) : State :=
  match k with
  | .unbind => s.makeUnbound p
  | .bar => s.makeBarred p

/-! ### Scheduling -/

/-- The panel is considered by its port's scheduler and is due (R108). -/
def Panel.due (p : Panel) : Bool :=
  (p.state = .bound || p.state = .online || p.state = .late || p.state = .lost) && p.hold.isNone && p.interval ≤ p.sincePoll

/-- How far behind a due panel is (R108). -/
def Panel.behind (p : Panel) : Nat := p.sincePoll - p.interval

/-- The panel that a scheduler chooses among the first `n` addresses of its port: the most overdue, a tie to the lower
address (R108). -/
def State.choose (s : State) (port : Nat) : Nat → Option Nat
  | 0 => none
  | n + 1 =>
    let p := port * 32 + n
    match s.choose port n with
    | none => if (s.panel p).due then some p else none
    | some q => if (s.panel p).due && (s.panel q).behind < (s.panel p).behind then some p else some q

/-- Some panel of the port has a hold (R109). -/
def State.holdOnPort (s : State) (port : Nat) : Bool := (upFrom (port * 32) 32).any fun p => (s.panel p).hold.isSome

/-- The port has a transaction in progress. -/
def Port.busy (q : Port) : Bool := q.phase ≠ .idle

/-! ### Replies and misses -/

/-- The power class after a battery report (R119). -/
def PowerClass.after (c : PowerClass) (battery : Nat) : PowerClass :=
  match c with
  | .normal => if battery ≤ 4 then .critical else if battery ≤ 19 then .saving else .normal
  | .saving => if battery ≤ 4 then .critical else if 25 ≤ battery then .normal else .saving
  | .critical => if 25 ≤ battery then .normal else .critical

/-- The battery report of a REPLY and the test of the power class (R110 step 4, R119). -/
def State.takeBattery (s : State) (p reported : Nat) : State :=
  let before := (s.panel p).power
  let battery := min reported 100
  let after := before.after battery
  let s1 := s.modPanel p fun e => { e with battery := battery, power := after }
  if after = .critical ∧ before ≠ .critical then s1.markPanel p
  else if after = .normal ∧ before ≠ .normal ∧ (s1.panel p).viewDeferred then s1.rebuildView p
  else s1

/-- A REPLY makes its panel ONLINE (R110 step 2, R112). -/
def State.makeOnline (s : State) (p : Nat) : State :=
  let before := (s.panel p).state
  let s1 := s.modPanel p fun e => { e with state := .online, misses := 0, sincePoll := 0 }
  match before with
  | .lost => (s1.markPanel p).reportAvailable p
  | .bound => s1.reportAvailable p
  | _ => s1

/-- The occupancy reading of a room panel's REPLY (R110 step 5, R190). -/
def State.handReading (s : State) (p : Nat) (r : PanelReply) : State :=
  match (s.panel p).kind, (s.panel p).boundTo with
  | some .room, some room =>
    if r.occupancy = 0 then s.hand (.occupancyReading room false r.seconds)
    else if r.occupancy = 1 then s.hand (.occupancyReading room true r.seconds)
    else s
  | _, _ => s

/-- acked_seq takes the sequence that a REPLY reports (R110 step 3). A REPLY to a POLL that finds it UNKNOWN forces the view
to be sent, though the sequence is that of view_seq, until the REPLY to a follow-up is taken (R105, R112, R117, R121;
log 60). -/
def Panel.acknowledge (p : Panel) (toPoll : Bool) (seq : Nat) : Panel :=
  { p with ackedSeq := some seq, viewForced := toPoll && (p.ackedSeq.isNone || p.viewForced) }

/-- Steps 1 to 5 of R110. -/
def State.takeReport (s : State) (port p : Nat) (r : PanelReply) : State :=
  let s1 := if (s.port port).carried then s.modPanel p fun e => { e with slot := .empty } else s
  let s2 := (s1.makeOnline p).modPanel p fun e => e.acknowledge ((s.port port).phase = .polling) r.acked
  (s2.takeBattery p r.battery).handReading p r

/-- Step 6 of R110, with R113, R115 and R190: the state, and whether a request was handed to its owner. -/
def State.takePanelRequest (s : State) (p : Nat) (r : PanelReply) : State × Bool :=
  if r.code = 0 then (s, false)
  else
    let s1 := s.emptySlot p
    let src : PanelRef := ⟨p, ((s.panel p).kind).getD .room, ((s.panel p).boundTo).getD 0⟩
    match panelCommand src r.code r.fields with
    | some cmd => (s1.hand cmd, true)
    | none => (s1.modPanel p fun e => { e with slot := .result ⟨r.code, .badField, []⟩ }, false)

/-- A miss (R111, R112). -/
def State.miss (s : State) (p : Nat) : State :=
  let e := s.panel p
  let s1 := s.modPanel p fun e => { e with missed := saturate e.missed }
  match e.state with
  | .bound =>
    if e.misses + 1 < 3 then s1.modPanel p fun e => { e with misses := e.misses + 1 }
    else (s1.modPanel p fun e => { e with misses := 3, state := .lost, ackedSeq := none }).markPanel p
  | .online => s1.modPanel p fun e => { e with misses := 1, state := .late }
  | .late =>
    if e.misses + 1 < 3 then s1.modPanel p fun e => { e with misses := e.misses + 1 }
    else ((s1.modPanel p fun e => { e with misses := 3, state := .lost, ackedSeq := none }).markPanel p).reportUnavailable p
  | .lost | .unbound | .barred => s1

end Sys2Proof.Machine
end

