-- ==== Sys2Proof/Machine/Orders.lean ====
section
/-! DEFINITION. The requests of the Catering Scheduler (chapter 9): ORDER, CHANGE_ORDER, VOID_ORDER, READ_LOAD, and from the
panels OUT, HANDED, DISCARD and RECEIVED. -/

namespace Sys2Proof.Machine

/-! ### Host requests on orders -/

/-- Common steps 1 to 3 of 09 section 9.4. -/
def State.orderRequest (s : State) (h : Handle) : Except Status Booking :=
  if !s.running then .error .notStarted
  else if s.catching then .error .wait
  else s.lookupOr h

/-- The order of a booking as an answer gives it (R139). -/
def State.orderAnswer (s : State) (i : Nat) (tight : Bool) : List Field := orderOutcome (s.orderAt i) tight

/-- The new order stands in the booking, not yet planned. -/
def State.writeOrder (s : State) (i block : Nat) (f : OrderForm) : State :=
  s.modBooking i fun b => { b with order := some (newOrder block f) }

/-- The block of an ORDER: the voided order's own, or one taken (R140 step 9, R23). -/
def State.orderBlock (s : State) (b : Booking) : Option (State × Nat) :=
  match b.order with
  | some o => some (s, o.block)
  | none => (s.allocate (.host 1) [.order]).map fun r => (r.1, r.2.getD 0 0)

/-- R140 steps 9 and 10. A refused plan returns the block (R21) and leaves a voided order as it was. -/
def State.placeOrder (s : State) (b : Booking) (f : OrderForm) : Reply :=
  match s.orderBlock b with
  | none => refuse s .noSpace
  | some (s1, block) =>
    match (s1.writeOrder b.handle.idx block f).planHost s.clock.minute b f.covers with
    | .error st => amendUndone s s1 st
    | .ok (s2, tight) => ⟨s2, .ok, s2.orderAnswer b.handle.idx tight⟩

/-- R140 steps 5 to 8. -/
def State.order (s : State) (h : Handle) (f : OrderForm) : Reply :=
  match s.orderRequest h with
  | .error st => refuse s st
  | .ok b =>
    if !orderOk f then refuse s .badField
    else if b.order.any fun o => o.state ≠ .voided then refuse s .badState
    else
      match b.state with
      | .displaced | .ended | .endedEarly | .released | .cancelled => refuse s .badState
      | .awaiting | .inUse => refuse s .tooLate
      | .booked => if s.planningScope (dayOf b.startMin) then refuse s .wait else s.placeOrder b f

/-- ORDER (R140). -/
def execOrder (tag : Byte) (handle : Handle) (form : OrderForm) (s : State) : Outcome :=
  hostNow tag 0x80 (.order tag handle form) (fun s => s.order handle form) s

/-- New contents in an order. -/
def State.writeContents (s : State) (i : Nat) (f : OrderForm) : State :=
  s.modOrder i fun o => { o with covers := f.covers, lines := f.lines }

/-- A re-plan with new contents in the HOST context; a failure restores the old contents and placing (R141). -/
def State.replan (s : State) (b : Booking) (f : OrderForm) : Reply :=
  if s.planningScope (dayOf b.startMin) then refuse s .wait
  else
    let s1 := (s.setUncounted b.handle .unplaced none).writeContents b.handle.idx f
    match s1.planHost s.clock.minute b f.covers with
    | .error st => refuse s st
    | .ok (s2, tight) => ⟨s2, .ok, s2.orderAnswer b.handle.idx tight⟩

/-- R141, by the state of the order. -/
def State.changeOrder (s : State) (h : Handle) (f : OrderForm) : Reply :=
  match s.orderRequest h with
  | .error st => refuse s st
  | .ok b =>
    if !orderOk f then refuse s .badField
    else
      match b.order with
      | none => refuse s .noSuch
      | some o =>
        let kept := s.writeContents b.handle.idx f
        match o.state with
        | .voided => refuse s .badState
        | .committed | .dispatched | .delivered | .stranded | .discarded => refuse s .tooLate
        | .requested => ⟨kept, .ok, kept.orderAnswer b.handle.idx false⟩
        | .planned =>
          if f.covers = o.covers then ⟨kept, .ok, kept.orderAnswer b.handle.idx false⟩ else s.replan b f
        | .unplaced => s.replan b f

/-- CHANGE_ORDER (R141). -/
def execChangeOrder (tag : Byte) (handle : Handle) (form : OrderForm) (s : State) : Outcome :=
  hostNow tag 0x81 (.changeOrder tag handle form) (fun s => s.changeOrder handle form) s

/-- VOID_ORDER (R142). -/
def execVoidOrder (tag : Byte) (handle : Handle) (s : State) : Outcome :=
  hostNow tag 0x82 (.voidOrder tag handle) (fun s =>
    match s.orderRequest handle with
    | .error st => refuse s st
    | .ok b =>
      match b.order.map Order.state with
      | none => refuse s .noSuch
      | some .voided => refuse s .already
      | some .requested | some .unplaced | some .planned =>
        let s1 := s.voidOrder handle
        ⟨s1, .ok, s1.orderAnswer handle.idx false⟩
      | some .committed | some .dispatched | some .delivered | some .stranded | some .discarded => refuse s .tooLate) s

/-- The windows that READ_LOAD returns: an absent or 0 count means 96, and the count is cut at window 95 (R153). -/
def loadCount (window : Nat) (count : Option Nat) : Nat :=
  min (match count with | some 0 | none => Config.windows | some n => n) (Config.windows - window)

/-- READ_LOAD (R153). -/
def execReadLoad (tag : Byte) (kitchen day window : Nat) (count : Option Nat) (s : State) : Outcome :=
  hostNow tag 0x83 (.readLoad tag kitchen day window count) (fun s =>
    if Config.kitchens ≤ kitchen ∨ Config.windows ≤ window then refuse s .badField
    else if !s.held day then refuse s .noSuch
    else
      ⟨s, .ok, listField (fun w => [u16 (s.load kitchen ⟨day, w⟩), u16 (s.capacity kitchen w)])
          (upFrom window (loadCount window count)) ++
        [.num 4 s.catering.horizon, u16 s.catering.requestList.length, u16 s.catering.commitQueue.length]⟩) s

/-! ### Requests from the panels -/

/-- The tests that every panel request meets first (R113, R145 steps 1 and 2). -/
def State.panelGate (s : State) : Option Status :=
  if !s.running then some .notStarted else if s.catching then some .wait else none

/-- The booking of a panel's handle; a handle that is absent or not found has none. -/
def State.panelBooking (s : State) (h : Option Handle) : Option Booking := h.bind s.find

/-- Steps 1 to 6 of R145: the booking and its order, or the refusal. -/
def State.kitchenTest (s : State) (src : PanelRef) (h : Option Handle) : Except Status (Booking × Order) :=
  match s.panelGate with
  | some st => .error st
  | none =>
    if src.kind = .room then .error .badState
    else
      match s.panelBooking h with
      | none => .error .noSuch
      | some b =>
        match b.order with
        | none => .error .noSuch
        | some o =>
          if s.planningScope (dayOf b.startMin) then .error .wait
          else if o.kitchen ≠ some src.target then .error .noSuch
          else .ok (b, o)

/-- A result without payload. -/
def plain (s : State) (st : Status) : State × PanelAnswer := (s, .result st [])

/-- The order's state changes and nothing else of it. -/
def State.setOrderState (s : State) (i : Nat) (st : OrderState) : State := s.modOrder i fun o => { o with state := st }

/-- OUT (R145). -/
def execOut (src : PanelRef) (handle : Option Handle) (s : State) : Outcome :=
  panelNow src 7 (.out src handle) (fun s =>
    match s.kitchenTest src handle with
    | .error st => plain s st
    | .ok (b, o) =>
      match o.state with
      | .committed => plain (s.setOrderState b.handle.idx .dispatched) .ok
      | .dispatched | .delivered => plain s .already
      | .planned | .stranded | .discarded | .requested | .unplaced | .voided => plain s .badState) s

/-- HANDED (R146). -/
def execHanded (src : PanelRef) (handle : Option Handle) (s : State) : Outcome :=
  panelNow src 8 (.handed src handle) (fun s =>
    match s.kitchenTest src handle with
    | .error st => plain s st
    | .ok (b, o) =>
      match o.state with
      | .dispatched => plain ((s.setOrderState b.handle.idx .delivered).leaveDispatch b.handle) .ok
      | .delivered => plain s .already
      | .planned | .committed | .stranded | .discarded | .requested | .unplaced | .voided => plain s .badState) s

/-- DISCARD (R146). -/
def execDiscard (src : PanelRef) (handle : Option Handle) (s : State) : Outcome :=
  panelNow src 9 (.discard src handle) (fun s =>
    match s.kitchenTest src handle with
    | .error st => plain s st
    | .ok (b, o) =>
      match o.state with
      | .stranded => plain ((s.setOrderState b.handle.idx .discarded).leaveDispatch b.handle) .ok
      | .discarded => plain s .already
      | .planned | .committed | .dispatched | .delivered | .requested | .unplaced | .voided => plain s .badState) s

/-- The tests of RECEIVED (R147). -/
def State.receivedTest (s : State) (src : PanelRef) (h : Option Handle) : Except Status (Booking × Order) :=
  match s.panelGate with
  | some st => .error st
  | none =>
    if src.kind = .kitchen then .error .badState
    else
      match s.panelBooking h with
      | none => .error .noSuch
      | some b =>
        if b.room ≠ src.target ∨ !(b.state = .awaiting ∨ b.state = .inUse) then .error .noSuch
        else match b.order with | none => .error .noSuch | some o => .ok (b, o)

/-- RECEIVED (R147). -/
def execReceived (src : PanelRef) (handle : Option Handle) (s : State) : Outcome :=
  panelNow src 6 (.received src handle) (fun s =>
    match s.receivedTest src handle with
    | .error st => plain s st
    | .ok (b, o) =>
      match o.state with
      | .dispatched => plain ((s.setOrderState b.handle.idx .delivered).leaveDispatch b.handle) .ok
      | .delivered => plain s .already
      | .requested | .planned | .unplaced | .committed | .stranded | .discarded | .voided => plain s .badState) s

end Sys2Proof.Machine
end

