-- ==== Sys2Proof/Machine/Attendance.lean ====
section
/-! DEFINITION. The commands of the Attendance Timer Bank (chapter 6): expiries, CHECK_IN, readings, and the reports that a
panel can or cannot be heard. -/

namespace Sys2Proof.Machine

/-! ### Expiries -/

/-- The second event that is owed brings the channel to 0 (R87). -/
def State.lastSecond (s : State) (c : Nat) : Bool :=
  s.owed.seconds ≠ 0 && (s.channel c).state = .running && (s.channel c).remaining = 1

/-- WINDOW_EXPIRY of a channel (R87, R93): the second event in whose step it expires, commanded by the expiry's name (log
7). -/
def execWindowExpiry (channel : Nat) (s : State) : Outcome :=
  if (s.channel channel).mode ≠ .window then .next s
  else if (s.channel channel).expired then doneLists s (s.expireWindow channel)
  else if s.lastSecond channel then doneLists s s.takeSecond
  else .next s

/-- ABSENCE_EXPIRY of a channel (R87, R96): the second event in whose step it expires, commanded by the expiry's name (log
7). -/
def execAbsenceExpiry (channel : Nat) (s : State) : Outcome :=
  if (s.channel channel).mode ≠ .watch then .next s
  else if (s.channel channel).expired then doneLists s (s.expireWatch channel)
  else if s.lastSecond channel then doneLists s s.takeSecond
  else .next s

/-! ### Minute events -/

/-- WINDOW_OPENING: the bank takes one minute event (R88). -/
def execWindowOpening (s : State) : Outcome :=
  match s.owed.openings with
  | [] => .next s
  | m :: rest => doneLists s (({ s with owed := { s.owed with openings := rest } }).windowOpenings m)

/-! ### Check-in -/

/-- The cases of R91 and R92. -/
def State.checkIn (s : State) (src : PanelRef) (badge : Id32) (h : Option Handle) : State × PanelAnswer :=
  match s.panelGate with
  | some st => plain s st
  | none =>
    if src.kind = .kitchen then plain s .noSuch
    else
      match s.panelBooking h with
      | none => plain s .noSuch
      | some b =>
        if b.room ≠ src.target then plain s .noSuch
        else
          match b.state with
          | .booked => plain s .tooEarly
          | .awaiting =>
            if (s.room b.room).timeline.head? ≠ some b.handle then plain s .tooEarly
            else if (s.room b.room).who = .organiser ∧ badge ≠ b.organiser then plain s .notOrganiser
            else plain (s.checkInBooking b) .ok
          | .inUse => plain s .already
          | .released => (s, .result .tooLate [.num 4 (s.freeUntil b.room s.clock.minute)])
          | .ended | .endedEarly | .cancelled | .displaced => plain s .noSuch

/-- CHECK_IN (R91, R92). -/
def execCheckIn (src : PanelRef) (badge : Id32) (handle : Option Handle) (s : State) : Outcome :=
  panelNow src 1 (.checkIn src badge handle) (fun s => s.checkIn src badge handle) s

/-! ### Occupancy -/

/-- The auto check-in of an OCCUPIED reading (R94): of the first booking on the timeline, when it is AWAITING and no
booking of the room is IN_USE. -/
def State.autoCheckIn (s : State) (room : Nat) (occupied : Bool) : State :=
  match (s.timelineOf room).head? with
  | some b =>
    if occupied ∧ (s.room room).autoCheckin ∧ b.state = .awaiting ∧
        ((s.timelineOf room).all fun x => x.state ≠ .inUse) then
      s.checkInBooking b
    else s
  | none => s

/-- The IN_USE booking of a room and its channel, when it has one. R95 speaks of one such booking; where two are IN_USE it is
the first on the timeline, and there is no channel when that one has none (log 56). -/
def State.watched (s : State) (room : Nat) : Option (Booking × Nat) :=
  ((s.timelineOf room).find? fun b => b.state = .inUse).bind fun b => b.timer.map fun c => (b, c)

/-- A reading reaches the WATCH channel of the room's IN_USE booking (R95). -/
def State.takeReading (s : State) (room : Nat) (occupied : Bool) (seconds : Nat) : State :=
  match s.watched room with
  | none => s
  | some (b, c) =>
    let ch := s.channel c
    let limit := (s.room room).absenceLimit
    if ch.mode = .watch ∧ (ch.state = .running ∨ ch.state = .paused) then
      if limit = 0 then s.dropChannel b c
      else if occupied then s.modChannel c fun x => { x with state := .paused }
      else
        let s1 := s.modChannel c fun x => { x with state := .running, remaining := limit * 60 - seconds }
        if limit * 60 - seconds = 0 then s1.expireWatch c else s1
    else s

/-- OCCUPANCY_READING (R94, R95). -/
def execOccupancyReading (room : Nat) (occupied : Bool) (seconds : Nat) (s : State) : Outcome :=
  let s1 := s.takeHanded (.occupancyReading room occupied seconds)
  doneLists s ((s1.autoCheckIn room occupied).takeReading room occupied seconds)

/-! ### When the panel cannot be heard -/

/-- The booking of a channel, when it stands in a room. -/
def State.channelBookingIn (s : State) (c room : Nat) : Option Booking :=
  ((s.channel c).booking.bind s.find).filter fun b => b.room = room

/-- One channel when the room's panel has stopped being available (R97). -/
def State.suspendIn (s : State) (room c : Nat) : State :=
  if (s.channelBookingIn c room).isSome ∧ ((s.channel c).state = .running ∨ (s.channel c).state = .paused) then
    s.modChannel c fun x => { x with state := .suspended }
  else s

/-- PANEL_UNAVAILABLE (R97). -/
def execPanelUnavailable (room : Nat) (s : State) : Outcome :=
  done (overAll Config.channels (fun c t => t.suspendIn room c) (s.takeHanded (.panelUnavailable room)))

/-- One channel when the room's panel has become available (R98). -/
def State.resumeIn (s : State) (room c : Nat) : State :=
  match s.channelBookingIn c room with
  | none => s
  | some b =>
    if (s.channel c).state ≠ .suspended then s
    else
      match (s.channel c).mode with
      | .watch => s.modChannel c fun x => { x with state := .paused }
      | .window =>
        (s.modChannel c fun x =>
          { x with state := .running, remaining := min x.remaining (s.secondsTo b.endMin) }).expireIfDue c

/-- PANEL_AVAILABLE (R98). -/
def execPanelAvailable (room : Nat) (s : State) : Outcome :=
  doneLists s (overAll Config.channels (fun c t => t.resumeIn room c) (s.takeHanded (.panelAvailable room)))

/-! ### READ_TIMERS -/

/-- How many channels are in a state. -/
def Bank.inState (b : Bank) (st : ChannelState) : Nat := (b.channels.filter fun c => c.state = st).length

/-- One channel as READ_TIMERS gives it (R101). Its remaining, 0 to 86,400, takes 4 bytes (R188). -/
def State.timerFields (s : State) (c : Nat) : List Field :=
  let ch := s.channel c
  [u8 c, u8 ch.mode.code, u8 ch.state.code, .handle ch.booking, .num 4 (some ch.remaining),
    .num 2 ((ch.booking.bind s.find).map (·.room))]

/-- READ_TIMERS (R101). -/
def execReadTimers (tag : Byte) (s : State) : Outcome :=
  hostNow tag 0x60 (.readTimers tag) (fun s =>
    ⟨s, .ok, [u16 (s.bank.inState .free), u16 (s.bank.inState .running), u16 (s.bank.inState .paused),
      u16 (s.bank.inState .suspended), u8 s.bank.timerCount] ++
      listField s.timerFields ((upFrom 0 Config.channels).filter fun c => (s.channel c).state ≠ .free)⟩) s

end Sys2Proof.Machine
end

