-- ==== Sys2Proof/Machine/Bus.lean ====
section
/-! DEFINITION. The commands of the Panel Bus Controller (chapter 7). -/

namespace Sys2Proof.Machine

/-! ### Binding and intervals -/

/-- R103 steps 1 to 5. -/
def State.bindRefusal (s : State) (panel kind target : Nat) : Option Status :=
  if s.catching then some .wait
  else if Config.panels ≤ panel ∨ 1 < kind ∨ (if kind = 0 then Config.rooms ≤ target else Config.kitchens ≤ target) then
    some .badField
  else if !(if kind = 0 then (s.room target).inTable else (s.kitchen target).inTable) then some .noSuch
  else if (s.panel panel).state ≠ .unbound then some .badState
  else if (if kind = 0 then (s.room target).panel.isSome else 2 ≤ (s.kitchen target).terminals.length) then some .badState
  else none

/-- The panel entry of a binding, before its view or list is built (R103). -/
def Panel.bind (p : Panel) (kind : PanelKind) (target : Nat) : Panel :=
  { p with
    kind := some kind, boundTo := some target, state := .bound, misses := 0, sincePoll := p.interval, ackedSeq := none
    slot := .empty, viewDeferred := false }

/-- The change of BIND_PANEL (R103). -/
def State.bindPanel (s : State) (panel : Nat) (kind : PanelKind) (target : Nat) : State :=
  let s1 := s.modPanel panel fun p => p.bind kind target
  match kind with
  | .room => (s1.modRoom target fun r => { r with panel := some panel }).rebuildView panel
  | .kitchen => (s1.modKitchen target fun k => { k with terminals := k.terminals ++ [panel] }).buildList target panel

/-- BIND_PANEL (R103). -/
def execBindPanel (tag : Byte) (panel kind target : Nat) (s : State) : Outcome :=
  hostNow tag 0x70 (.bindPanel tag panel kind target) (fun s =>
    match s.bindRefusal panel kind target with
    | some st => refuse s st
    | none => ⟨s.bindPanel panel (if kind = 0 then .room else .kitchen) target, .ok, []⟩) s

/-- A hold is recorded with the request that waits for it (R104, R105). -/
def State.holdPanel (s : State) (panel : Nat) (k : HoldKind) (ref : HostRef) : State :=
  s.modPanel panel fun p => { p with hold := some ⟨k, ref⟩ }

/-- UNBIND (R104). -/
def execUnbind (tag : Byte) (panel : Nat) (s : State) : Outcome :=
  hostLater tag 0x71 (.unbind tag panel) (fun ref s =>
    let q := s.port (portOf panel)
    if s.catching then .inl (refuse s .wait)
    else if Config.panels ≤ panel then .inl (refuse s .badField)
    else if (s.panel panel).state = .unbound then .inl (refuse s .already)
    else if (s.panel panel).hold.isSome then .inl (refuse s .busy)
    else if q.busy ∧ q.panel = panel then .inr (s.holdPanel panel .unbind ref)
    else .inl ⟨s.makeUnbound panel, .ok, []⟩) s

/-- BAR (R105). -/
def execBar (tag : Byte) (panel : Nat) (s : State) : Outcome :=
  hostLater tag 0x72 (.bar tag panel) (fun ref s =>
    if Config.panels ≤ panel then .inl (refuse s .badField)
    else if (s.panel panel).state = .unbound then .inl (refuse s .badState)
    else if (s.panel panel).state = .barred then .inl (refuse s .already)
    else if (s.panel panel).hold.isSome then .inl (refuse s .busy)
    else if (s.port (portOf panel)).busy then .inr (s.holdPanel panel .bar ref)
    else .inl ⟨s.makeBarred panel, .ok, []⟩) s

/-- UNBAR (R105). -/
def execUnbar (tag : Byte) (panel : Nat) (s : State) : Outcome :=
  hostNow tag 0x73 (.unbar tag panel) (fun s =>
    if s.catching then refuse s .wait
    else if Config.panels ≤ panel then refuse s .badField
    else if (s.panel panel).state ≠ .barred then refuse s .badState
    else
      ⟨s.modPanel panel fun p => { p with state := .bound, misses := 0, sincePoll := p.interval }, .ok, []⟩) s

/-- SET_POLL (R106). -/
def execSetPoll (tag : Byte) (panel exponent : Nat) (s : State) : Outcome :=
  hostNow tag 0x74 (.setPoll tag panel exponent) (fun s =>
    if s.catching then refuse s .wait
    else if Config.panels ≤ panel then refuse s .badField
    else
      let s1 := s.modPanel panel fun p => { p with pollExp := min exponent 5 }
      ⟨s1, .ok, [u8 (min exponent 5), flagField (5 < exponent), u8 (s1.panel panel).interval]⟩) s

def ResultSlot.code : ResultSlot → Nat
  | .empty => 0 | .pending _ => 1 | .result _ => 2

/-- What READ_PANEL returns of an entry (R107, log 23). -/
def State.panelFields (s : State) (panel : Nat) : List Field :=
  let p := s.panel panel
  let q := s.port (portOf panel)
  [.num 1 (p.kind.map PanelKindCode), .num 2 p.boundTo, u8 p.state.code, .num 1 (p.hold.map fun h => h.kind.code), u8 p.pollExp,
    u8 p.misses, u16 p.sincePoll, u8 p.battery, u8 p.power.code, u8 p.viewSeq, flagField p.ackedSeq.isSome, .num 1 p.ackedSeq,
    flagField p.viewDeferred, u16 p.sinceView, u8 p.slot.code, flagField p.mark, u8 p.missed, u8 p.interval,
    flagField p.active.isSome, u8 q.phase.code, .num 1 (if q.busy then some q.panel else none)]

/-- READ_PANEL (R107). -/
def execReadPanel (tag : Byte) (panel : Nat) (s : State) : Outcome :=
  hostNow tag 0x75 (.readPanel tag panel) (fun s =>
    if Config.panels ≤ panel then refuse s .badField else ⟨s, .ok, s.panelFields panel⟩) s

/-! ### Panel seconds and scheduling -/

/-- since_poll and since_view rise by one, stopping at 65,535 (R102). -/
def Panel.second (p : Panel) : Panel :=
  { p with sincePoll := min (p.sincePoll + 1) Config.maxSince, sinceView := min (p.sinceView + 1) Config.maxSince }

/-- PANEL_SECOND (R102). -/
def execPanelSecond (s : State) : Outcome :=
  done { s with panelBus := { s.panelBus with panels := s.panelBus.panels.map Panel.second } }

/-- DEFERRED_VIEW_BUILD of a panel (R120). -/
def execDeferredViewBuild (panel : Nat) (s : State) : Outcome :=
  let p := s.panel panel
  if p.kind = some .room ∧ p.power = .saving ∧ p.viewDeferred ∧ Config.deferSeconds ≤ p.sinceView then
    done (s.rebuildView panel)
  else .next s

/-- POLL on a port (R108, R109). A hold takes effect before the port's next transaction (log 29). -/
def execPoll (port : Nat) (s : State) : Outcome :=
  if (s.port port).busy ∨ s.holdOnPort port ∨ Config.ports ≤ port then .next s
  else
    match s.choose port 32 with
    | none => .next s
    | some p =>
      let e := s.panel p
      done ((s.modPanel p fun x => { x with sincePoll := 0 }).modPort port fun _ =>
        ⟨.polling, p, e.result.isSome, false, pollFrame p e.viewSeq e.result⟩)

/-! ### Replies -/

/-- REPLY to a POLL (R110). -/
def execReply (port : Nat) (frame : List Byte) (s : State) : Outcome :=
  let q := s.port port
  match q.phase, validReply q.panel frame with
  | .polling, some r =>
    let t := (s.takeReport port q.panel r).takePanelRequest q.panel r
    let s1 := t.1.modPort port fun x => { x with phase := .serving, panel := q.panel }
    done (if t.2 then s1 else s1.decideFollowUp port q.panel)
  | _, _ => .next s

/-- REPLY to a follow-up (R111): the port serves its request as in R110, and the transaction ends without a second
follow-up. -/
def execFollowUpReply (port : Nat) (frame : List Byte) (s : State) : Outcome :=
  let q := s.port port
  match q.phase, validReply q.panel frame with
  | .following, some r =>
    let t := (s.takeReport port q.panel r).takePanelRequest q.panel r
    done (if t.2 then t.1.modPort port fun x => { x with phase := .serving, panel := q.panel, followed := true }
      else t.1.endTransaction port)
  | _, _ => .next s

/-- The timeout runs out on an unanswered frame (R109, R111). -/
def execReplyTimeout (port : Nat) (s : State) : Outcome :=
  let q := s.port port
  match q.phase with
  | .polling | .following => done ((s.miss q.panel).endTransaction port)
  | .idle | .serving => .next s

/-- A frame that is not valid is discarded, and the wait goes on (R109, R189). -/
def execFrameDiscarded (_port : Nat) (_frame : List Byte) (s : State) : Outcome := .next s

/-- HOLD_TAKES_EFFECT of a panel whose port is IDLE (R104, R105, R109). -/
def execHoldTakesEffect (panel : Nat) (s : State) : Outcome :=
  match (s.panel panel).hold with
  | none => .next s
  | some h =>
    if (s.port (portOf panel)).busy then .next s
    else done ((s.makeHold panel h.kind).answer h.ref .ok [])

/-! ### Views and lists -/

/-- VIEW_BUILD of a room (R116, R120). -/
def execViewBuild (room : Nat) (s : State) : Outcome :=
  let s1 := { s with panelBus := { s.panelBus with viewReports := s.panelBus.viewReports.erase room } }
  match (s1.room room).panel with
  | none => done s1
  | some p => done (s1.modPanel p fun e => e.offer (s1.buildView room))

/-- LIST_BUILD of a kitchen (R118). -/
def execListBuild (kitchen : Nat) (s : State) : Outcome :=
  let s1 := { s with panelBus := { s.panelBus with listReports := s.panelBus.listReports.erase kitchen } }
  done ((s1.kitchen kitchen).terminals.foldl (fun t p => t.buildList kitchen p) s1)

end Sys2Proof.Machine
end

