-- ==== Sys2Proof/Machine/Clock.lean ====
section
/-! DEFINITION. The commands of the Campus Clock (01 section 1.6) and READ_RETENTION (R187). -/

namespace Sys2Proof.Machine

/-! ### The SEC watch -/

/-- A SEC edge (R16). `sinceTick` is the time in milliseconds since the last counted divider tick (log 10). -/
def execSecEdge (sinceTick : Nat) (s : State) : Outcome :=
  match s.clock.state with
  | .stopped => .next s
  | .running => done ({ s with clock := { s.clock with watch := 0 } }).countSecond
  | .holdover =>
    let s1 := { s with clock := { s.clock with state := .running, watch := 0 } }
    done (if 500 < sinceTick then s1.countSecond else s1)

/-- A divider tick (R16): it raises watch in RUNNING, the third tick enters HOLDOVER, and it is a counted second in
HOLDOVER. -/
def execDividerTick (s : State) : Outcome :=
  match s.clock.state with
  | .stopped => .next s
  | .running =>
    if s.clock.watch + 1 < 3 then done { s with clock := { s.clock with watch := s.clock.watch + 1 } }
    else done s.holdover
  | .holdover => done s.countSecond

/-- The third tick without an edge, commanded by its own name (R16, log 5). -/
def execEnterHoldover (s : State) : Outcome :=
  if s.clock.state = .running ∧ s.clock.watch = 2 then done s.holdover else .next s

/-- The counted second that ends a minute, commanded by its own name (R15, log 5). It is no SEC edge: in RUNNING it leaves
watch as it stands, where R16 has the edge that brings a counted second zero it (log 5). -/
def execMinuteEvent (s : State) : Outcome :=
  if s.running ∧ s.clock.second = 59 then done s.countSecond else .next s

/-- The bank takes one second event, with the expiries of the channels that reach 0 (R87, log 6). -/
def execSecondEvent (s : State) : Outcome :=
  if s.owed.seconds = 0 then .next s else doneLists s s.takeSecond

/-! ### Host requests -/

/-- The time as SET_TIME stores it (R13). -/
def State.storeTime (s : State) (minute second : Nat) : State :=
  { s with clock := { s.clock with
    minute := minute
    second := second
    timeSet := true
    dayRaised := some (s.clock.dayRaised.getD (dayOf minute)) } }

/-- SET_TIME (R13). -/
def execSetTime (tag : Byte) (minute second : Nat) (s : State) : Outcome :=
  hostNow tag 0x01 (.setTime tag minute second) (fun s =>
    if s.running then refuse s .badState
    else if 59 < second ∨ Config.maxMinute < minute ∨ minute < s.clock.timeFloor then refuse s .badField
    else ⟨s.storeTime minute second, .ok, [minuteField minute, u8 second]⟩) s

/-- The missed days of a catch-up walk that begins now (R183). -/
def State.missedDays (s : State) : List Nat :=
  let first := match s.missedDayStart, s.clock.dayRaised with
    | some d, _ => d
    | none, some d => d + 1
    | none, none => dayOf s.clock.minute + 1
  upFrom first (dayOf s.clock.minute + 1 - first)

/-- The catch-up walk begins in the step of START (R183). -/
def State.beginCatchUp (s : State) : State :=
  { s with
    catchUp := some ⟨.commits, 0, s.clock.minute, s.missedDays, []⟩
    clock := { s.clock with dayRaised := some (dayOf s.clock.minute) } }

/-- START answered OK (R14, R136, R183). -/
def State.startClock (s : State) : State :=
  let s1 := { s with
    clock := { s.clock with state := .running, watch := 0 }
    catering := { s.catering with horizon := some (s.catering.horizon.getD (dayOf s.clock.minute)) } }
  if s.catchUpOwed then s1.beginCatchUp else s1

/-- START (R14). -/
def execStart (tag : Byte) (s : State) : Outcome :=
  hostNow tag 0x02 (.start tag) (fun s =>
    if s.running then refuse s .already
    else if !s.clock.timeSet then refuse s .badState
    else ⟨s.startClock, .ok, []⟩) s

/-- The minute that a trim of `n` reaches, absent when it is below 0 or above the largest minute (R17). -/
def trimmed (minute : Nat) (n : Int) : Option Nat :=
  let m := (minute : Int) + n
  if m < 0 ∨ (Config.maxMinute : Int) < m then none else some m.toNat

/-- A trim that is taken (R17, R99): what is owed is taken first (log 9), the count moves, and CLOCK is set. -/
def State.trim (s : State) (n : Int) : State :=
  let s1 := s.takeOwed
  let s2 :=
    if 0 < n then s1.trimForward n.toNat
    else ({ s1 with clock := { s1.clock with minute := s1.clock.minute - n.natAbs } }).trimBack (n.natAbs * 60)
  s2.raiseClock

/-- TRIM_TIME (R17). Each of its steps has raised the kitchen lists that it changed (R144). -/
def execTrimTime (tag : Byte) (minutes : Int) (s : State) : Outcome :=
  hostStepped tag 0x03 (.trimTime tag minutes) (fun s =>
    if !s.running then refuse s .badState
    else if minutes = 0 ∨ minutes < -5 ∨ 5 < minutes then refuse s .badField
    else if s.catching then refuse s .wait
    else
      match trimmed s.clock.minute minutes with
      | none => refuse s .badField
      | some m => ⟨s.trim minutes, .ok, [minuteField m]⟩) s

/-- READ_TIME (R18). -/
def execReadTime (tag : Byte) (s : State) : Outcome :=
  hostNow tag 0x04 (.readTime tag) (fun s =>
    ⟨s, .ok, [minuteField s.clock.minute, u8 s.clock.second, u8 s.clock.state.code, flagField s.running,
      flagField s.clock.timeSet, .num 4 s.clock.dayRaised, minuteField s.clock.timeFloor]⟩) s

def Retention.code : Retention → Nat
  | .good => 0 | .lost => 1

/-- READ_RETENTION (R187). A missed day is not yet run until its three walks have all completed (log 52). However many there
are, all are answered, and the position takes 2 bytes, whatever it counts (log 57). -/
def execReadRetention (tag : Byte) (s : State) : Outcome :=
  hostNow tag 0xB0 (.readRetention tag) (fun s =>
    ⟨s, .ok, [u8 s.retention.code, flagField s.catchUpOwed, .num 4 s.missedDayStart] ++
      match s.catchUp with
      | some c => [u8 c.stage.code, u16 c.pos, minuteField c.minute] ++ listField (fun d => [minuteField d]) c.missed
      | none => [.num 1 none, .num 2 none, .num 4 none, .num 2 none]⟩) s

end Sys2Proof.Machine
end

