-- ==== Sys2Proof/Machine/Placement.lean ====
section
/-! DEFINITION. The Placement Unit (chapter 5): the placement queue, the search engine's steps, the tests and the score of
a room, and the completions of PLACE, PLACE_AND_BOOK and FIND_NEARBY. -/

namespace Sys2Proof.Machine

/-! ### The queue -/

/-- The general places held (R70). -/
def Placement.general (p : Placement) : Nat := (p.queue.filter fun e => e.kind ≠ .sweep).length

/-- A request joins the queue QUEUED at the tail, under the next search number (R70, log 26). -/
def State.enqueue (s : State) (kind : SearchKind) (client : Client) (inputs : SearchInputs) : State :=
  { s with placement := { s.placement with
    queue := s.placement.queue ++ [⟨s.placement.nextId, kind, client, inputs, false⟩]
    nextId := s.placement.nextId + 1 } }

/-- A request leaves the queue and its place is freed; the engine becomes IDLE when it was searching it (R70, R82). -/
def State.dequeue (s : State) (id : Nat) : State :=
  { s with placement := { s.placement with
    queue := s.placement.queue.filter fun e => e.id ≠ id
    search := s.placement.search.filter fun x => x.request ≠ id } }

/-- The entry that the engine searches. -/
def State.runningEntry (s : State) (x : Search) : Option QueueEntry := s.placement.queue.find? fun e => e.id = x.request

/-- Catering is asked (05 section 5.1). -/
def CateringForm.asked : CateringForm → Bool
  | .none_ => false
  | .trial _ | .fixed _ => true

/-! ### Taking a request (R71) -/

/-- The room that a panel is bound to; 0 when it is bound to none (log 31). -/
def State.panelRoom (s : State) (p : Nat) : Nat := ((s.panel p).boundTo).getD 0

/-- The inputs of a FIND_NEARBY, formed when the engine takes it (R81). -/
def State.nearbyInputs (s : State) (p : Nat) (old : SearchInputs) : SearchInputs :=
  { old with
    headCount := 1, needs := 0, wants := 0, origin := (s.room (s.panelRoom p)).building, startMin := s.clock.minute
    endMin := s.clock.minute + 30, startGiven := s.clock.minute, catering := .none_, relax := false }

/-- The inputs of an entry at the moment it is taken. -/
def State.inputsAtTake (s : State) (e : QueueEntry) : SearchInputs :=
  match e.client with
  | .panel p => s.nearbyInputs p e.inputs
  | .host _ | .booking _ => e.inputs

/-- The engine's values when it begins a search (R71). -/
def State.newSearch (s : State) (e : QueueEntry) : Search where
  request := e.id
  weights := s.weights
  row := s.distance.getD e.inputs.origin []
  level := 0
  needs := if e.inputs.catering.asked then e.inputs.needs ||| 2 else e.inputs.needs
  wants := e.inputs.wants
  dropped := []
  cursor := 0
  candidates := []
  eligible := 0
  rejects := List.replicate 6 0
  complete := false

/-- The engine takes the oldest QUEUED entry when it is IDLE (R71). -/
def execSearchTake (s : State) : Outcome :=
  match s.placement.search, s.placement.queue.find? fun e => !e.isRunning with
  | none, some e =>
    let e1 := { e with inputs := s.inputsAtTake e, isRunning := true }
    done { s with placement := { s.placement with
      queue := s.placement.queue.map fun x => if x.id = e.id then e1 else x
      search := some (s.newSearch e1) } }
  | _, _ => .next s

/-! ### The tests and the score of a room -/

def Reason.code : Reason → Nat
  | .service => 0 | .needs => 1 | .seats => 2 | .distance => 3 | .span => 4 | .catering => 5

/-- A trial that passed (R73): the kitchen, its reach, the window and TIGHT. -/
structure Trial where
  kitchen : Nat
  reach : Nat
  window : Option AbsWindow
  tight : Option Bool
deriving DecidableEq, Repr

/-- The trial plan of R73 for a room of building `b`. -/
def State.trial (s : State) (covers start b : Nat) : Option Trial :=
  if s.beyond (dayOf start) then
    ((s.kitchensFor b).head?).map fun rk => ⟨rk.2, rk.1, none, some false⟩
  else
    (s.planAt s.clock.minute covers start b).map fun a =>
      ⟨a.kitchen, (s.serves a.kitchen b).getD 0, some a.window,
        some (s.capacity a.kitchen a.window.win < s.load a.kitchen a.window + 2 * covers)⟩

/-- Test 6 of R72: none when it fails; the trial or fixed kitchen when it passes with one. A fixed kitchen is tested by its
stored reach, though it has left the table since the search was formed (log 58). -/
def State.cateringTest (s : State) (form : CateringForm) (start b : Nat) : Option (Option Trial) :=
  match form with
  | .none_ => some none
  | .trial c => (s.trial c start b).map some
  | .fixed k => (((s.kitchen k).reach.getD b none)).map fun r => some ⟨k, r, none, none⟩

/-- Test 4 of R72: by the copied row, or for FIND_NEARBY by the building and not the panel's own room. -/
def State.distanceTest (s : State) (e : QueueEntry) (row : List Nat) (r : Nat) : Bool :=
  match e.client with
  | .panel p => (s.room r).building = e.inputs.origin && r ≠ s.panelRoom p
  | .host _ | .booking _ => row.getD (s.room r).building 0 ≤ e.inputs.dmax

/-- The booking that the freedom test of a search leaves out: the one that a sweep's search is made for, where it stands on
the room's timeline (R35, R83). -/
def Client.self : Client → Option Handle
  | .booking h => some h
  | .host _ | .panel _ => none

/-- The six tests of R72 on a configured room, in order: the first reason that fails, or the trial of test 6. -/
def State.roomTests (s : State) (e : QueueEntry) (needs : Caps) (row : List Nat) (r : Nat) : Except Reason (Option Trial) :=
  let room := s.room r
  let q := e.inputs
  if room.service ≠ .inService ∨ room.closedFor q.startMin q.endMin then .error .service
  else if needs &&& room.caps ≠ needs then .error .needs
  else if room.seats < q.headCount then .error .seats
  else if !s.distanceTest e row r then .error .distance
  else if (s.blocker r e.client.self q.startMin q.endMin).isSome then .error .span
  else match s.cateringTest q.catering q.startMin room.building with
    | none => .error .catering
    | some t => .ok t

/-- How many capabilities of one set are not in another. -/
def missing (wants caps : Caps) : Nat := ((upFrom 0 16).filter fun i => wants.getLsbD i && !caps.getLsbD i).length

/-- The scored entry of an eligible room (R75, R76). -/
def State.scored (s : State) (e : QueueEntry) (x : Search) (r : Nat) (t : Option Trial) : Candidate :=
  let room := s.room r
  let fit := 64 * (room.seats - e.inputs.headCount) / room.seats
  let dist := if e.kind = .findNearby then 0 else x.row.getD room.building 0
  let miss := missing x.wants room.caps
  let reach := (t.map (·.reach)).getD 0
  { room := r
    building := room.building
    seats := room.seats
    score := x.weights.wF * fit + x.weights.wD * dist + x.weights.wW * miss + x.weights.wR * reach
    fit := fit
    dist := dist
    miss := miss
    reach := reach
    kitchen := t.map (·.kitchen)
    window := t.bind (·.window)
    tight := t.bind (·.tight)
    freeUntil := if e.kind = .findNearby then s.freeUntil r s.clock.minute else none }

/-- A candidate ranks before another: by score, then seats, then room (R76). -/
def Candidate.before (a b : Candidate) : Bool :=
  a.score < b.score || (a.score = b.score && (a.seats < b.seats || (a.seats = b.seats && a.room < b.room)))

/-- Inserts a candidate at its place in the ranking. -/
def insertRanked (c : Candidate) : List Candidate → List Candidate
  | [] => [c]
  | x :: xs => if c.before x then c :: x :: xs else x :: insertRanked c xs

/-- The candidate list after a newly scored room: at most four entries (R76). -/
def rankIn (c : Candidate) (l : List Candidate) : List Candidate := (insertRanked c l).take 4

/-! ### The walk (R72, R74) -/

/-- The engine reaches one room (R72). -/
def State.reachRoom (s : State) (e : QueueEntry) (x : Search) : Search :=
  if !(s.room x.cursor).inTable then x
  else
    match s.roomTests e x.needs x.row x.cursor with
    | .error reason => { x with rejects := x.rejects.modify reason.code (· + 1) }
    | .ok t => { x with eligible := x.eligible + 1, candidates := rankIn (s.scored e x x.cursor t) x.candidates }

/-- The droppable capability of highest index in the needs (R74): never ACCESSIBLE, and not FOOD_ALLOWED when catering is
asked. -/
def droppable (needs : Caps) (asked : Bool) : Option Nat :=
  ((upFrom 0 16).filter fun i => needs.getLsbD i && i ≠ 0 && !(i = 1 && asked)).getLast?

/-- The set of one capability. -/
def capBit (i : Nat) : Caps := (1 : Caps) <<< i

/-- A pass ends (R74): the search completes, or the next level begins. -/
def Search.passEnd (x : Search) (q : SearchInputs) : Search :=
  match x.candidates, q.relax, droppable x.needs q.catering.asked with
  | [], true, some i =>
    { x with
      level := x.level + 1, needs := x.needs &&& ~~~(capBit i), wants := x.wants ||| capBit i
      dropped := x.dropped ++ [i], cursor := 0, eligible := 0, rejects := List.replicate 6 0 }
  | _, _, _ => { x with complete := true }

/-- The cursor moves on, and after room 511 the pass ends. A search that then completes keeps its cursor at 511, and the engine
is SEARCHING until the completion is taken (log 54). -/
def Search.moveOn (x : Search) (q : SearchInputs) : Search :=
  if x.cursor + 1 < Config.rooms then { x with cursor := x.cursor + 1 } else x.passEnd q

/-- One step of the walk (R72). -/
def execPlacementWalkStep (s : State) : Outcome :=
  match s.placement.search with
  | none => .next s
  | some x =>
    match s.runningEntry x with
    | none => .next s
    | some e =>
      if x.complete then .next s
      else done { s with placement := { s.placement with search := some ((s.reachRoom e x).moveOn e.inputs) } }

/-! ### PLACE and PLACE_AND_BOOK at arrival -/

/-- R77 step 3. -/
def placeFormOk (f : PlaceForm) : Bool :=
  headOk f.headCount && f.origin < Config.buildings && f.covers.all fun c => 1 ≤ c && c ≤ 500

/-- The catering form of covers that may be absent (R77). -/
def formOf (covers : Option Nat) : CateringForm := match covers with | some c => .trial c | none => .none_

/-- The inputs of a host search. -/
def hostInputs (f : PlaceForm) (sp : SpanOut) (covers : Option Nat) (book : Option BookFields) : SearchInputs where
  headCount := f.headCount
  needs := f.needs
  wants := f.wants
  origin := f.origin
  dmax := min f.dmax 63
  dmaxClamped := 63 < f.dmax
  startMin := sp.startMin
  endMin := sp.endMin
  startGiven := f.span.startMin
  startRounded := sp.startRounded
  endRounded := sp.endRounded
  catering := formOf covers
  relax := f.relax
  book := book

/-- R77, with the further ranges of R79 in `ok`. -/
def State.admitSearch (s : State) (kind : SearchKind) (f : PlaceForm) (ok : Bool) (covers : Option Nat)
    (book : Option BookFields) (ref : HostRef) : Reply ⊕ State :=
  if !s.running then .inl (refuse s .notStarted)
  else if s.catching then .inl (refuse s .wait)
  else if !placeFormOk f ∨ !ok then .inl (refuse s .badField)
  else if f.span.startMin < s.clock.minute then .inl (refuse s .tooLate)
  else
    match formSpan s.clock.minute f.span none with
    | none => .inl (refuse s .badField)
    | some sp =>
      if Config.generalPlaces ≤ s.placement.general then .inl (refuse s .busy)
      else .inr (s.enqueue kind (.host ref) (hostInputs f sp covers book))

/-- PLACE (R77). -/
def execPlace (tag : Byte) (form : PlaceForm) (s : State) : Outcome :=
  hostLater tag 0x50 (.place tag form) (fun ref s => s.admitSearch .place form true form.covers none ref) s

/-- The booking fields of a PLACE_AND_BOOK (R80). -/
def bookFields (f : PlaceBookForm) : BookFields :=
  ⟨f.organiser, f.override.map policyOf, storedNote f.note, f.order⟩

/-- PLACE_AND_BOOK (R79). The order takes the place of the covers. -/
def execPlaceAndBook (tag : Byte) (form : PlaceBookForm) (s : State) : Outcome :=
  hostLater tag 0x51 (.placeAndBook tag form) (fun ref s =>
    s.admitSearch .placeAndBook { form.place with covers := none }
      (noteOk form.note && codeOk form.override && orderOptOk form.order) (form.order.map (·.covers))
      (some (bookFields form)) ref) s

/-! ### Answers of a completed search -/

/-- An entry of the candidate list as an answer gives it (R76, log 23). -/
def candidateFields (c : Candidate) : List Field :=
  [u16 c.room, u8 c.building, u16 c.seats, u16 c.score, u8 c.fit, u8 c.dist, u8 c.miss, u8 c.reach, .num 1 c.kitchen,
    .num 4 (c.window.map (·.day)), .num 1 (c.window.map (·.win)), .num 1 (c.tight.map Bool.toNat)]

/-- The contents of R78. The dropped capabilities are a list, its number in 2 bytes, of 1-byte capability indices in the order
dropped, not a 2-byte capability set (log 23). -/
def placeFields (q : SearchInputs) (x : Search) : List Field :=
  [minuteField q.startMin, minuteField q.endMin, flagField q.startRounded, flagField q.endRounded, u8 q.dmax,
    flagField q.dmaxClamped, u8 x.level] ++ listField (fun i => [u8 i]) x.dropped ++
    listField candidateFields x.candidates ++ [u16 x.eligible] ++ x.rejects.map u16

/-- The completed search of a kind, with its entry. -/
def State.completed (s : State) (kind : SearchKind) : Option (Search × QueueEntry) :=
  match s.placement.search with
  | none => none
  | some x =>
    match s.runningEntry x with
    | none => none
    | some e => if x.complete ∧ e.kind = kind then some (x, e) else none

/-- The completion of a PLACE (R78). -/
def execPlaceCompletion (s : State) : Outcome :=
  match s.completed .place with
  | none => .next s
  | some (x, e) =>
    let s1 := s.dequeue e.id
    match e.client with
    | .host ref => done (s1.answer ref (if x.candidates = [] then .noRoom else .ok) (placeFields e.inputs x))
    | .panel _ | .booking _ => done s1

/-! ### The recheck and the booking of PLACE_AND_BOOK -/

/-- The recheck of R80: the candidates that failed, with their reasons, and the first that passes with its rank. -/
def State.recheck (s : State) (e : QueueEntry) (x : Search) (rank : Nat) :
    List Candidate → List Reason × Option (Nat × Candidate)
  | [] => ([], none)
  | c :: cs =>
    let verdict := if (s.room c.room).inTable then s.roomTests e x.needs x.row c.room else .error .service
    match verdict with
    | .ok _ => ([], some (rank, c))
    | .error reason =>
      let rest := s.recheck e x (rank + 1) cs
      (reason :: rest.1, rest.2)

/-- The marks of an answer: a list of its own, after the contents of R78, of one byte for each candidate in rank order: the
reason it failed by, absent where it did not fail the recheck (log 23). -/
def markFields (n : Nat) (reasons : List Reason) : List Field :=
  listField (fun i => [.num 1 (reasons[i]?.map Reason.code)]) (upFrom 0 n)

/-- The booking that a completed PLACE_AND_BOOK makes (R80). -/
def placedBooking (q : SearchInputs) (f : BookFields) (x : Search) (r : Room) (room : Nat) (t : Taken) : Booking :=
  newBooking t room q.startMin q.endMin q.headCount f.organiser q.origin x.needs x.wants (f.override.getD r.policy) .host
    none f.order f.note

/-- The booking of the chosen candidate, and the answer after it (R80 step 6). -/
def State.placeBook (s : State) (q : SearchInputs) (f : BookFields) (x : Search) (pre : List Field) (rank : Nat)
    (c : Candidate) : Reply :=
  match s.makeHostBooking s.clock.minute (placedBooking q f x (s.room c.room) c.room) (f.note ≠ []) f.order with
  | .error (st, s1) => ⟨s1, st, pre⟩
  | .ok (s1, h, tight) =>
    match s1.bookingAt h.idx with
    | some b =>
      ⟨s1, .ok, pre ++ s1.bookingFields b q.startRounded q.endRounded tight ++ [u16 c.room, u8 rank, u16 c.score]⟩
    | none => ⟨s1, .ok, pre⟩

/-- The settling of a PLACE_AND_BOOK (R80). -/
def State.settlePlaced (s : State) (e : QueueEntry) (f : BookFields) (x : Search) : Reply :=
  let q := e.inputs
  let n := x.candidates.length
  let body (reasons : List Reason) : List Field := placeFields q x ++ markFields n reasons
  if x.candidates = [] then ⟨s, .noRoom, body []⟩
  else if q.startGiven < s.clock.minute then ⟨s, .tooLate, body []⟩
  else if s.seriesScope (dayOf q.startMin) then ⟨s, .wait, body []⟩
  else if f.order.isSome ∧ s.planningScope (dayOf q.startMin) then ⟨s, .wait, body []⟩
  else
    match s.recheck e x 1 x.candidates with
    | (reasons, none) => ⟨s, .conflict, body reasons⟩
    | (reasons, some (rank, c)) => s.placeBook q f x (body reasons) rank c

/-- The completion of a PLACE_AND_BOOK (R80). -/
def execPlaceAndBookCompletion (s : State) : Outcome :=
  match s.completed .placeAndBook with
  | none => .next s
  | some (x, e) =>
    match e.client, e.inputs.book with
    | .host ref, some f =>
      let r := (s.dequeue e.id).settlePlaced e f x
      doneLists s (r.state.answer ref r.status r.body)
    | _, _ => done (s.dequeue e.id)

/-! ### FIND_NEARBY -/

/-- The inputs of a FIND_NEARBY before the engine takes it: none of them is used. -/
def emptyInputs : SearchInputs := ⟨1, 0, 0, 0, 63, false, 0, 0, 0, false, false, .none_, false, none⟩

/-- FIND_NEARBY (R81). -/
def execFindNearby (src : PanelRef) (s : State) : Outcome :=
  panelNow src 5 (.findNearby src) (fun s =>
    if !s.running then (s, .result .notStarted [])
    else if s.catching then (s, .result .wait [])
    else if src.kind = .kitchen then (s, .result .badState [])
    else if Config.generalPlaces ≤ s.placement.general then (s, .result .wait [])
    else (s.enqueue .findNearby (.panel src.panel) emptyInputs, .pending s.placement.nextId)) s

/-- The result of a FIND_NEARBY: up to three rooms with their free-until minutes (R81, 13 section 13.2). -/
def nearbyResult (x : Search) : PanelResult :=
  match x.candidates with
  | [] => ⟨5, .noRoom, []⟩
  | cs => ⟨5, .ok, u8 (min cs.length 3) :: (cs.take 3).flatMap fun c => [u16 c.room, .num 4 c.freeUntil]⟩

/-- The completion of a FIND_NEARBY (R81, R114): the result is put in the slot that still names the search. -/
def execFindNearbyCompletion (s : State) : Outcome :=
  match s.completed .findNearby with
  | none => .next s
  | some (x, e) =>
    let s1 := s.dequeue e.id
    match e.client with
    | .panel p =>
      if (s1.panel p).slot = .pending e.id then done (s1.modPanel p fun q => { q with slot := .result (nearbyResult x) })
      else done s1
    | .host _ | .booking _ => done s1

/-- A withdrawal of a panel's search (R82). -/
def execWithdrawal (panel search : Nat) (s : State) : Outcome :=
  let s1 := s.takeHanded (.withdrawal panel search)
  match s1.placement.queue.find? fun e => e.id = search && e.client = .panel panel with
  | some e => done (s1.dequeue e.id)
  | none => done s1

/-! ### READ_PLACEMENT -/

/-- The client of an entry: the tag, the panel index or the handle (R84, log 23). -/
def clientField : Client → Field
  | .host ref => u8 ref.tag.toNat
  | .panel p => u8 p
  | .booking h => handleField h

/-- READ_PLACEMENT (R84). The dropped capabilities are given as in `placeFields` (log 23). -/
def execReadPlacement (tag : Byte) (s : State) : Outcome :=
  hostNow tag 0x52 (.readPlacement tag) (fun s =>
    let p := s.placement
    ⟨s, .ok, [u8 p.general, u8 (p.queue.length - p.general)] ++
      listField (fun e => [u8 e.kind.code, clientField e.client, flagField e.isRunning]) p.queue ++
      (match p.search with
       | none => [flagField false, .num 1 none, .num 2 none, .num 2 none, .num 1 none, .num 2 none]
       | some x => [flagField true, u8 x.level] ++ listField (fun i => [u8 i]) x.dropped ++
           [u16 x.cursor, u8 x.candidates.length, u16 x.eligible])⟩) s

end Sys2Proof.Machine
end

