-- ==== Sys2Proof/Machine/Closing.lean ====
section
/-! DEFINITION. The Closure Sweep Unit (chapter 10): CLOSE_ROOM, the sweep's steps, the settling of its searches (R83,
R159), REOPEN_ROOM and READ_SWEEP. -/

namespace Sys2Proof.Machine

/-! ### CLOSE_ROOM -/

/-- The IN_USE booking of a room whose end is after a minute (R156): the first on the timeline, should two be (log 56). -/
def State.inUseAfter (s : State) (r fromMin : Nat) : Option Booking :=
  (s.timelineOf r).find? fun b => b.state = .inUse && fromMin < b.endMin

/-- R157. -/
def State.beginSweep (s : State) (f : CloseForm) (clamp : Option Booking) (ref : HostRef) : State :=
  let fromMin := (clamp.map (·.endMin)).getD f.fromMin
  let mode : ClosureMode := if f.mode = 0 then .relocate else .displace
  { s.setService f.room .closing (some ⟨fromMin, f.toMin, mode, false⟩) with
    sweep := { Sweep.idle with sweeping := true, room := f.room, origin := .host ref, clamp := clamp.map (·.handle) } }

/-- R156. -/
def State.closeRoom (s : State) (f : CloseForm) (ref : HostRef) : Reply ⊕ State :=
  if !s.running then .inl (refuse s .notStarted)
  else if s.catching then .inl (refuse s .wait)
  else if Config.rooms ≤ f.room ∨ 1 < f.mode ∨ f.toMin ≤ f.fromMin then .inl (refuse s .badField)
  else if !(s.room f.room).inTable then .inl (refuse s .noSuch)
  else if f.fromMin < s.clock.minute then .inl (refuse s .tooLate)
  else if s.clock.minute + Config.ahead < f.fromMin then .inl (refuse s .badField)
  else if s.sweep.sweeping then .inl (refuse s .busy)
  else
    match s.inUseAfter f.room f.fromMin with
    | some b =>
      if f.toMin ≤ b.endMin then .inl ⟨s, .conflict, [handleField b.handle]⟩ else .inr (s.beginSweep f (some b) ref)
    | none => .inr (s.beginSweep f none ref)

/-- CLOSE_ROOM (R156, R157). -/
def execCloseRoom (tag : Byte) (form : CloseForm) (s : State) : Outcome :=
  hostLater tag 0x90 (.closeRoom tag form) (fun ref s => s.closeRoom form ref) s

/-! ### The steps of the sweep -/

/-- A booking lies in a closure (10 section 10.1). -/
def Closure.holds (c : Closure) (b : Booking) : Bool := overlap b.startMin b.endMin c.fromMin c.toMin

/-- The catering form of a sweep's search, by the state of the order (R83). -/
def sweepForm (o : Option Order) : CateringForm :=
  match o with
  | none => .none_
  | some x =>
    match x.state with
    | .requested | .unplaced | .planned => .trial x.covers
    | .committed | .dispatched => match x.kitchen with | some k => .fixed k | none => .none_
    | .voided | .stranded | .delivered | .discarded => .none_

/-- The inputs of a sweep's search, formed when the request arrives (R83). -/
def sweepInputs (b : Booking) : SearchInputs where
  headCount := b.headCount
  needs := b.needs
  wants := b.wants
  origin := b.origin
  dmax := 63
  dmaxClamped := false
  startMin := b.startMin
  endMin := b.endMin
  startGiven := b.startMin
  startRounded := false
  endRounded := false
  catering := sweepForm b.order
  relax := false
  book := none

/-- The booking stands on the timeline of a room. -/
def State.standsOn (s : State) (r : Nat) (h : Handle) : Bool := h ∈ (s.room r).timeline

/-- The displacement of the current booking under R160, and what the sweep counts. -/
def State.displaceCurrent (s : State) (h : Handle) : State :=
  let admitted := (s.find h).any (fun b => b.state = .booked || b.state = .awaiting || b.state = .inUse) &&
    s.standsOn s.sweep.room h
  if admitted then
    let s1 := s.displace h.idx
    { s1 with sweep := { s1.sweep with displaced := s1.sweep.displaced + 1, current := none } }
  else { s with sweep := { s.sweep with left := s.sweep.left + 1, current := none } }

/-- The answer of a sweep that a CLOSE_ROOM began (R162, log 23). -/
def sweepAnswer (w : Sweep) (c : Closure) (st : ServiceState) : List Field :=
  [u16 w.room, minuteField c.fromMin, flagField w.clamp.isSome, .handle w.clamp, minuteField c.toMin, u8 c.mode.code,
    u16 w.relocated, u16 w.displaced, u16 w.left, u8 st.code]

/-- The service_state and closure at the end of a sweep, by the present minute (R161). -/
def afterSweep (now : Nat) (c : Closure) : ServiceState × Option Closure :=
  if c.toMin ≤ now then (.inService, none)
  else if c.fromMin ≤ now then (.closed, some { c with swept := true })
  else (.inService, some { c with swept := true })

/-- The sweep ends (R161, R162). -/
def State.endSweep (s : State) (c : Closure) : State :=
  let w := s.sweep
  let a := afterSweep s.clock.minute c
  let s1 := { s.setService w.room a.1 a.2 with sweep := .idle }
  match w.origin with
  | .host ref => s1.answer ref .ok (sweepAnswer w c a.1)
  | .resumed => s1

/-- A step of the sweep in which current is absent (R158). -/
def State.sweepStep (s : State) : State :=
  match (s.room s.sweep.room).closure with
  | none => { s with sweep := .idle }
  | some c =>
    match (s.timelineOf s.sweep.room).find? c.holds with
    | none => s.endSweep c
    | some b =>
      if c.mode = .displace ∨ b.state = .inUse then
        ({ s with sweep := { s.sweep with current := some (b.handle, .deciding) } }).displaceCurrent b.handle
      else
        { s.enqueue .sweep (.booking b.handle) (sweepInputs b) with
          sweep := { s.sweep with current := some (b.handle, .searching) } }

/-- SWEEP_STEP (R158). -/
def execSweepStep (s : State) : Outcome :=
  if s.sweep.sweeping ∧ s.sweep.current.isNone then doneLists s s.sweepStep else .next s

/-! ### The settling of a sweep's search -/

/-- What the engine does with the relocation that a settling asks for (R83 step 3, R159). -/
def State.askRelocation (s : State) (h : Handle) (room : Nat) : State × SweepReport :=
  match s.find h with
  | none => (s, .refused none false)
  | some b =>
    let onRoom := s.standsOn s.sweep.room h
    let inClosure := ((s.room s.sweep.room).closure).any fun c => c.holds b
    if (b.state = .booked ∨ b.state = .awaiting) ∧ onRoom ∧ inClosure then
      (s.relocate s.clock.minute b room, .moved room)
    else (s, .refused (some b.state) onRoom)

/-- R83 steps 1 to 4. -/
def State.settleSweep (s : State) (e : QueueEntry) (x : Search) (h : Handle) : State × SweepReport :=
  match s.recheck e x 1 x.candidates with
  | (reasons, none) => (s, .noRoom reasons)
  | (_, some (_, c)) => s.askRelocation h c.room

/-- SWEEP_SEARCH_COMPLETION (R83). -/
def execSweepSearchCompletion (s : State) : Outcome :=
  match s.completed .sweep with
  | none => .next s
  | some (x, e) =>
    let s1 := s.dequeue e.id
    match e.client with
    | .booking h =>
      let r := s1.settleSweep e x h
      doneLists s { r.1 with sweep := { r.1.sweep with report := some r.2 } }
    | .host _ | .panel _ => done s1

/-- The sweep takes a report (R159). -/
def State.takeReportOf (s : State) (h : Handle) (r : SweepReport) : State :=
  let s1 := { s with sweep := { s.sweep with report := none } }
  match r with
  | .moved _ => { s1 with sweep := { s1.sweep with relocated := s1.sweep.relocated + 1, current := none } }
  | .noRoom _ | .refused (some .inUse) true =>
    ({ s1 with sweep := { s1.sweep with current := some (h, .deciding) } }).displaceCurrent h
  | .refused _ _ => { s1 with sweep := { s1.sweep with left := s1.sweep.left + 1, current := none } }

/-- SWEEP_REPORT (R159). -/
def execSweepReport (s : State) : Outcome :=
  match s.sweep.report, s.sweep.current with
  | some r, some (h, .searching) => doneLists s (s.takeReportOf h r)
  | _, _ => .next s

/-! ### REOPEN_ROOM and READ_SWEEP -/

/-- REOPEN_ROOM (R164). -/
def State.reopenRoom (s : State) (room : Nat) : Reply :=
  if !s.running then refuse s .notStarted
  else if s.catching then refuse s .wait
  else if Config.rooms ≤ room then refuse s .badField
  else if !(s.room room).inTable then refuse s .noSuch
  else if s.sweep.sweeping ∧ s.sweep.room = room then refuse s .busy
  else
    match (s.room room).closure with
    | none => refuse s .already
    | some c => ⟨s.setService room .inService none, .ok, closureFields (some c)⟩

def execReopenRoom (tag : Byte) (room : Nat) (s : State) : Outcome :=
  hostNow tag 0x91 (.reopenRoom tag room) (fun s => s.reopenRoom room) s

/-- The origin of a sweep: HOST 0 with its tag, or RESUMED 1 (log 23). -/
def originFields : SweepOrigin → List Field
  | .host ref => [u8 0, u8 ref.tag.toNat]
  | .resumed => [u8 1, .num 1 none]

/-- READ_SWEEP (R167, log 23): room and origin are absent while the context is IDLE. -/
def execReadSweep (tag : Byte) (s : State) : Outcome :=
  hostNow tag 0x92 (.readSweep tag) (fun s =>
    let w := s.sweep
    let closure := if w.sweeping then (s.room w.room).closure else none
    ⟨s, .ok, [flagField w.sweeping, .num 2 (if w.sweeping then some w.room else none)] ++
      (if w.sweeping then originFields w.origin else [.num 1 none, .num 1 none]) ++
      [.handle (w.current.map (·.1)), .num 1 (w.current.map fun p => p.2.code), u16 w.relocated, u16 w.displaced, u16 w.left,
        .handle w.clamp] ++ closureFields closure ++
      [.num 2 (closure.map fun c => ((s.timelineOf w.room).filter c.holds).length)]⟩) s

end Sys2Proof.Machine
end

