-- ==== Sys2Proof/Machine/Series.lean ====
section
/-! DEFINITION. The Series Unit (chapter 4): dealing with occurrences (R58 to R60), its host requests, and the operations
of its walk and its cancel pass. -/

namespace Sys2Proof.Machine

/-! ### Occurrences -/

/-- An occurrence has been dealt with (R59). -/
def Series.advance (x : Series) : Series :=
  { x with
    nextStart := x.nextStart + x.period * Config.dayMinutes
    count := x.count - 1
    state := if x.count = 1 then .finished else x.state }

/-- The booking of an occurrence (R60). -/
def occurrence (t : Taken) (id : Nat) (x : Series) (r : Room) : Booking :=
  newBooking t x.room x.nextStart (x.nextStart + x.length) x.headCount x.organiser r.building 0 0 r.policy .series (some id)
    x.template ((x.note.map (·.text)).getD [])

/-- A skip (R60, R67). One made within RESUME_SERIES sets the mark and the SERIES flag like any other (log 44). -/
def State.skipOccurrence (s : State) (id : Nat) : State :=
  (s.modSeries id fun x => { x with skipCount := saturate x.skipCount }).markSeries id

/-- Materialises or skips the occurrence at next_start, without the advance of R59: the state, and the handle of the
booking made (R60). -/
def State.materialise (s : State) (now id : Nat) (x : Series) : State × Option Handle :=
  let r := s.room x.room
  let e := x.nextStart + x.length
  if r.closedFor x.nextStart e ∨ (s.blocker x.room none x.nextStart e).isSome then (s.skipOccurrence id, none)
  else
    match s.takeRecord .part x.note.isSome x.template.isSome (some id) with
    | none => (s.skipOccurrence id, none)
    | some (s1, t) =>
      let b := occurrence t id x r
      let s2 := s1.enter b
      let s3 := match x.template with
        | some f => s2.planPart now b f.covers
        | none => s2
      ((s3.putOnTimeline b).handleStart now t.handle.idx, some t.handle)

/-- What dealing with a series' occurrences has done so far. -/
structure Dealt where
  state : State
  lapsed : Nat
  made : List Handle
  skipped : Nat

/-- Deals with the occurrence at next_start: lapsed when it is before `lapseBefore`, else materialised or skipped, and
then the advance of R59. -/
def Dealt.one (d : Dealt) (now lapseBefore id : Nat) (x : Series) : Dealt :=
  if x.nextStart < lapseBefore then { d with state := d.state.modSeries id Series.advance, lapsed := d.lapsed + 1 }
  else
    match d.state.materialise now id x with
    | (s1, some h) => { d with state := s1.modSeries id Series.advance, made := d.made ++ [h] }
    | (s1, none) => { d with state := s1.modSeries id Series.advance, skipped := d.skipped + 1 }

/-- Deals with the occurrences of a series in start order while it is ACTIVE and next_start falls on a day no later than
the target day, at most `fuel` of them (R58, R61, R66). -/
def Dealt.upTo (now target lapseBefore id : Nat) : Nat → Dealt → Dealt
  | 0, d => d
  | fuel + 1, d =>
    match d.state.seriesAt id with
    | none => d
    | some x =>
      if x.state = .active ∧ dayOf x.nextStart ≤ target then Dealt.upTo now target lapseBefore id fuel (d.one now lapseBefore id x)
      else d

/-- Deals with all the occurrences up to the target day. A period is at least a day, so one occurrence for each day from
next_start's to the target's is enough. -/
def State.dealSeries (s : State) (now target lapseBefore id : Nat) : Dealt :=
  let fuel := match s.seriesAt id with | some x => target + 1 - dayOf x.nextStart | none => 0
  Dealt.upTo now target lapseBefore id fuel ⟨s, 0, [], 0⟩

/-- The series horizon of today (R58). -/
def State.horizonDay (s : State) : Nat := dayOf s.clock.minute + Config.seriesHorizon

/-- The state, count and next_start of a series in an answer. -/
def State.seriesStanding (s : State) (id : Nat) : List Field :=
  match s.seriesAt id with
  | some x => [u8 x.state.code, u8 x.count, minuteField x.nextStart]
  | none => []

/-! ### CREATE_SERIES -/

/-- R57 step 3. -/
def seriesFormOk (f : SeriesForm) : Bool :=
  f.room < Config.rooms && 1 ≤ f.period && f.period ≤ 28 && f.count ≤ 255 && headOk f.headCount && noteOk f.note &&
    orderOptOk f.template

/-- The lowest free series id (R56). -/
def State.freeSeries (s : State) : Option Nat := s.series.list.findIdx? Option.isNone

/-- The series record of a CREATE_SERIES (R58). -/
def seriesOf (f : SeriesForm) (threshold : Nat) (blocks : List Nat) : Series where
  block := blocks.getD 0 0
  note := if storedNote f.note = [] then none else some ⟨blocks.getD 1 0, storedNote f.note⟩
  room := f.room
  firstStart := floorGrid f.firstStart
  length := ceilGrid f.length
  period := f.period
  count := f.count
  headCount := f.headCount
  organiser := f.organiser
  template := f.template
  nextStart := floorGrid f.firstStart
  state := .active
  noShows := 0
  threshold := min threshold 7
  skipCount := 0
  mark := false
  passOwed := false

/-- R57 steps 9 and 10, and R58. -/
def State.placeSeries (s : State) (f : SeriesForm) : Reply :=
  match s.freeSeries with
  | none => refuse s .noSpace
  | some id =>
    let kinds := [BlockKind.series] ++ (if storedNote f.note = [] then [] else [BlockKind.note])
    match s.allocate (.host kinds.length) kinds with
    | none => refuse s .noSpace
    | some (s1, blocks) =>
      let threshold := f.threshold.getD s.policyRec.threshold
      let x := seriesOf f threshold blocks
      let s2 := { s1 with series := { s1.series with list := s1.series.list.set id (some x) } }
      let d := s2.dealSeries s.clock.minute s.horizonDay 0 id
      ⟨d.state, .ok, [u16 id, minuteField x.firstStart, u16 x.length, flagField (x.firstStart ≠ f.firstStart),
        flagField (x.length ≠ f.length), u8 x.threshold, flagField (x.threshold ≠ threshold)] ++
        listField (fun h => [handleField h]) d.made ++ [u8 d.skipped] ++ d.state.seriesStanding id⟩

/-- CREATE_SERIES (R57, R58). -/
def State.createSeries (s : State) (f : SeriesForm) : Reply :=
  if !s.running then refuse s .notStarted
  else if s.catching then refuse s .wait
  else if !seriesFormOk f then refuse s .badField
  else if !(s.room f.room).inTable then refuse s .noSuch
  else if f.firstStart < s.clock.minute then refuse s .tooLate
  else if ceilGrid f.length < 5 ∨ 1440 < ceilGrid f.length ∨ s.clock.minute + Config.ahead < f.firstStart then
    refuse s .badField
  else if (s.room f.room).service = .closing then refuse s .wait
  else if f.template.isSome ∧ !(s.room f.room).foodAllowed then refuse s .notAllowed
  else s.placeSeries f

def execCreateSeries (tag : Byte) (form : SeriesForm) (s : State) : Outcome :=
  hostNow tag 0x40 (.createSeries tag form) (fun s => s.createSeries form) s

/-! ### END_SERIES, RESUME_SERIES, READ_SERIES -/

/-- The common tests of 04 section 4.6. -/
def State.seriesRequest (s : State) (id : Nat) : Except Status Series :=
  if !s.running then .error .notStarted
  else if s.catching then .error .wait
  else if Config.seriesIds ≤ id then .error .badField
  else match s.seriesAt id with | some x => .ok x | none => .error .noSuch

/-- The BOOKED occurrences of a series. -/
def State.bookedOccurrences (s : State) (id : Nat) : Nat :=
  (s.dir.entries.filter fun e => e.booking.any fun b => b.series = some id && b.state = .booked).length

/-- END_SERIES (R65). -/
def execEndSeries (tag : Byte) (id : Nat) (s : State) : Outcome :=
  hostNow tag 0x41 (.endSeries tag id) (fun s =>
    match s.seriesRequest id with
    | .error st => refuse s st
    | .ok x =>
      if x.state = .finished then refuse s .already
      else if x.passOwed then refuse s .wait
      else
        let s1 := s.modSeries id fun x => { x with state := .finished, passOwed := true }
        ⟨{ s1 with series := { s1.series with passQueue := addNew id s1.series.passQueue } }, .ok,
          [u16 (s.bookedOccurrences id)]⟩) s

/-- RESUME_SERIES (R66). -/
def execResumeSeries (tag : Byte) (id : Nat) (s : State) : Outcome :=
  hostNow tag 0x42 (.resumeSeries tag id) (fun s =>
    match s.seriesRequest id with
    | .error st => refuse s st
    | .ok x =>
      match x.state with
      | .active => refuse s .already
      | .finished => refuse s .badState
      | .suspended =>
        if x.passOwed then refuse s .wait
        else
          let s1 := s.modSeries id fun x => { x with state := .active, noShows := 0 }
          let d := s1.dealSeries s.clock.minute s.horizonDay s.clock.minute id
          ⟨d.state, .ok, [minuteField d.lapsed] ++ listField (fun h => [handleField h]) d.made ++ [u8 d.skipped] ++
            d.state.seriesStanding id⟩) s

/-- A catering template that may be absent: covers, line count and lines (R188). An absent one is three bytes FFh, in the place
of its covers and line count (log 23). -/
def templateFields (t : Option OrderForm) : List Field :=
  match t with
  | some f => [u16 f.covers, u8 f.lines.length] ++ f.lines.flatMap lineFields
  | none => [.num 2 none, .num 1 none]

/-- What READ_SERIES returns of a series (R68, log 23). An absent note is one byte FFh, in the place of its length, and the
place in the pass queue counts from 0 at its head (log 23). Whether a cancel pass is owed is given once, as the record's
pass_owed (log 45). -/
def State.seriesFields (s : State) (id : Nat) (x : Series) : List Field :=
  [u16 id, u16 x.room, minuteField x.firstStart, u16 x.length, u8 x.period, u8 x.count, u16 x.headCount,
    idField x.organiser] ++ templateFields x.template ++
    [(match x.note with | some n => .text n.text | none => .num 1 none), minuteField x.nextStart, u8 x.state.code,
      u8 x.noShows, u8 x.threshold, u8 x.skipCount, flagField x.mark, flagField x.passOwed, u16 (s.dir.refs.getD id 0),
      .num 2 (s.series.pass.bind fun p => if p.series = id then some p.entry else none),
      .num 2 (s.series.passQueue.findIdx? (· = id))]

/-- READ_SERIES (R68). -/
def execReadSeries (tag : Byte) (id : Nat) (s : State) : Outcome :=
  hostNow tag 0x43 (.readSeries tag id) (fun s =>
    if Config.seriesIds ≤ id then refuse s .badField
    else
      match s.seriesAt id with
      | none => refuse s .noSuch
      | some x => ⟨s, .ok, s.seriesFields id x⟩) s

/-! ### The cancel pass -/

/-- The pass visits one entry (R64). -/
def State.passVisit (s : State) (id i : Nat) : State :=
  match s.bookingAt i with
  | some b => if b.series = some id ∧ b.state = .booked then s.cancelOccurrence i else s
  | none => s

/-- The pass for the series at the head of the queue begins when none is running (R64). -/
def State.beginPass (s : State) : State :=
  match s.series.pass, s.series.passQueue with
  | none, id :: rest => { s with series := { s.series with pass := some ⟨id, 0⟩, passQueue := rest } }
  | _, _ => s

/-- The running pass takes one step (R64); after entry 8,191 the series' pass is no longer owed and the pass for the next
id begins. -/
def State.passStep (s : State) (p : CancelPass) : State :=
  let s1 := s.passVisit p.series p.entry
  if p.entry + 1 < Config.handles then { s1 with series := { s1.series with pass := some { p with entry := p.entry + 1 } } }
  else
    let s2 := s1.modSeries p.series fun x => { x with passOwed := false }
    ({ s2 with series := { s2.series with pass := none } }).beginPass

/-- One step of the cancel pass (R64, log 33). -/
def execCancelPassStep (s : State) : Outcome :=
  let s1 := s.beginPass
  match s1.series.pass with
  | none => .next s
  | some p => doneLists s (s1.passStep p)

end Sys2Proof.Machine
end

