-- ==== Sys2Proof/Machine/Tables.lean ====
section
/-! DEFINITION. The commands of the Campus Tables (chapter 1) and READ_STORE (R31). During the catch-up walk each
configuration request is answered WAIT (R12). -/

namespace Sys2Proof.Machine

/-! ### Distances, weights and policy -/

/-- A distance row as stored (R1). -/
def distanceRow (origin : Nat) (row : List Nat) : List Nat :=
  (upFrom 0 Config.buildings).map fun b => if b = origin then 0 else min (row.getD b 0) 63

/-- How many stored values differ from those carried. -/
def countClamped (carried stored : List Nat) : Nat := ((carried.zip stored).filter fun p => p.1 ≠ p.2).length

/-- SET_DISTANCES (R1). -/
def execSetDistances (tag : Byte) (origin : Nat) (row : List Nat) (s : State) : Outcome :=
  hostNow tag 0x10 (.setDistances tag origin row) (fun s =>
    if s.catching then refuse s .wait
    else if Config.buildings ≤ origin then refuse s .badField
    else
      let stored := distanceRow origin row
      ⟨{ s with distance := s.distance.set origin stored }, .ok,
        stored.map u8 ++ [u8 (countClamped row stored)]⟩) s

/-- SET_WEIGHTS (R10). -/
def execSetWeights (tag : Byte) (weights : Weights) (s : State) : Outcome :=
  hostNow tag 0x18 (.setWeights tag weights) (fun s =>
    if s.catching then refuse s .wait
    else
      let w : Weights := ⟨min weights.wF 15, min weights.wD 15, min weights.wW 15, min weights.wR 15⟩
      ⟨{ s with weights := w }, .ok, [u8 w.wF, u8 w.wD, u8 w.wW, u8 w.wR]⟩) s

/-- The policy record that a request stores (R11). -/
def storedPolicy (f : PolicyForm) : Policy where
  turnover := clampTurnover f.turnover
  policy := policyOf f.policy
  who := whoOf f.who
  earlyOpen := clampEarly f.earlyOpen
  grace := clampGrace f.grace
  absenceLimit := clampAbsence f.absenceLimit
  threshold := min f.threshold 7

/-- SET_POLICY (R11). A default_turnover that was only rounded up is named among the clamped fields (log 43). -/
def execSetPolicy (tag : Byte) (form : PolicyForm) (s : State) : Outcome :=
  hostNow tag 0x19 (.setPolicy tag form) (fun s =>
    if s.catching then refuse s .wait
    else if 1 < form.policy ∨ 1 < form.who then refuse s .badField
    else
      let p := storedPolicy form
      ⟨{ s with policyRec := p }, .ok,
        [u8 p.turnover, u8 p.policy.code, u8 p.who.code, u8 p.earlyOpen, u8 p.grace, u8 p.absenceLimit, u8 p.threshold,
          u16 (nameSet [p.turnover ≠ form.turnover, false, false, p.earlyOpen ≠ form.earlyOpen, p.grace ≠ form.grace,
            p.absenceLimit ≠ form.absenceLimit, p.threshold ≠ form.threshold])]⟩) s

/-! ### Rooms -/

/-- The fields of a room record that READ_ROOM and SET_ROOM return (R5, log 23). -/
def Room.fields (r : Room) : List Field :=
  [flagField r.inTable, u8 r.building, .signed 1 r.floor, u16 r.seats, capsField r.caps, u8 r.turnover, u8 r.policy.code,
    u8 r.who.code, u8 r.earlyOpen, u8 r.grace, u8 r.absenceLimit, flagField r.autoCheckin, u8 r.service.code] ++
    closureFields r.closure ++ [.num 1 r.panel, u8 r.noShow, u16 r.timeline.length]

/-- The BAD_FIELD tests of R3 on the fields that are present. -/
def roomFormOk (f : RoomForm) : Bool :=
  f.building.all (· < Config.buildings) && f.floor.all (fun x => -4 ≤ x && x ≤ 60) &&
    f.seats.all (fun n => 1 ≤ n && n ≤ 400) && codeOk f.policy && codeOk f.who

/-- The configuration fields of a request over those of a record: each present field clamped, each absent one kept
(R3). -/
def roomOver (f : RoomForm) (r : Room) : Room :=
  { r with
    building := f.building.getD r.building
    floor := f.floor.getD r.floor
    seats := f.seats.getD r.seats
    caps := f.caps.getD r.caps
    turnover := (f.turnover.map clampTurnover).getD r.turnover
    policy := (f.policy.map policyOf).getD r.policy
    who := (f.who.map whoOf).getD r.who
    earlyOpen := (f.earlyOpen.map clampEarly).getD r.earlyOpen
    grace := (f.grace.map clampGrace).getD r.grace
    absenceLimit := (f.absenceLimit.map clampAbsence).getD r.absenceLimit
    autoCheckin := f.autoCheckin.getD r.autoCheckin }

/-- The record a room starts with when it enters the table: the policy defaults and the owned fields of R2. -/
def Policy.freshRoom (p : Policy) : Room :=
  { Room.absent with
    inTable := true
    turnover := p.turnover
    policy := p.policy
    who := p.who
    earlyOpen := p.earlyOpen
    grace := p.grace
    absenceLimit := p.absenceLimit }

/-- The names of the fields clamped, and on entry of those defaulted (R2, R3, R188). A turnover that was only rounded up
is named too (log 43). -/
def roomNames (f : RoomForm) (entering : Bool) : Nat :=
  nameSet [false, false, false,
    entering && f.caps.isNone,
    clamped clampTurnover f.turnover || (entering && f.turnover.isNone),
    entering && f.policy.isNone,
    entering && f.who.isNone,
    clamped clampEarly f.earlyOpen || (entering && f.earlyOpen.isNone),
    clamped clampGrace f.grace || (entering && f.grace.isNone),
    clamped clampAbsence f.absenceLimit || (entering && f.absenceLimit.isNone),
    entering && f.autoCheckin.isNone]

/-- The earlier booking of the first pair of neighbours that a turnover does not fit between (R3 step 3). -/
def tightPair (turnover : Nat) : List Booking → Option Handle
  | a :: b :: rest => if a.endMin + turnover ≤ b.startMin then tightPair turnover (b :: rest) else some a.handle
  | _ => none

/-- Stores a room record and reports it (R116). -/
def State.storeRoom (s : State) (r : Nat) (rec_ : Room) : State := (s.modRoom r fun _ => rec_).reportRoom r

/-- SET_ROOM (R2, R3). -/
def State.setRoom (s : State) (f : RoomForm) : Reply :=
  let old := s.room f.room
  let answer (r : Room) (entering : Bool) : Reply :=
    ⟨s.storeRoom f.room r, .ok, r.fields ++ [u16 (roomNames f entering)]⟩
  if Config.rooms ≤ f.room ∨ !roomFormOk f then refuse s .badField
  else if !old.inTable then
    if f.building.isSome ∧ f.floor.isSome ∧ f.seats.isSome then answer (roomOver f s.policyRec.freshRoom) true
    else refuse s .badField
  else
    let new := roomOver f old
    if old.service = .closing then refuse s .wait
    else if new.building ≠ old.building ∧ old.timeline ≠ [] then refuse s .badState
    else
      match if old.turnover < new.turnover then tightPair new.turnover (s.timelineOf f.room) else none with
      | some h => ⟨s, .conflict, [handleField h]⟩
      | none => answer new false

def execSetRoom (tag : Byte) (form : RoomForm) (s : State) : Outcome :=
  hostNow tag 0x11 (.setRoom tag form) (fun s => if s.catching then refuse s .wait else s.setRoom form) s

/-- An ACTIVE or SUSPENDED series names the room (R4). -/
def State.seriesNames (s : State) (r : Nat) : Bool :=
  s.series.list.any fun o => match o with | some x => x.room = r && x.state ≠ .finished | none => false

/-- REMOVE_ROOM (R4). It clears the closure, and that change is reported like any other (R155). -/
def execRemoveRoom (tag : Byte) (room : Nat) (s : State) : Outcome :=
  hostNow tag 0x12 (.removeRoom tag room) (fun s =>
    let r := s.room room
    if s.catching then refuse s .wait
    else if Config.rooms ≤ room then refuse s .badField
    else if !r.inTable then refuse s .noSuch
    else if r.service = .closing then refuse s .wait
    else if r.timeline ≠ [] ∨ r.panel.isSome ∨ s.seriesNames room then refuse s .badState
    else
      ⟨(s.modRoom room fun x => { x with inTable := false, closure := none, noShow := 0 }).reportRoom room, .ok,
        [u8 r.noShow]⟩) s

/-- READ_ROOM (R5). -/
def execReadRoom (tag : Byte) (room : Nat) (s : State) : Outcome :=
  hostNow tag 0x13 (.readRoom tag room) (fun s =>
    if Config.rooms ≤ room then refuse s .badField
    else if !(s.room room).inTable then refuse s .noSuch
    else ⟨s, .ok, (s.room room).fields⟩) s

/-! ### Kitchens -/

/-- The fields of a kitchen record that READ_KITCHEN and SET_KITCHEN return (R9, log 23). -/
def Kitchen.fields (k : Kitchen) : List Field :=
  k.reach.map (.num 1) ++ [u8 k.lead, u8 k.spill] ++ k.profile.map u16 ++ listField (fun t => [u8 t]) k.terminals ++
    [u16 k.dispatch.length, u8 k.listSeq]

/-- A reach entry as carried: 0 to 63, or NOT_SERVED as FFh (R6). -/
def reachOk (n : Nat) : Bool := n ≤ 63 || n = 255
def reachOf (n : Nat) : Option Nat := if n = 255 then none else some n

/-- lead: 30 to 240 (R6). -/
def clampLead (n : Nat) : Nat := max 30 (min n 240)

/-- The kitchen record that SET_KITCHEN stores (R6). -/
def kitchenOver (f : KitchenForm) (k : Kitchen) : Kitchen :=
  let base := if k.inTable then k else { Kitchen.absent with inTable := true }
  { base with
    reach := (upFrom 0 Config.buildings).map fun b => reachOf (f.reach.getD b 255)
    lead := clampLead f.lead
    spill := min f.spill 3 }

/-- SET_KITCHEN (R6). -/
def execSetKitchen (tag : Byte) (form : KitchenForm) (s : State) : Outcome :=
  hostNow tag 0x14 (.setKitchen tag form) (fun s =>
    if s.catching then refuse s .wait
    else if Config.kitchens ≤ form.kitchen ∨ !(form.reach.all reachOk) then refuse s .badField
    else
      let k := kitchenOver form (s.kitchen form.kitchen)
      ⟨s.modKitchen form.kitchen fun _ => k, .ok,
        k.fields ++ [u16 (nameSet [false, k.lead ≠ form.lead, k.spill ≠ form.spill])]⟩) s

/-- SET_KITCHEN_PROFILE (R7). -/
def execSetKitchenProfile (tag : Byte) (kitchen : Nat) (profile : List Nat) (s : State) : Outcome :=
  hostNow tag 0x15 (.setKitchenProfile tag kitchen profile) (fun s =>
    if s.catching then refuse s .wait
    else if Config.kitchens ≤ kitchen then refuse s .badField
    else if !(s.kitchen kitchen).inTable then refuse s .noSuch
    else
      let stored := (upFrom 0 Config.windows).map fun w => min (profile.getD w 0) 1000
      ⟨s.modKitchen kitchen fun k => { k with profile := stored }, .ok,
        stored.map u16 ++ [u8 (countClamped profile stored)]⟩) s

/-- REMOVE_KITCHEN (R8). -/
def execRemoveKitchen (tag : Byte) (kitchen : Nat) (s : State) : Outcome :=
  hostNow tag 0x16 (.removeKitchen tag kitchen) (fun s =>
    let k := s.kitchen kitchen
    if s.catching then refuse s .wait
    else if Config.kitchens ≤ kitchen then refuse s .badField
    else if !k.inTable then refuse s .noSuch
    else if k.dispatch ≠ [] ∨ k.terminals ≠ [] then refuse s .badState
    else ⟨s.modKitchen kitchen fun k => { k with inTable := false }, .ok, []⟩) s

/-- READ_KITCHEN (R9). -/
def execReadKitchen (tag : Byte) (kitchen : Nat) (s : State) : Outcome :=
  hostNow tag 0x17 (.readKitchen tag kitchen) (fun s =>
    if Config.kitchens ≤ kitchen then refuse s .badField
    else if !(s.kitchen kitchen).inTable then refuse s .noSuch
    else ⟨s, .ok, (s.kitchen kitchen).fields⟩) s

/-! ### The store -/

/-- The low-water condition (R22). -/
def State.lowWater (s : State) : Bool := s.store.freeCount < Config.lowWater

/-- READ_STORE (R31). The headroom, −64 to 16,320, fits neither of R188's smaller widths: 4 bytes, in two's complement.
The entry or series id that the walk visits next is two fields of 2 bytes, the entry and the id, and the one that does not
apply is FFFFh (log 23). -/
def execReadStore (tag : Byte) (s : State) : Outcome :=
  hostNow tag 0x20 (.readStore tag) (fun s =>
    let st := s.store
    let live := (s.dir.entries.filter fun e => e.booking.isSome).length
    let entry := st.walk.bind fun w => match w.pos with | .entry n => some n | .series _ => none
    let series := st.walk.bind fun w => match w.pos with | .entry _ => none | .series n => some n
    ⟨s, .ok, [u16 st.freeCount, .signed 4 ((st.freeCount : Int) - Config.reserve), u16 s.dir.fifo.length, u16 live,
      u16 st.heldHead, u16 st.heldNote, u16 st.heldOrder, u16 st.heldSeries, flagField s.lowWater,
      flagField st.walk.isSome, .num 4 (st.walk.map (·.day)), .num 2 entry, .num 2 series, .num 4 st.pendingDay,
      .num 4 st.lastDay]⟩) s

end Sys2Proof.Machine
end

