-- ==== Sys2Proof/Machine/Notices.lean ====
section
/-! DEFINITION. The requests of the Notice Unit (chapter 11): SET_NOTICE_ENABLES, READ_NOTICES, NEXT_CHANGED and
READ_COUNTS. -/

namespace Sys2Proof.Machine

/-- The six values of a flag set as an answer gives them. -/
def enableFields (e : Enables) : List Field := (flagList e).map flagField

/-- SET_NOTICE_ENABLES (R176). -/
def execSetNoticeEnables (tag : Byte) (master : Bool) (enables : Enables) (s : State) : Outcome :=
  hostNow tag 0xA0 (.setNoticeEnables tag master enables) (fun s =>
    ⟨{ s with notice := { s.notice with master := master, enables := enables } }, .ok,
      [flagField master] ++ enableFields enables ++ enableFields s.notice.flags⟩) s

/-- CLOCK's condition (R177). -/
def State.inHoldover (s : State) : Bool := s.clock.state = .holdover

/-- The flags after a READ_NOTICES (R177 steps 2 and 3). -/
def State.readFlags (s : State) : Notice :=
  { s.notice with
    changed := s.notice.changed.seen
    series := s.notice.series.seen
    panel := s.notice.panel.seen
    catering := s.notice.catering.seen
    store := s.notice.store && s.lowWater
    clock := s.notice.clock && s.inHoldover }

/-- READ_NOTICES (R177). The condition-kind flags that the read cleared are a set of names (R188): STORE bit 0, CLOCK bit
1. -/
def execReadNotices (tag : Byte) (s : State) : Outcome :=
  hostNow tag 0xA1 (.readNotices tag) (fun s =>
    ⟨{ s with notice := s.readFlags }, .ok,
      enableFields s.notice.flags ++ [flagField s.lowWater, flagField s.inHoldover,
        u16 (nameSet [s.notice.store && !s.lowWater, s.notice.clock && !s.inHoldover])] ++
        enableFields s.notice.enables ++ [flagField s.notice.master]⟩) s

/-! ### NEXT_CHANGED -/

/-- The lowest directory entry whose booking carries a set mark (R178). -/
def State.markedBooking (s : State) : Option Nat := s.dir.entries.findIdx? fun e => e.booking.any (·.mark)

/-- The lowest series id whose mark is set (R178). -/
def State.markedSeries (s : State) : Option Nat := s.series.list.findIdx? fun o => o.any (·.mark)

/-- The lowest panel whose mark is set (R178). -/
def State.markedPanel (s : State) : Option Nat := s.panelBus.panels.findIdx? (·.mark)

/-- The body of a NEXT_CHANGED: the none left mark, then the record or what was cleared (R178, R179). -/
def changedBody (noneLeft : Bool) (contents : List Field) : List Field := flagField noneLeft :: contents

/-- The BOOKING category (R178, R179). The handle is given once, as the first of the contents that READ_BOOKING gives (log
23). -/
def State.nextBooking (s : State) : Reply :=
  match s.markedBooking with
  | some i =>
    let s1 := s.modBooking i fun b => { b with mark := false }
    ⟨s1, .ok, changedBody false (((s1.bookingAt i).map s1.readFields).getD [])⟩
  | none =>
    let n := s.notice
    ⟨{ s with notice := { n with changed := n.changed.drained, catering := n.catering.drained } }, .ok,
      changedBody true [flagField n.changed.clears, flagField n.catering.clears]⟩

/-- The SERIES category (R178, R179). The id is given once, as the first of the contents that READ_SERIES gives (log 23). -/
def State.nextSeries (s : State) : Reply :=
  match s.markedSeries with
  | some id =>
    let s1 := s.modSeries id fun x => { x with mark := false }
    ⟨s1, .ok, changedBody false (((s1.seriesAt id).map (s1.seriesFields id)).getD [])⟩
  | none =>
    let n := s.notice
    ⟨{ s with notice := { n with series := n.series.drained } }, .ok, changedBody true [flagField n.series.clears]⟩

/-- The PANEL category (R178, R179). The index is put in front of the contents that READ_PANEL gives, which do not hold it
(log 23). -/
def State.nextPanel (s : State) : Reply :=
  match s.markedPanel with
  | some p =>
    let s1 := s.modPanel p fun x => { x with mark := false }
    ⟨s1, .ok, changedBody false (u8 p :: s1.panelFields p)⟩
  | none =>
    let n := s.notice
    ⟨{ s with notice := { n with panel := n.panel.drained } }, .ok, changedBody true [flagField n.panel.clears]⟩

/-- NEXT_CHANGED (R178, R179). -/
def execNextChanged (tag : Byte) (category : Nat) (s : State) : Outcome :=
  hostNow tag 0xA2 (.nextChanged tag category) (fun s =>
    match category with
    | 0 => s.nextBooking
    | 1 => s.nextSeries
    | 2 => s.nextPanel
    | _ => refuse s .badField) s

/-! ### READ_COUNTS -/

/-- Every count, in the order of R180. -/
def State.counts (s : State) : List Nat :=
  s.rooms.map (·.noShow) ++ s.panelBus.panels.map (·.missed) ++ [s.bank.timerCount]

/-- Every count at 0 (R180). -/
def State.clearCounts (s : State) : State :=
  { s with
    rooms := s.rooms.map fun r => { r with noShow := 0 }
    panelBus := { s.panelBus with panels := s.panelBus.panels.map fun p => { p with missed := 0 } }
    bank := { s.bank with timerCount := 0 } }

/-- READ_COUNTS (R180): the values, and a mark for each that was read at 255. -/
def execReadCounts (tag : Byte) (s : State) : Outcome :=
  hostNow tag 0xA3 (.readCounts tag) (fun s =>
    ⟨s.clearCounts, .ok, s.counts.map u8 ++ s.counts.map fun n => flagField (n = 255)⟩) s

end Sys2Proof.Machine
end

