-- ==== Sys2Proof/Machine/Resets.lean ====
section
/-! DEFINITION. The resets and the retention supply (chapter 12 and each block's reset rule). The queue of waiting commands
is the sender's and is kept (log 14). -/

namespace Sys2Proof.Machine

/-- The part after power-on reset (R182), with the sender's queue. -/
def State.powerOn (s : State) : State := { State.reset with pending := s.pending }

/-- POWER_ON_RESET (R182). -/
def execPowerOnReset (s : State) : Outcome := done s.powerOn

/-- The later of two days that may be absent. -/
def laterDay : Option Nat → Option Nat → Option Nat
  | some a, some b => some (max a b)
  | some a, none => some a
  | none, b => b

/-- The pending day after a warm reset: the latest of the pending day, the abandoned walk's day and the day events not yet
taken (R32, R69, R152, log 15). -/
def pendingAfter (pending walk : Option Nat) (owed : List Nat) : Option Nat :=
  owed.foldl (fun p d => laterDay p (some d)) (laterDay pending walk)

/-- The Campus Clock at a warm reset (R13). -/
def Clock.warm (c : Clock) : Clock :=
  { c with second := 0, state := .stopped, timeSet := false, timeFloor := c.minute, watch := 0, held := [] }

/-- A panel table entry at a warm reset, before its view or list is built (R121). -/
def Panel.warm (p : Panel) : Panel :=
  { p with
    state := (match p.state with
      | .unbound => .unbound
      | .barred => .barred
      | .bound | .online | .late | .lost => .bound)
    hold := none, misses := 0, sincePoll := p.interval, ackedSeq := none, active := none, staging := none
    viewDeferred := false, slot := .empty }

/-- The holds that wait are made as at the end of a transaction (R121). -/
def State.makeHolds (s : State) : State :=
  overAll Config.panels (fun p t => match (t.panel p).hold with | some h => t.makeHold p h.kind | none => t) s

/-- A panel's view or list is built from the kept records (R121). -/
def State.rebuildPanel (s : State) (p : Nat) : State :=
  match (s.panel p).kind, (s.panel p).boundTo with
  | some .room, some r => s.modPanel p fun e => e.publish (s.buildView r)
  | some .kitchen, some k => s.buildList k p
  | _, _ => s

/-- The engine, store and directory: every timer field becomes absent (R55). -/
def State.dropTimers (s : State) : State :=
  { s with dir := { s.dir with
    entries := s.dir.entries.map fun e => { e with booking := e.booking.map fun b => { b with timer := none } } } }

/-- A sweep in flight is abandoned: its room returns to IN_SERVICE and its closure is kept with swept no (R166). -/
def State.abandonSweep (s : State) : State :=
  if s.sweep.sweeping then
    { s.modRoom s.sweep.room fun r => { r with service := .inService } with sweep := .idle }
  else { s with sweep := .idle }

/-- Some live booking carries a set change mark. -/
def State.anyBookingMark (s : State) : Bool := s.dir.entries.any fun e => e.booking.any (·.mark)

/-- The flags re-derived from the kept records (R181). -/
def State.rederive (s : State) : State :=
  let marked := s.anyBookingMark
  { s with notice := { s.notice with
    changed := ⟨marked, false⟩
    series := ⟨s.series.list.any fun o => o.any (·.mark), false⟩
    panel := ⟨s.panelBus.panels.any (·.mark), false⟩
    catering := ⟨s.notice.catering.isSet && marked, false⟩
    store := decide (s.store.freeCount < Config.lowWater)
    clock := false } }

/-- The walks, queues and searches that a warm reset abandons (R32, R69, R85, R154). -/
def State.abandonWalks (s : State) : State :=
  { s with
    store := { s.store with
      walk := none
      pendingDay := pendingAfter s.store.pendingDay (s.store.walk.map (·.day)) s.owed.retirements }
    series := { s.series with
      walk := none
      pendingDay := pendingAfter s.series.pendingDay (s.series.walk.map (·.day)) s.owed.materialisations
      passQueue := []
      pass := none }
    catering := { s.catering with
      walk := none
      pendingDay := pendingAfter s.catering.pendingDay (s.catering.walk.map (·.day)) s.owed.plannings }
    placement := { s.placement with queue := [], search := none } }

/-- The clock, the link, the bank and the catch-up walk at a warm reset (R13, R86, R174, R182, R187). -/
def State.warmBlocks (s : State) : State :=
  { s with
    clock := s.clock.warm
    owed := .nothing
    handed := []
    bank := { s.bank with channels := List.replicate Config.channels .idle }
    link := ⟨[], [], [], [], false, []⟩
    retention := .good
    catchUpOwed := true
    missedDayStart := (match s.catchUp with | some c => c.missed.head? | none => s.missedDayStart)
    catchUp := none }

/-- The panel buses at a warm reset (R121): every entry, the port records, and then the views and lists. -/
def State.warmPanels (s : State) : State :=
  overAll Config.panels (fun p t => t.rebuildPanel p)
    { s with panelBus := ⟨s.panelBus.panels.map Panel.warm, List.replicate Config.ports .idle, [], []⟩ }

/-- The part after a warm reset (R182). -/
def State.warm (s : State) : State :=
  s.makeHolds.abandonSweep.abandonWalks.dropTimers.warmBlocks.warmPanels.rederive

/-- WARM_RESET: the kind of reset follows the retention status at that moment (R182). -/
def execWarmReset (s : State) : Outcome :=
  match s.retention with
  | .good => done s.warm
  | .lost => done s.powerOn

/-- RETENTION_LOSS (R182). -/
def execRetentionLoss (s : State) : Outcome := done { s with retention := .lost }

end Sys2Proof.Machine
end

