-- ==== Sys2Proof/Machine/Services.lean ====
section
/-! DEFINITION. Services at the room (chapter 8): WALK_UP, EXTEND and END_NOW; and the engine's minute event (03 section
3.8). -/

namespace Sys2Proof.Machine

/-- Steps 1 to 4 of R122; `fieldOk` is step 4. -/
def State.serviceGate (s : State) (src : PanelRef) (fieldOk : Bool) : Option Status :=
  match s.panelGate with
  | some st => some st
  | none => if src.kind = .kitchen then some .badState else if !fieldOk then some .badField else none

/-- The booking that EXTEND and END_NOW name: of the panel's room, or none (R123). -/
def State.roomBooking (s : State) (src : PanelRef) (h : Option Handle) : Option Booking :=
  (s.panelBooking h).filter fun b => b.room = src.target

/-! ### WALK_UP -/

/-- A limiting term and its minute (R125, R129). -/
structure Term where
  code : Nat
  minute : Nat
deriving DecidableEq, Repr

/-- The least of several terms, a tie to the earlier one. -/
def leastTerm (first : Term) (rest : List Term) : Term := rest.foldl (fun a b => if b.minute < a.minute then b else a) first

/-- A term that may be absent, as a list. -/
def termOf (code : Nat) (m : Option Nat) : List Term := (m.map fun x => ⟨code, x⟩).toList

/-- The terms of R125, and their least. ASKED 0, NEXT_BOOKING 1, CLOSURE 2 (log 24). A next start less the turnover that
falls below minute 0 is taken as minute 0 (log 47). -/
def State.walkUpTerm (s : State) (r wanted : Nat) : Term :=
  let now := s.clock.minute
  let next := ((s.timelineOf r).find? fun b => now < b.startMin).map fun b => b.startMin - (s.room r).turnover
  let closure := (s.room r).closure.bind fun c => if now < c.fromMin then some c.fromMin else none
  leastTerm ⟨0, now + wanted⟩ (termOf 1 next ++ termOf 2 closure)

/-- The room is CLOSING or CLOSED, or a recorded closure holds now (R124 step 5). -/
def Room.closedNow (r : Room) (now : Nat) : Bool :=
  r.service ≠ .inService || r.closure.any fun c => c.fromMin ≤ now && now < c.toMin

/-- The booking that is in a walk-up's way (R124 step 6): the first in timeline order where several are (log 46). -/
def State.inTheWay (s : State) (r now : Nat) : Option Booking :=
  (s.timelineOf r).find? fun b =>
    match b.state with
    | .awaiting | .inUse => now < b.endMin
    | .booked => b.startMin ≤ now && now < b.endMin
    | .ended | .endedEarly | .released | .cancelled | .displaced => false

/-- The minute until which the previous booking's turnover keeps the room (R124 step 7). -/
def State.turnoverUntil (s : State) (r now : Nat) : Option Nat :=
  let previous := ((s.timelineOf r).filter fun b => b.startMin ≤ now).getLast?
  (previous.map fun b => b.endMin + (s.room r).turnover).filter fun m => now < m

/-- The booking of a walk-up (R126). -/
def walkUpBooking (t : Taken) (r : Room) (room now endMin : Nat) (badge : Id32) : Booking :=
  { newBooking t room now endMin 1 badge r.building 0 0 .exempt .walkup none none [] with
    state := .inUse, attendance := .checked }

/-- R126. -/
def State.makeWalkUp (s : State) (room endMin : Nat) (badge : Id32) (term : Term) : State × PanelAnswer :=
  match s.takeRecord (.host 2) false false none with
  | none => (s, .result .noSpace [])
  | some (s1, t) =>
    let now := s.clock.minute
    let b := walkUpBooking t (s.room room) room now endMin badge
    ((s1.enter b).putOnTimeline b,
      .result .ok [handleField t.handle, minuteField now, minuteField endMin, u8 term.code,
        flagField (endMin ≠ term.minute)])

/-- Steps 5 to 9 of R124. -/
def State.walkUpIn (s : State) (room wanted : Nat) (badge : Id32) : State × PanelAnswer :=
  let r := s.room room
  let now := s.clock.minute
  if r.closedNow now then (s, .result .closed [.num 4 (r.closure.map (·.toMin))])
  else
    match s.inTheWay room now, s.turnoverUntil room now with
    | some b, _ => (s, .result .conflict [handleField b.handle, minuteField b.endMin])
    | none, some m => (s, .result .noTime [minuteField m])
    | none, none =>
      if s.dir.fifo = [] ∨ !(AllocClass.host 2).admits s.store.freeCount 1 then (s, .result .noSpace [])
      else
        let term := s.walkUpTerm room wanted
        let endMin := floorGrid term.minute
        if endMin < now + 15 then (s, .result .noTime [minuteField endMin])
        else s.makeWalkUp room endMin badge term

/-- WALK_UP (R122, R124). A room out of the table answers NO_SUCH (log 38). -/
def execWalkUp (src : PanelRef) (wanted : Nat) (badge : Id32) (s : State) : Outcome :=
  panelNow src 2 (.walkUp src wanted badge) (fun s =>
    match s.serviceGate src (15 ≤ wanted && wanted ≤ 120) with
    | some st => plain s st
    | none =>
      if !(s.room src.target).inTable then plain s .noSuch
      else s.walkUpIn src.target wanted badge) s

/-! ### EXTEND -/

/-- The terms of R129, and their least. ASKED 0, NEXT_BOOKING 1, CLOSURE 2, LENGTH 3 (log 24). -/
def State.extendTerm (s : State) (b : Booking) (ask : Nat) : Term :=
  let r := s.room b.room
  let next := ((s.timelineOf b.room).find? fun x => b.startMin < x.startMin).map fun x => x.startMin - r.turnover
  let closure := r.closure.bind fun c => if b.startMin ≤ c.fromMin then some c.fromMin else none
  leastTerm ⟨0, b.endMin + ask⟩ (termOf 1 next ++ termOf 2 closure ++ [⟨3, b.startMin + 1440⟩])

/-- The new end is written and the booking is placed again (R129, R34). -/
def State.writeEnd (s : State) (b : Booking) (endMin : Nat) : State :=
  let new := { b with endMin := endMin }
  (((s.takeOffTimeline b.room b.handle).modBooking b.handle.idx fun x => { x with endMin := endMin }).putOnTimeline new)

/-- R129 for an IN_USE booking. -/
def State.extendBooking (s : State) (b : Booking) (ask : Nat) : State × PanelAnswer :=
  let term := s.extendTerm b ask
  let newEnd := floorGrid term.minute
  if newEnd < b.endMin + 5 then (s, .result .noTime [minuteField b.endMin])
  else
    (s.writeEnd b newEnd, .result .ok [minuteField newEnd, u8 (newEnd - b.endMin), u8 term.code,
      flagField (newEnd - b.endMin < ask)])

/-- EXTEND (R122, R123, R128, R129). -/
def execExtend (src : PanelRef) (ask : Nat) (handle : Option Handle) (s : State) : Outcome :=
  panelNow src 3 (.extend src ask handle) (fun s =>
    match s.serviceGate src (ask = 15 || ask = 30) with
    | some st => plain s st
    | none =>
      match s.roomBooking src handle with
      | none => plain s .noSuch
      | some b =>
        match b.state with
        | .inUse => s.extendBooking b ask
        | .booked | .awaiting => plain s .badState
        | .ended | .endedEarly => plain s .tooLate
        | .released | .cancelled | .displaced => plain s .noSuch) s

/-! ### END_NOW -/

/-- END_NOW (R122, R123, R131). -/
def execEndNow (src : PanelRef) (handle : Option Handle) (s : State) : Outcome :=
  panelNow src 4 (.endNow src handle) (fun s =>
    match s.serviceGate src true with
    | some st => plain s st
    | none =>
      match s.roomBooking src handle with
      | none => plain s .noSuch
      | some b =>
        match b.state with
        | .inUse =>
          (s.endEarly b.handle.idx s.clock.minute, .result .ok [minuteField (max s.clock.minute b.startMin)])
        | .ended | .endedEarly => plain s .already
        | .booked | .awaiting => plain s .badState
        | .released | .cancelled | .displaced => plain s .noSuch) s

/-! ### The engine's minute event -/

/-- STARTS_AND_ENDS: the engine takes one minute event (R48 to R50). -/
def execStartsAndEnds (s : State) : Outcome :=
  match s.owed.starts with
  | [] => .next s
  | m :: rest => doneLists s (({ s with owed := { s.owed with starts := rest } }).startsAndEnds m)

/-- COMMIT: the scheduler takes one minute event (R143). -/
def execCommit (s : State) : Outcome :=
  match s.owed.commits with
  | [] => .next s
  | m :: rest => doneLists s (({ s with owed := { s.owed with commits := rest } }).commits m)

/-- CLOSURE_TIMES: the Closure Sweep Unit takes one minute event (R163, R165). -/
def execClosureTimes (s : State) : Outcome :=
  match s.owed.closures with
  | [] => .next s
  | m :: rest => done (({ s with owed := { s.owed with closures := rest } }).closureTimes m)

end Sys2Proof.Machine
end

