-- ==== Sys2Proof/Machine/Decoders.lean ====
section
/-! DEFINITION. The bodies of the request frames (R188): one reader for each kind of field, and the command that each request
kind's body spells. Where R188 leaves a layout open, log 21 and log 22 say what is chosen. -/

namespace Sys2Proof.Machine

/-- A reader takes its field from the front of the bytes, or fails. -/
abbrev Reader (α : Type) := StateT (List Byte) Option α

/-- The next `n` bytes. -/
def rBytes (n : Nat) : Reader (List Byte) := fun bs => if bs.length < n then none else some (bs.take n, bs.drop n)

/-- A number of `w` bytes, least significant byte first. -/
def rNum (w : Nat) : Reader Nat := do return leNat (← rBytes w)

/-- A signed number of one byte, in two's complement. -/
def rSigned : Reader Int := do return (BitVec.ofNat 8 (← rNum 1)).toInt

/-- Yes or no: 0 or 1 (log 21). -/
def rFlag : Reader Bool := do
  match ← rNum 1 with
  | 0 => return false
  | 1 => return true
  | _ => failure

/-- A field that may be absent, after its presence byte. -/
def rOpt {α : Type} (r : Reader α) : Reader (Option α) := do
  if ← rFlag then return some (← r) else return none

/-- `n` fields of one kind. -/
def rList {α : Type} (r : Reader α) : Nat → Reader (List α)
  | 0 => return []
  | n + 1 => do
    let x ← r
    return x :: (← rList r n)

def rHandle : Reader Handle := do return ⟨← rNum 2, ← rNum 1⟩
def rCaps : Reader Caps := do return BitVec.ofNat 16 (← rNum 2)
def rId : Reader Id32 := do return BitVec.ofNat 32 (← rNum 4)
def rNote : Reader (List Byte) := do rBytes (← rNum 1)
def rLine : Reader Line := do return ⟨← rNum 1, ← rNum 1⟩
def rOrder : Reader OrderForm := do return ⟨← rNum 2, ← rList rLine (← rNum 1)⟩
def rSpan : Reader SpanForm := do return ⟨← rNum 4, ← rOpt (rNum 4), ← rOpt (rNum 2)⟩

def rRoomForm : Reader RoomForm := do
  return ⟨← rNum 2, ← rOpt (rNum 1), ← rOpt rSigned, ← rOpt (rNum 2), ← rOpt rCaps, ← rOpt (rNum 1), ← rOpt (rNum 1),
    ← rOpt (rNum 1), ← rOpt (rNum 1), ← rOpt (rNum 1), ← rOpt (rNum 1), ← rOpt rFlag⟩

def rKitchenForm : Reader KitchenForm := do return ⟨← rNum 1, ← rList (rNum 1) Config.buildings, ← rNum 1, ← rNum 1⟩

def rPolicyForm : Reader PolicyForm := do
  return ⟨← rNum 1, ← rNum 1, ← rNum 1, ← rNum 1, ← rNum 1, ← rNum 1, ← rNum 1⟩

def rBookForm : Reader BookForm := do
  return ⟨← rNum 2, ← rSpan, ← rNum 2, ← rId, ← rNum 1, ← rCaps, ← rCaps, ← rOpt (rNum 1), ← rOpt rNote, ← rOpt rOrder⟩

def rAmendForm : Reader AmendForm := do
  return ⟨← rHandle, ← rOpt (rNum 4), ← rOpt (rNum 4), ← rOpt (rNum 2), ← rOpt (rNum 2), ← rOpt (rNum 2), ← rOpt rNote,
    ← rFlag⟩

def rSeriesForm : Reader SeriesForm := do
  return ⟨← rNum 2, ← rNum 4, ← rNum 2, ← rNum 1, ← rNum 1, ← rNum 2, ← rId, ← rOpt (rNum 1), ← rOpt rOrder, ← rOpt rNote⟩

def rPlaceForm : Reader PlaceForm := do
  return ⟨← rNum 2, ← rCaps, ← rCaps, ← rNum 1, ← rNum 1, ← rSpan, ← rOpt (rNum 2), ← rFlag⟩

/-- PLACE_AND_BOOK: the fields of PLACE without its covers, then those of 05 section 5.6 (log 22). -/
def rPlaceBookForm : Reader PlaceBookForm := do
  let place : PlaceForm := ⟨← rNum 2, ← rCaps, ← rCaps, ← rNum 1, ← rNum 1, ← rSpan, none, ← rFlag⟩
  return ⟨place, ← rId, ← rOpt (rNum 1), ← rOpt rNote, ← rOpt rOrder⟩

def rCloseForm : Reader CloseForm := do return ⟨← rNum 2, ← rNum 4, ← rNum 4, ← rNum 1⟩

def rEnables : Reader Enables := do return ⟨← rFlag, ← rFlag, ← rFlag, ← rFlag, ← rFlag, ← rFlag⟩

/-- The reader of a request kind's body; none is an unknown kind (13 section 13.1). The target of BIND_PANEL takes 2 bytes for
either kind (log 55). -/
def bodyReader (tag : Byte) (kind : Nat) : Option (Reader Instr) :=
  match kind with
  | 0x01 => some do return .setTime tag (← rNum 4) (← rNum 1)
  | 0x02 => some do return .start tag
  | 0x03 => some do return .trimTime tag (← rSigned)
  | 0x04 => some do return .readTime tag
  | 0xB0 => some do return .readRetention tag
  | 0x10 => some do return .setDistances tag (← rNum 1) (← rList (rNum 1) Config.buildings)
  | 0x11 => some do return .setRoom tag (← rRoomForm)
  | 0x12 => some do return .removeRoom tag (← rNum 2)
  | 0x13 => some do return .readRoom tag (← rNum 2)
  | 0x14 => some do return .setKitchen tag (← rKitchenForm)
  | 0x15 => some do return .setKitchenProfile tag (← rNum 1) (← rList (rNum 2) Config.windows)
  | 0x16 => some do return .removeKitchen tag (← rNum 1)
  | 0x17 => some do return .readKitchen tag (← rNum 1)
  | 0x18 => some do return .setWeights tag ⟨← rNum 1, ← rNum 1, ← rNum 1, ← rNum 1⟩
  | 0x19 => some do return .setPolicy tag (← rPolicyForm)
  | 0x20 => some do return .readStore tag
  | 0x30 => some do return .book tag (← rBookForm)
  | 0x31 => some do return .amend tag (← rAmendForm)
  | 0x32 => some do return .cancel tag (← rHandle)
  | 0x33 => some do return .readBooking tag (← rHandle)
  | 0x34 => some do return .listRoom tag (← rNum 2) (← rOpt (rNum 4)) (← rOpt (rNum 1))
  | 0x40 => some do return .createSeries tag (← rSeriesForm)
  | 0x41 => some do return .endSeries tag (← rNum 2)
  | 0x42 => some do return .resumeSeries tag (← rNum 2)
  | 0x43 => some do return .readSeries tag (← rNum 2)
  | 0x50 => some do return .place tag (← rPlaceForm)
  | 0x51 => some do return .placeAndBook tag (← rPlaceBookForm)
  | 0x52 => some do return .readPlacement tag
  | 0x60 => some do return .readTimers tag
  | 0x70 => some do return .bindPanel tag (← rNum 1) (← rNum 1) (← rNum 2)
  | 0x71 => some do return .unbind tag (← rNum 1)
  | 0x72 => some do return .bar tag (← rNum 1)
  | 0x73 => some do return .unbar tag (← rNum 1)
  | 0x74 => some do return .setPoll tag (← rNum 1) (← rNum 1)
  | 0x75 => some do return .readPanel tag (← rNum 1)
  | 0x80 => some do return .order tag (← rHandle) (← rOrder)
  | 0x81 => some do return .changeOrder tag (← rHandle) (← rOrder)
  | 0x82 => some do return .voidOrder tag (← rHandle)
  | 0x83 => some do return .readLoad tag (← rNum 1) (← rNum 4) (← rNum 1) (← rOpt (rNum 1))
  | 0x90 => some do return .closeRoom tag (← rCloseForm)
  | 0x91 => some do return .reopenRoom tag (← rNum 2)
  | 0x92 => some do return .readSweep tag
  | 0xA0 => some do return .setNoticeEnables tag (← rFlag) (← rEnables)
  | 0xA1 => some do return .readNotices tag
  | 0xA2 => some do return .nextChanged tag (← rNum 1)
  | 0xA3 => some do return .readCounts tag
  | _ => none

/-- Whether the fields of a kind give the body length, a note's length byte being 0 to 40 (R188). An AMEND's fields take
at most 65 bytes. Each other kind with a note has an order or a template beside it, whose lines give the greater lengths,
and the readers take no other length of the remaining kinds. A note over 40 characters within a length so given is read
as it stands (log 21). -/
def lengthGiven (kind length : Nat) : Bool := kind ≠ 0x31 || length ≤ 65

/-- The command of a request frame: none when the kind is unknown or the body is not one that the kind admits (R170,
R188). -/
def decodeRequest (tag : Byte) (kind : Nat) (body : List Byte) : Option Instr :=
  match bodyReader tag kind, lengthGiven kind body.length with
  | some r, true =>
    match r.run body with
    | some (cmd, []) => some cmd
    | _ => none
  | _, _ => none

end Sys2Proof.Machine
end

