-- ==== Sys2Proof/Machine/Transfers.lean ====
section
/-! DEFINITION. The transfers on the SPI link and the request queue (11 sections 11.1 to 11.4). A transfer is one command,
from its chip select's assertion to its deassertion (log 27). -/

namespace Sys2Proof.Machine

/-- STATUS (R168). -/
def execStatus (s : State) : Outcome := done s.beginTransfer

/-- A transfer with any other command, or with none, reads the link status and has no further effect (R168). -/
def execOtherTransferCommand (_code : Option Byte) (s : State) : Outcome := done s.beginTransfer

/-- The frame of a SEND with a whole header (R169). -/
def frameOf (tag kind len : Byte) (body : List Byte) : Frame :=
  ⟨tag, kind.toNat, body.take Config.bodyMax, Config.bodyMax < len.toNat || body.length ≠ len.toNat⟩

/-- The Host Link acts on the bytes of a SEND (R169). -/
def State.deliver (s : State) (bytes : List Byte) : State :=
  match bytes with
  | tag :: kind :: len :: body =>
    if s.link.requests.length < Config.linkPlaces then
      { s with link := { s.link with requests := s.link.requests ++ [frameOf tag kind len body] } }
    else { s with link := { s.link with fullSeen := true } }
  | _ => s

/-- SEND (R168, R169). -/
def execSend (bytes : List Byte) (s : State) : Outcome := done (s.beginTransfer.deliver bytes)

/-- The bytes that a FETCH offers: the answer at the head, or the empty-answer marker (R171). -/
def State.fetchBytes (s : State) : List Byte :=
  match s.link.filled with
  | a :: _ => a.bytes
  | [] => emptyMarker

/-- FETCH of `count` bytes (R171): the answer leaves only when every byte of it was shifted out. -/
def execFetch (count : Nat) (s : State) : Outcome :=
  let s1 := s.beginTransfer
  let bytes := s1.fetchBytes
  let whole := bytes.length ≤ count
  done { s1 with link := { s1.link with
    miso := s1.link.miso ++ bytes.take count
    filled := if whole then s1.link.filled.drop 1 else s1.link.filled } }

/-- Marks a host client dropped. -/
def Client.drop : Client → Client
  | .host ref => .host ref.drop
  | c => c

/-- Marks a host origin dropped. -/
def SweepOrigin.drop : SweepOrigin → SweepOrigin
  | .host ref => .host ref.drop
  | .resumed => .resumed

/-- Every request that holds a reserved place is marked dropped, wherever it waits (R172). -/
def State.dropRequests (s : State) : State :=
  { s with
    link := { s.link with passed := s.link.passed.map fun p => { p with ref := p.ref.drop } }
    placement := { s.placement with queue := s.placement.queue.map fun e => { e with client := e.client.drop } }
    sweep := { s.sweep with origin := s.sweep.origin.drop }
    panelBus := { s.panelBus with
      panels := s.panelBus.panels.map fun p => { p with hold := p.hold.map fun h => { h with ref := h.ref.drop } } } }

/-- LINK_RESET (R172). -/
def execLinkReset (s : State) : Outcome :=
  let s1 := s.beginTransfer.dropRequests
  done { s1 with link := { s1.link with requests := [], reserved := [], filled := [], fullSeen := false } }

/-- The Host Link takes a frame (R170): a place is reserved, the frame leaves the queue, and the request is passed on or
answered BAD_FIELD. -/
def State.takeFrame (s : State) (f : Frame) (rest : List Frame) : State :=
  let ref : HostRef := ⟨f.tag, f.kind, false⟩
  let s1 := { s with link := { s.link with requests := rest, reserved := s.link.reserved ++ [(f.tag, f.kind)] } }
  match f.malformed, decodeRequest f.tag f.kind f.body with
  | false, some cmd => { s1 with link := { s1.link with passed := s1.link.passed ++ [⟨ref, cmd⟩] } }
  | _, _ => s1.answer ref .badField []

/-- TAKE_REQUEST_FRAME (R170). -/
def execTakeRequestFrame (s : State) : Outcome :=
  match s.link.requests with
  | [] => .next s
  | f :: rest => if s.link.used < Config.linkPlaces then done (s.takeFrame f rest) else .next s

end Sys2Proof.Machine
end

