-- ==== Sys2Proof/Machine/Walks.lean ====
section
/-! DEFINITION. The day walks: the retirement walk (R29, R30), the materialisation walk (R61), the planning walk (R151,
R152), and the catch-up walk (R183 to R187) that runs them for the missed days. -/

namespace Sys2Proof.Machine

/-- The pending day of a walk that ends: its walk begins (R29, R61, R151). -/
def State.beginRetirement (s : State) (day : Nat) : State :=
  { s with store := { s.store with walk := some ⟨day, .entry 0⟩ } }

def State.beginMaterialisation (s : State) (day : Nat) : State :=
  { s with series := { s.series with walk := some ⟨day, 0⟩ } }

/-- The rows of one kitchen when `n` of them are given over (R151): the oldest leave and rows at load 0 join. -/
def giveOver (n : Nat) (rows : List (List Nat)) : List (List Nat) :=
  rows.drop n ++ List.replicate (min n Config.dayRows) (List.replicate Config.windows 0)

/-- A planning walk begins and takes its first step: every row before its day is given over, and the days that rows were
given to are its added days (R151, log 16). -/
def State.beginPlanning (s : State) (day : Nat) : State :=
  let f := s.catering.horizon.getD day
  if f < day then
    { s with catering := { s.catering with
      horizon := some day
      loads := s.catering.loads.map (giveOver (day - f))
      walk := some ⟨day, upFrom (max (f + Config.dayRows) day) (min (day - f) Config.dayRows)⟩ } }
  else { s with catering := { s.catering with horizon := some f, walk := some ⟨day, []⟩ } }

/-! ### Day events (R29, R61, R151) -/

/-- The day event reaches the store. -/
def State.retirementDay (s : State) (day : Nat) : State :=
  if s.store.walk.isSome then { s with store := { s.store with pendingDay := some day } } else s.beginRetirement day

/-- The day event reaches the Series Unit. -/
def State.materialisationDay (s : State) (day : Nat) : State :=
  if s.series.walk.isSome then { s with series := { s.series with pendingDay := some day } }
  else s.beginMaterialisation day

/-- The day event reaches the scheduler. -/
def State.planningDay (s : State) (day : Nat) : State :=
  if s.catering.walk.isSome then { s with catering := { s.catering with pendingDay := some day } }
  else s.beginPlanning day

/-- RETIREMENT_WALK: the store takes one day event (R29). -/
def execRetirementWalk (s : State) : Outcome :=
  match s.owed.retirements with
  | [] => .next s
  | d :: rest => done (({ s with owed := { s.owed with retirements := rest } }).retirementDay d)

/-- MATERIALISATION_WALK: the Series Unit takes one day event (R61). -/
def execMaterialisationWalk (s : State) : Outcome :=
  match s.owed.materialisations with
  | [] => .next s
  | d :: rest => done (({ s with owed := { s.owed with materialisations := rest } }).materialisationDay d)

/-- PLANNING_WALK: the scheduler takes one day event (R151). -/
def execPlanningWalk (s : State) : Outcome :=
  match s.owed.plannings with
  | [] => .next s
  | d :: rest => done (({ s with owed := { s.owed with plannings := rest } }).planningDay d)

/-! ### The catch-up walk's day walks -/

/-- A day walk is in flight. -/
def State.dayWalking (s : State) : Bool := s.store.walk.isSome || s.series.walk.isSome || s.catering.walk.isSome

/-- The last walk day of the owner of a walk. -/
def State.lastWalkDay (s : State) (w : DayWalk) : Option Nat :=
  match w with
  | .retirement => s.store.lastDay
  | .materialisation => s.series.lastDay
  | .planning => s.catering.lastDay

/-- A missed day's walk is passed over when its owner has already walked that day (R186). -/
def State.passedOver (s : State) (t : DayTask) : Bool := !t.pending && (s.lastWalkDay t.walk).any fun d => t.day ≤ d

/-- The tasks from the first that is not passed over. -/
def State.remaining (s : State) (todo : List DayTask) : List DayTask := todo.dropWhile s.passedOver

/-- The ids of the series whose pass is owed, ascending (R186). -/
def State.owedPasses (s : State) : List Nat :=
  (upFrom 0 Config.seriesIds).filter fun id => (s.seriesAt id).any (·.passOwed)

/-- The catch-up walk ends (R186): catch_up_owed and the missed-day start go, the owed passes join the queue, and the held
minutes are raised in order. -/
def State.catchUpDone (s : State) : State :=
  let s1 := { s with
    catchUp := none, catchUpOwed := false, missedDayStart := none
    series := { s.series with passQueue := s.owedPasses.foldl (fun q id => addNew id q) s.series.passQueue }
    clock := { s.clock with held := [] } }
  s.clock.held.foldl (fun t h => t.raiseMinute h.minute h.day) s1

/-- The missed days that still have a walk to run (R187). -/
def stillMissed (todo : List DayTask) (missed : List Nat) : List Nat :=
  missed.filter fun d => todo.any fun t => t.day = d && !t.pending

/-- After a day walk of the DAYS stage has ended: the missed days whose walks are all done leave the list, and when no
walk remains the catch-up walk ends in the same step (R186, log 35). -/
def State.afterDayWalk (s : State) : State :=
  match s.catchUp with
  | none => s
  | some c =>
    if c.stage ≠ .days ∨ s.dayWalking then s
    else
      let todo := s.remaining c.todo
      if todo = [] then s.catchUpDone
      else
        { s with catchUp := some { c with todo := todo, pos := todo.length, missed := stillMissed todo c.missed } }

/-! ### The retirement walk -/

/-- The booking of an entry is eligible for retirement by a walk (R29). -/
def retirable (day : Nat) (b : Booking) : Bool :=
  (b.state = .ended || b.state = .endedEarly || b.state = .released || b.state = .cancelled) && dayOf b.endMin < day && !b.mark

/-- The walk visits one entry (R29). -/
def State.retireVisit (s : State) (day i : Nat) : State :=
  match s.bookingAt i with
  | some b => if retirable day b then s.retire b else s
  | none => s

/-- RETIREMENT_WALK_STEP (R29): one directory entry. -/
def execRetirementWalkStep (s : State) : Outcome :=
  match s.store.walk with
  | some ⟨day, .entry i⟩ =>
    let s1 := s.retireVisit day i
    let pos := if i + 1 < Config.handles then WalkPos.entry (i + 1) else WalkPos.series 0
    doneLists s { s1 with store := { s1.store with walk := some ⟨day, pos⟩ } }
  | _ => .next s

/-- A series is eligible for retirement (R30). -/
def State.seriesRetirable (s : State) (id : Nat) (x : Series) : Bool :=
  x.state = .finished && s.dir.refs.getD id 0 = 0 && !x.passOwed && !x.mark

/-- Retires a series: its note and series blocks return and its id becomes free (R21, R30, R56). -/
def State.retireSeries (s : State) (id : Nat) (x : Series) : State :=
  let s1 := (s.giveBackOpt .note (x.note.map (·.block))).giveBack .series x.block
  { s1 with series := { s1.series with list := s1.series.list.set id none } }

/-- The series pass visits one id (R30). -/
def State.seriesVisit (s : State) (id : Nat) : State :=
  match s.seriesAt id with
  | some x => if s.seriesRetirable id x then s.retireSeries id x else s
  | none => s

/-- The retirement walk ends (R29): the last walk day, and the walk of a pending day. -/
def State.endRetirement (s : State) (day : Nat) : State :=
  let s1 := { s with store := { s.store with walk := none, lastDay := some day, pendingDay := none } }
  match s.store.pendingDay with
  | some d => s1.beginRetirement d
  | none => s1.afterDayWalk

/-- SERIES_PASS_STEP (R30): one series id. -/
def execSeriesPassStep (s : State) : Outcome :=
  match s.store.walk with
  | some ⟨day, .series id⟩ =>
    let s1 := s.seriesVisit id
    done (if id + 1 < Config.seriesIds then { s1 with store := { s1.store with walk := some ⟨day, .series (id + 1)⟩ } }
      else s1.endRetirement day)
  | _ => .next s

/-! ### The materialisation walk -/

/-- The walk visits one id (R61). During the catch-up walk an occurrence before the catch-up minute is lapsed (R186). -/
def State.materialiseVisit (s : State) (day id : Nat) : State :=
  let lapseBefore := match s.catchUp with | some c => c.minute | none => 0
  (s.dealSeries s.walkNow (day + Config.seriesHorizon) lapseBefore id).state

/-- The materialisation walk ends (R61). -/
def State.endMaterialisation (s : State) (day : Nat) : State :=
  let s1 := { s with series := { s.series with walk := none, lastDay := some day, pendingDay := none } }
  match s.series.pendingDay with
  | some d => s1.beginMaterialisation d
  | none => s1.afterDayWalk

/-- MATERIALISATION_WALK_STEP (R61): one series id. -/
def execMaterialisationWalkStep (s : State) : Outcome :=
  match s.series.walk with
  | none => .next s
  | some w =>
    let s1 := s.materialiseVisit w.day w.id
    doneLists s (if w.id + 1 < Config.seriesIds then { s1 with series := { s1.series with walk := some ⟨w.day, w.id + 1⟩ } }
      else s1.endMaterialisation w.day)

/-! ### The planning walk -/

/-- The planning walk ends (R151, R152). -/
def State.endPlanning (s : State) (day : Nat) : State :=
  let s1 := { s with catering := { s.catering with walk := none, lastDay := some day, pendingDay := none } }
  match s.catering.pendingDay with
  | some d => s1.beginPlanning d
  | none => s1.afterDayWalk

/-- The walk plans the order at the head of the request list in the WALK context (R138, R152). -/
def State.planHead (s : State) (b : Booking) : State :=
  match b.order with
  | some o => (s.leaveRequests b.handle).planPart s.walkNow b o.covers
  | none => s.leaveRequests b.handle

/-- The booking at the head of the request list, when the walk for a day takes it (R152). -/
def State.planNext (s : State) (day : Nat) : Option Handle :=
  s.catering.requestList.head?.filter fun h => dayOf (s.startOf h) < day + Config.dayRows

/-- PLANNING_WALK_STEP (R152): the head of the request list, or the end of the walk, which is a step of its own (log
48). -/
def execPlanningWalkStep (s : State) : Outcome :=
  match s.catering.walk with
  | none => .next s
  | some w =>
    match s.planNext w.day with
    | none => done (s.endPlanning w.day)
    | some h =>
      match s.bookingAt h.idx with
      | some b => doneLists s (s.planHead b)
      | none => done (s.leaveRequests h)

/-! ### The stages of the catch-up walk -/

/-- Moves the catch-up walk to a stage. -/
def CatchUp.toStage (c : CatchUp) (st : Stage) : CatchUp := { c with stage := st, pos := 0 }

/-- CATCH_UP_COMMIT_STEP (R184): the order at the head of the commit queue when it is due, else the stage ends. -/
def execCatchUpCommitStep (s : State) : Outcome :=
  match s.catchUp with
  | some c =>
    if c.stage ≠ .commits then .next s
    else
      match s.catering.commitQueue with
      | h :: _ =>
        if s.commitOf h ≤ c.minute then
          let s1 := s.commitHead h
          doneLists s { s1 with catchUp := some { c with pos := c.pos + 1 } }
        else done { s with catchUp := some (c.toStage .closures) }
      | [] => done { s with catchUp := some (c.toStage .closures) }
  | none => .next s

/-- One room with a recorded closure at the catch-up minute (R184). -/
def State.catchUpClosure (s : State) (minute r : Nat) (c : Closure) : State :=
  if c.toMin ≤ minute then s.setService r .inService none
  else if c.swept then (if c.fromMin ≤ minute then s.setService r .closed (some c) else s)
  else s.setService r .inService (some c)

/-- The next configured room with a recorded closure, from a room on (R184). -/
def State.nextClosed (s : State) (start : Nat) : Option Nat :=
  (upFrom start (Config.rooms - start)).find? fun r => (s.room r).inTable && (s.room r).closure.isSome

/-- CATCH_UP_CLOSURE_STEP (R184): the next room with a closure, else the stage ends. -/
def execCatchUpClosureStep (s : State) : Outcome :=
  match s.catchUp with
  | some c =>
    if c.stage ≠ .closures then .next s
    else
      match s.nextClosed c.pos with
      | none => done { s with catchUp := some (c.toStage .bookings) }
      | some r =>
        let s1 := match (s.room r).closure with
          | some cl => s.catchUpClosure c.minute r cl
          | none => s
        done { s1 with catchUp := some { c with pos := r + 1 } }
  | none => .next s

/-- A booking becomes IN_USE at the catch-up minute, EXEMPT with attendance UNKNOWN (R185). -/
def State.inUseUnknown (s : State) (b : Booking) : State :=
  (s.modBooking b.handle.idx fun x => { x with state := .inUse, checkin := .exempt, attendance := .unknown }).reportRoom b.room

/-- One booking is brought to the catch-up minute (R185). -/
def State.catchUpBooking (s : State) (now : Nat) (b : Booking) : State :=
  let i := b.handle.idx
  match b.state with
  | .booked =>
    if now < b.startMin then s
    else if now < b.endMin then
      if b.checkin = .required then s.inUseUnknown b
      else (s.modBooking i fun x => { x with state := .inUse }).reportRoom b.room
    else if b.checkin = .required then s.endBooking i fun _ => .unknown
    else s.endBooking i id
  | .awaiting => if now < b.endMin then s.inUseUnknown b else s.endBooking i fun _ => .unknown
  | .inUse => if now < b.endMin then s else s.endBooking i id
  | .ended | .endedEarly | .released | .cancelled | .displaced => s

/-- The three walks of a missed day (R186). -/
def dayTasks (d : Nat) : List DayTask := [⟨.retirement, d, false⟩, ⟨.materialisation, d, false⟩, ⟨.planning, d, false⟩]

/-- The walks of the DAYS stage (R186): the pending walks, then three for each missed day. -/
def State.daysToRun (s : State) (missed : List Nat) : List DayTask :=
  (s.store.pendingDay.map fun d => DayTask.mk .retirement d true).toList ++
    (s.series.pendingDay.map fun d => DayTask.mk .materialisation d true).toList ++
    (s.catering.pendingDay.map fun d => DayTask.mk .planning d true).toList ++ missed.flatMap dayTasks

/-- CATCH_UP_BOOKING_STEP (R185): one directory entry, and after entry 8,191 the stage DAYS. -/
def execCatchUpBookingStep (s : State) : Outcome :=
  match s.catchUp with
  | some c =>
    if c.stage ≠ .bookings then .next s
    else
      let s1 := match s.bookingAt c.pos with
        | some b => s.catchUpBooking c.minute b
        | none => s
      let c1 :=
        if c.pos + 1 < Config.handles then { c with pos := c.pos + 1 }
        else
          let todo := s1.daysToRun c.missed
          { c with stage := .days, pos := todo.length, todo := todo }
      doneLists s { s1 with catchUp := some c1 }
  | none => .next s

/-- A day walk of the DAYS stage begins; a pending one makes its pending day absent (R32, R186). -/
def State.beginTask (s : State) (t : DayTask) : State :=
  match t.walk with
  | .retirement =>
    let s1 := s.beginRetirement t.day
    if t.pending then { s1 with store := { s1.store with pendingDay := none } } else s1
  | .materialisation =>
    let s1 := s.beginMaterialisation t.day
    if t.pending then { s1 with series := { s1.series with pendingDay := none } } else s1
  | .planning =>
    let s1 := s.beginPlanning t.day
    if t.pending then { s1 with catering := { s1.catering with pendingDay := none } } else s1

/-- CATCH_UP_DAYS (R186): the next day walk begins, or the catch-up walk ends when none remains. -/
def execCatchUpDays (s : State) : Outcome :=
  match s.catchUp with
  | some c =>
    if c.stage ≠ .days ∨ s.dayWalking then .next s
    else
      match s.remaining c.todo with
      | [] => done s.catchUpDone
      | t :: rest =>
        let c1 := { c with todo := rest, pos := rest.length, missed := stillMissed (t :: rest) c.missed }
        done (({ s with catchUp := some c1 }).beginTask t)
  | none => .next s

end Sys2Proof.Machine
end

