-- ==== Sys2Proof/Machine/Dispatch.lean ====
section
/-! DEFINITION. The dispatch of the commands: one arm per row of spec/opcode_table.json, in the table's order. -/

namespace Sys2Proof.Machine

def exec (i : Instr) (s : State) : Host.Outcome State Fault Refusal :=
  match i with
  | .powerOnReset => Sys2Proof.Machine.execPowerOnReset s
  | .warmReset => Sys2Proof.Machine.execWarmReset s
  | .retentionLoss => Sys2Proof.Machine.execRetentionLoss s
  | .secEdge sinceTick => Sys2Proof.Machine.execSecEdge sinceTick s
  | .dividerTick => Sys2Proof.Machine.execDividerTick s
  | .enterHoldover => Sys2Proof.Machine.execEnterHoldover s
  | .minuteEvent => Sys2Proof.Machine.execMinuteEvent s
  | .secondEvent => Sys2Proof.Machine.execSecondEvent s
  | .windowExpiry channel => Sys2Proof.Machine.execWindowExpiry channel s
  | .absenceExpiry channel => Sys2Proof.Machine.execAbsenceExpiry channel s
  | .startsAndEnds => Sys2Proof.Machine.execStartsAndEnds s
  | .windowOpening => Sys2Proof.Machine.execWindowOpening s
  | .commit => Sys2Proof.Machine.execCommit s
  | .closureTimes => Sys2Proof.Machine.execClosureTimes s
  | .retirementWalk => Sys2Proof.Machine.execRetirementWalk s
  | .retirementWalkStep => Sys2Proof.Machine.execRetirementWalkStep s
  | .seriesPassStep => Sys2Proof.Machine.execSeriesPassStep s
  | .materialisationWalk => Sys2Proof.Machine.execMaterialisationWalk s
  | .materialisationWalkStep => Sys2Proof.Machine.execMaterialisationWalkStep s
  | .planningWalk => Sys2Proof.Machine.execPlanningWalk s
  | .planningWalkStep => Sys2Proof.Machine.execPlanningWalkStep s
  | .cancelPassStep => Sys2Proof.Machine.execCancelPassStep s
  | .status => Sys2Proof.Machine.execStatus s
  | .otherTransferCommand code => Sys2Proof.Machine.execOtherTransferCommand code s
  | .send bytes => Sys2Proof.Machine.execSend bytes s
  | .fetch count => Sys2Proof.Machine.execFetch count s
  | .linkReset => Sys2Proof.Machine.execLinkReset s
  | .takeRequestFrame => Sys2Proof.Machine.execTakeRequestFrame s
  | .setTime tag minute second => Sys2Proof.Machine.execSetTime tag minute second s
  | .start tag => Sys2Proof.Machine.execStart tag s
  | .trimTime tag minutes => Sys2Proof.Machine.execTrimTime tag minutes s
  | .readTime tag => Sys2Proof.Machine.execReadTime tag s
  | .readRetention tag => Sys2Proof.Machine.execReadRetention tag s
  | .setDistances tag origin row => Sys2Proof.Machine.execSetDistances tag origin row s
  | .setRoom tag form => Sys2Proof.Machine.execSetRoom tag form s
  | .removeRoom tag room => Sys2Proof.Machine.execRemoveRoom tag room s
  | .readRoom tag room => Sys2Proof.Machine.execReadRoom tag room s
  | .setKitchen tag form => Sys2Proof.Machine.execSetKitchen tag form s
  | .setKitchenProfile tag kitchen profile => Sys2Proof.Machine.execSetKitchenProfile tag kitchen profile s
  | .removeKitchen tag kitchen => Sys2Proof.Machine.execRemoveKitchen tag kitchen s
  | .readKitchen tag kitchen => Sys2Proof.Machine.execReadKitchen tag kitchen s
  | .setWeights tag weights => Sys2Proof.Machine.execSetWeights tag weights s
  | .setPolicy tag form => Sys2Proof.Machine.execSetPolicy tag form s
  | .readStore tag => Sys2Proof.Machine.execReadStore tag s
  | .book tag form => Sys2Proof.Machine.execBook tag form s
  | .amend tag form => Sys2Proof.Machine.execAmend tag form s
  | .cancel tag handle => Sys2Proof.Machine.execCancel tag handle s
  | .readBooking tag handle => Sys2Proof.Machine.execReadBooking tag handle s
  | .listRoom tag room fromMin count => Sys2Proof.Machine.execListRoom tag room fromMin count s
  | .createSeries tag form => Sys2Proof.Machine.execCreateSeries tag form s
  | .endSeries tag id => Sys2Proof.Machine.execEndSeries tag id s
  | .resumeSeries tag id => Sys2Proof.Machine.execResumeSeries tag id s
  | .readSeries tag id => Sys2Proof.Machine.execReadSeries tag id s
  | .place tag form => Sys2Proof.Machine.execPlace tag form s
  | .placeAndBook tag form => Sys2Proof.Machine.execPlaceAndBook tag form s
  | .readPlacement tag => Sys2Proof.Machine.execReadPlacement tag s
  | .readTimers tag => Sys2Proof.Machine.execReadTimers tag s
  | .bindPanel tag panel kind target => Sys2Proof.Machine.execBindPanel tag panel kind target s
  | .unbind tag panel => Sys2Proof.Machine.execUnbind tag panel s
  | .bar tag panel => Sys2Proof.Machine.execBar tag panel s
  | .unbar tag panel => Sys2Proof.Machine.execUnbar tag panel s
  | .setPoll tag panel exponent => Sys2Proof.Machine.execSetPoll tag panel exponent s
  | .readPanel tag panel => Sys2Proof.Machine.execReadPanel tag panel s
  | .order tag handle form => Sys2Proof.Machine.execOrder tag handle form s
  | .changeOrder tag handle form => Sys2Proof.Machine.execChangeOrder tag handle form s
  | .voidOrder tag handle => Sys2Proof.Machine.execVoidOrder tag handle s
  | .readLoad tag kitchen day window count => Sys2Proof.Machine.execReadLoad tag kitchen day window count s
  | .closeRoom tag form => Sys2Proof.Machine.execCloseRoom tag form s
  | .reopenRoom tag room => Sys2Proof.Machine.execReopenRoom tag room s
  | .readSweep tag => Sys2Proof.Machine.execReadSweep tag s
  | .setNoticeEnables tag master enables => Sys2Proof.Machine.execSetNoticeEnables tag master enables s
  | .readNotices tag => Sys2Proof.Machine.execReadNotices tag s
  | .nextChanged tag category => Sys2Proof.Machine.execNextChanged tag category s
  | .readCounts tag => Sys2Proof.Machine.execReadCounts tag s
  | .searchTake => Sys2Proof.Machine.execSearchTake s
  | .placementWalkStep => Sys2Proof.Machine.execPlacementWalkStep s
  | .placeCompletion => Sys2Proof.Machine.execPlaceCompletion s
  | .placeAndBookCompletion => Sys2Proof.Machine.execPlaceAndBookCompletion s
  | .findNearbyCompletion => Sys2Proof.Machine.execFindNearbyCompletion s
  | .sweepSearchCompletion => Sys2Proof.Machine.execSweepSearchCompletion s
  | .withdrawal panel search => Sys2Proof.Machine.execWithdrawal panel search s
  | .sweepStep => Sys2Proof.Machine.execSweepStep s
  | .sweepReport => Sys2Proof.Machine.execSweepReport s
  | .panelSecond => Sys2Proof.Machine.execPanelSecond s
  | .deferredViewBuild panel => Sys2Proof.Machine.execDeferredViewBuild panel s
  | .poll port => Sys2Proof.Machine.execPoll port s
  | .reply port frame => Sys2Proof.Machine.execReply port frame s
  | .followUpReply port frame => Sys2Proof.Machine.execFollowUpReply port frame s
  | .replyTimeout port => Sys2Proof.Machine.execReplyTimeout port s
  | .frameDiscarded port frame => Sys2Proof.Machine.execFrameDiscarded port frame s
  | .holdTakesEffect panel => Sys2Proof.Machine.execHoldTakesEffect panel s
  | .viewBuild room => Sys2Proof.Machine.execViewBuild room s
  | .listBuild kitchen => Sys2Proof.Machine.execListBuild kitchen s
  | .checkIn src badge handle => Sys2Proof.Machine.execCheckIn src badge handle s
  | .occupancyReading room occupied seconds => Sys2Proof.Machine.execOccupancyReading room occupied seconds s
  | .panelUnavailable room => Sys2Proof.Machine.execPanelUnavailable room s
  | .panelAvailable room => Sys2Proof.Machine.execPanelAvailable room s
  | .walkUp src wanted badge => Sys2Proof.Machine.execWalkUp src wanted badge s
  | .extend src ask handle => Sys2Proof.Machine.execExtend src ask handle s
  | .endNow src handle => Sys2Proof.Machine.execEndNow src handle s
  | .findNearby src => Sys2Proof.Machine.execFindNearby src s
  | .out src handle => Sys2Proof.Machine.execOut src handle s
  | .handed src handle => Sys2Proof.Machine.execHanded src handle s
  | .discard src handle => Sys2Proof.Machine.execDiscard src handle s
  | .received src handle => Sys2Proof.Machine.execReceived src handle s
  | .catchUpCommitStep => Sys2Proof.Machine.execCatchUpCommitStep s
  | .catchUpClosureStep => Sys2Proof.Machine.execCatchUpClosureStep s
  | .catchUpBookingStep => Sys2Proof.Machine.execCatchUpBookingStep s
  | .catchUpDays => Sys2Proof.Machine.execCatchUpDays s

end Sys2Proof.Machine
end

