-- ==== Sys2Proof/WellFormed.lean ====
section
/-! DEFINITION. Well-formed commands: every operand fits the width that chapter 13 gives its field, and every channel, port,
panel, room and kitchen that the part itself names is one it has. A value that fits its field but is out of range is
well-formed: its rule refuses it with a status. -/

namespace Sys2Proof

/-- A number fits 1, 2 or 4 bytes. -/
def fits (width n : Nat) : Bool := n < 256 ^ width

/-- A field that may be absent fits. -/
def fitsOpt (width : Nat) (n : Option Nat) : Bool := n.all (fits width)

/-- A signed number fits 1 byte. -/
def fitsSigned (n : Int) : Bool := -128 ≤ n && n ≤ 127

/-- A handle of 3 bytes that is not FFFFFFh. -/
def Handle.wf (h : Handle) : Bool := fits 2 h.idx && fits 1 h.gen && !(h.idx = 0xFFFF && h.gen = 0xFF)

def handleOptWf (h : Option Handle) : Bool := h.all Handle.wf

def noteWf (n : Option (List Byte)) : Bool := n.all fun t => fits 1 t.length

def OrderForm.wf (o : OrderForm) : Bool :=
  fits 2 o.covers && fits 1 o.lines.length && o.lines.all fun l => fits 1 l.item && fits 1 l.qty

def orderOptWf (o : Option OrderForm) : Bool := o.all OrderForm.wf

def SpanForm.wf (f : SpanForm) : Bool := fits 4 f.startMin && fitsOpt 4 f.endMin && fitsOpt 2 f.length

def RoomForm.wf (f : RoomForm) : Bool :=
  fits 2 f.room && fitsOpt 1 f.building && f.floor.all fitsSigned && fitsOpt 2 f.seats && fitsOpt 1 f.turnover &&
    fitsOpt 1 f.policy && fitsOpt 1 f.who && fitsOpt 1 f.earlyOpen && fitsOpt 1 f.grace && fitsOpt 1 f.absenceLimit

def KitchenForm.wf (f : KitchenForm) : Bool :=
  fits 1 f.kitchen && f.reach.length = Config.buildings && f.reach.all (fits 1) && fits 1 f.lead && fits 1 f.spill

def Weights.wf (w : Weights) : Bool := fits 1 w.wF && fits 1 w.wD && fits 1 w.wW && fits 1 w.wR

def PolicyForm.wf (f : PolicyForm) : Bool :=
  fits 1 f.turnover && fits 1 f.policy && fits 1 f.who && fits 1 f.earlyOpen && fits 1 f.grace && fits 1 f.absenceLimit &&
    fits 1 f.threshold

def BookForm.wf (f : BookForm) : Bool :=
  fits 2 f.room && f.span.wf && fits 2 f.headCount && fits 1 f.origin && fitsOpt 1 f.override && noteWf f.note &&
    orderOptWf f.order

def AmendForm.wf (f : AmendForm) : Bool :=
  f.handle.wf && fitsOpt 4 f.startMin && fitsOpt 4 f.endMin && fitsOpt 2 f.length && fitsOpt 2 f.room &&
    fitsOpt 2 f.headCount && noteWf f.note

def SeriesForm.wf (f : SeriesForm) : Bool :=
  fits 2 f.room && fits 4 f.firstStart && fits 2 f.length && fits 1 f.period && fits 1 f.count && fits 2 f.headCount &&
    fitsOpt 1 f.threshold && orderOptWf f.template && noteWf f.note

def PlaceForm.wf (f : PlaceForm) : Bool :=
  fits 2 f.headCount && fits 1 f.origin && fits 1 f.dmax && f.span.wf && fitsOpt 2 f.covers

/-- PLACE_AND_BOOK carries no covers: the order takes their place (05 section 5.6, log 22). -/
def PlaceBookForm.wf (f : PlaceBookForm) : Bool :=
  f.place.wf && f.place.covers.isNone && fitsOpt 1 f.override && noteWf f.note && orderOptWf f.order

def CloseForm.wf (f : CloseForm) : Bool := fits 2 f.room && fits 4 f.fromMin && fits 4 f.toMin && fits 1 f.mode

/-- A panel that the part has, bound to a room or a kitchen that it has. -/
def PanelRef.wf (p : PanelRef) : Bool :=
  p.panel < Config.panels &&
    match p.kind with
    | .room => p.target < Config.rooms
    | .kitchen => p.target < Config.kitchens

/-- The commands of the four transfers by name (13 section 13.1): OTHER_TRANSFER_COMMAND carries none of them. -/
def otherCode (c : Option Byte) : Bool := c.all fun b => b ≠ 0x00 && b ≠ 0x01 && b ≠ 0x02 && b ≠ 0xA5

/-- A well-formed command. -/
def Instr.wf : Instr → Bool
  | .powerOnReset | .warmReset | .retentionLoss | .dividerTick | .enterHoldover | .minuteEvent | .secondEvent
  | .startsAndEnds | .windowOpening | .commit | .closureTimes | .retirementWalk | .retirementWalkStep | .seriesPassStep
  | .materialisationWalk | .materialisationWalkStep | .planningWalk | .planningWalkStep | .cancelPassStep | .status
  | .linkReset | .takeRequestFrame | .searchTake | .placementWalkStep | .placeCompletion | .placeAndBookCompletion
  | .findNearbyCompletion | .sweepSearchCompletion | .sweepStep | .sweepReport | .panelSecond | .catchUpCommitStep
  | .catchUpClosureStep | .catchUpBookingStep | .catchUpDays => true
  | .secEdge _ | .send _ | .fetch _ => true
  | .windowExpiry c | .absenceExpiry c => c < Config.channels
  | .otherTransferCommand c => otherCode c
  | .setTime _ m sec => fits 4 m && fits 1 sec
  | .start _ | .readTime _ | .readRetention _ | .readStore _ | .readPlacement _ | .readTimers _ | .readSweep _
  | .readNotices _ | .readCounts _ => true
  | .trimTime _ n => fitsSigned n
  | .setDistances _ a row => fits 1 a && row.length = Config.buildings && row.all (fits 1)
  | .setRoom _ f => f.wf
  | .removeRoom _ r | .readRoom _ r | .reopenRoom _ r => fits 2 r
  | .setKitchen _ f => f.wf
  | .setKitchenProfile _ k p => fits 1 k && p.length = Config.windows && p.all (fits 2)
  | .removeKitchen _ k | .readKitchen _ k => fits 1 k
  | .setWeights _ w => w.wf
  | .setPolicy _ f => f.wf
  | .book _ f => f.wf
  | .amend _ f => f.wf
  | .cancel _ h | .readBooking _ h | .voidOrder _ h => h.wf
  | .listRoom _ r fromMin count => fits 2 r && fitsOpt 4 fromMin && fitsOpt 1 count
  | .createSeries _ f => f.wf
  | .endSeries _ id | .resumeSeries _ id | .readSeries _ id => fits 2 id
  | .place _ f => f.wf
  | .placeAndBook _ f => f.wf
  | .bindPanel _ p kind target => fits 1 p && fits 1 kind && fits 2 target
  | .unbind _ p | .bar _ p | .unbar _ p | .readPanel _ p => fits 1 p
  | .setPoll _ p e => fits 1 p && fits 1 e
  | .order _ h f | .changeOrder _ h f => h.wf && f.wf
  | .readLoad _ k day w count => fits 1 k && fits 4 day && fits 1 w && fitsOpt 1 count
  | .closeRoom _ f => f.wf
  | .setNoticeEnables _ _ _ => true
  | .nextChanged _ c => fits 1 c
  | .withdrawal p _ | .deferredViewBuild p | .holdTakesEffect p => p < Config.panels
  | .poll p | .replyTimeout p => p < Config.ports
  | .reply p _ | .followUpReply p _ | .frameDiscarded p _ => p < Config.ports
  | .viewBuild r | .panelUnavailable r | .panelAvailable r => r < Config.rooms
  | .listBuild k => k < Config.kitchens
  | .checkIn src _ h => src.wf && handleOptWf h
  | .occupancyReading r _ seconds => r < Config.rooms && fits 2 seconds
  | .walkUp src wanted _ => src.wf && fits 1 wanted
  | .extend src ask h => src.wf && fits 1 ask && handleOptWf h
  | .findNearby src => src.wf
  | .endNow src h | .out src h | .handed src h | .discard src h | .received src h => src.wf && handleOptWf h

end Sys2Proof
end

