-- ==== Sys2Proof/Safety.lean ====
section
/-! DEFINITION. The terms that claims about the block use: which commands are host requests and how one reaches its
owner, the state after an answer, and the invariants of a safe run. -/

namespace Sys2Proof.Machine

/-- The tag and the code of a host request (13 section 13.1); none for a command that is not one. -/
def requestOf : Instr → Option (Byte × Nat)
  | .setTime tag _ _ => some (tag, 0x01)
  | .start tag => some (tag, 0x02)
  | .trimTime tag _ => some (tag, 0x03)
  | .readTime tag => some (tag, 0x04)
  | .readRetention tag => some (tag, 0xB0)
  | .setDistances tag _ _ => some (tag, 0x10)
  | .setRoom tag _ => some (tag, 0x11)
  | .removeRoom tag _ => some (tag, 0x12)
  | .readRoom tag _ => some (tag, 0x13)
  | .setKitchen tag _ => some (tag, 0x14)
  | .setKitchenProfile tag _ _ => some (tag, 0x15)
  | .removeKitchen tag _ => some (tag, 0x16)
  | .readKitchen tag _ => some (tag, 0x17)
  | .setWeights tag _ => some (tag, 0x18)
  | .setPolicy tag _ => some (tag, 0x19)
  | .readStore tag => some (tag, 0x20)
  | .book tag _ => some (tag, 0x30)
  | .amend tag _ => some (tag, 0x31)
  | .cancel tag _ => some (tag, 0x32)
  | .readBooking tag _ => some (tag, 0x33)
  | .listRoom tag _ _ _ => some (tag, 0x34)
  | .createSeries tag _ => some (tag, 0x40)
  | .endSeries tag _ => some (tag, 0x41)
  | .resumeSeries tag _ => some (tag, 0x42)
  | .readSeries tag _ => some (tag, 0x43)
  | .place tag _ => some (tag, 0x50)
  | .placeAndBook tag _ => some (tag, 0x51)
  | .readPlacement tag => some (tag, 0x52)
  | .readTimers tag => some (tag, 0x60)
  | .bindPanel tag _ _ _ => some (tag, 0x70)
  | .unbind tag _ => some (tag, 0x71)
  | .bar tag _ => some (tag, 0x72)
  | .unbar tag _ => some (tag, 0x73)
  | .setPoll tag _ _ => some (tag, 0x74)
  | .readPanel tag _ => some (tag, 0x75)
  | .order tag _ _ => some (tag, 0x80)
  | .changeOrder tag _ _ => some (tag, 0x81)
  | .voidOrder tag _ => some (tag, 0x82)
  | .readLoad tag _ _ _ _ => some (tag, 0x83)
  | .closeRoom tag _ => some (tag, 0x90)
  | .reopenRoom tag _ => some (tag, 0x91)
  | .readSweep tag => some (tag, 0x92)
  | .setNoticeEnables tag _ _ => some (tag, 0xA0)
  | .readNotices tag => some (tag, 0xA1)
  | .nextChanged tag _ => some (tag, 0xA2)
  | .readCounts tag => some (tag, 0xA3)
  | _ => none

/-- A host request reaches its owner: the state its owner finds, and the request's reference (R170, log 3). None when it
is not yet the request's turn, or the command is no host request. -/
def State.taken (s : State) (c : Instr) : Option (State × HostRef) :=
  match requestOf c with
  | some (tag, kind) => s.takeRequest tag kind c
  | none => none

/-- The state after a request that its owner answers: the answer fills its place, and ATTN follows (R171, R173). -/
def State.answered (s : State) (ref : HostRef) (st : Status) (body : List Field) : State :=
  (s.answer ref st body).followAttn

/-- The host requests that their owner answers in the step in which it takes them: all but PLACE and PLACE_AND_BOOK,
UNBIND and BAR, and CLOSE_ROOM (R170). -/
def answeredAtOnce (c : Instr) : Bool :=
  (requestOf c).any fun p => p.2 ≠ 0x50 && p.2 ≠ 0x51 && p.2 ≠ 0x71 && p.2 ≠ 0x72 && p.2 ≠ 0x90

/-- The configuration requests (R12). -/
def isConfiguration (c : Instr) : Bool :=
  (requestOf c).any fun p => p.2 ∈ [0x10, 0x11, 0x12, 0x14, 0x15, 0x16, 0x18, 0x19]

/-- The link after an answer that fills the place its request reserved (R171). -/
def Link.filledWith (l : Link) (ref : HostRef) (st : Status) (body : List Field) : Link :=
  { l with
    reserved := l.reserved.erase (ref.tag, ref.kind)
    filled := l.filled ++ [⟨ref.tag, ref.kind, st, body⟩] }

/-- The commands that move the campus minute: the counted seconds, SET_TIME, TRIM_TIME and the resets (R13, R15, R17). -/
def movesMinute : Instr → Bool
  | .secEdge _ | .dividerTick | .enterHoldover | .minuteEvent | .setTime _ _ _ | .trimTime _ _ | .powerOnReset
  | .warmReset => true
  | _ => false

/-- The panel a request came from is one whose result slot and port the part has: the state after its owner has given the
result, when the hand-over is taken from `s` (R113, R114). -/
def State.resulted (s : State) (src : PanelRef) (code : Nat) (a : PanelAnswer) : State :=
  (s.answerPanel src.panel code a).followAttn

/-! ### The candidates of the planning computation -/

/-- The candidate window that lies `j` before the natural one, counted from window 0 of day 0 (R137 steps 1 and 2). -/
def candidateIndex (start reach j : Nat) : Nat := (start - reach - Config.setup) / Config.windowMinutes - j

/-- That window as a day and a window number. -/
def candidateWindow (start reach j : Nat) : AbsWindow :=
  ⟨candidateIndex start reach j / Config.windows, candidateIndex start reach j % Config.windows⟩

/-- Its ready minute: ready itself for the natural window, and the last minute of an earlier one (R137 step 2). -/
def candidateReady (start reach j : Nat) : Nat :=
  if j = 0 then start - reach - Config.setup
  else candidateIndex start reach j * Config.windowMinutes + (Config.windowMinutes - 1)

/-- The `j`-th earlier candidate of kitchen `k` is one of its trial's, stands on a held day, commits no earlier than now, and has
room for the covers (R137). -/
def State.fits (s : State) (now covers start building k j : Nat) : Prop :=
  k < Config.kitchens ∧ ∃ reach, s.serves k building = some reach ∧ j ≤ (s.kitchen k).spill ∧
    reach + Config.setup ≤ start ∧ j ≤ (start - reach - Config.setup) / Config.windowMinutes ∧
    s.held (candidateWindow start reach j).day = true ∧ now + (s.kitchen k).lead ≤ candidateReady start reach j ∧
    s.load k (candidateWindow start reach j) + covers ≤ s.capacity k (candidateWindow start reach j).win

/-! ### Invariants of a safe run -/

/-- ATTN is what its terms say (R173). -/
def State.attnFollows (s : State) : Bool := s.attn = s.attnTerms

/-- The request queue holds at most 8 frames and the answer queue at most 8 places (R169, R171). -/
def State.linkFits (s : State) : Bool :=
  s.link.requests.length ≤ Config.linkPlaces && s.link.used ≤ Config.linkPlaces

/-- The free count counts the blocks on the stack (R19). -/
def State.stackCounted (s : State) : Bool := s.store.freeCount = s.store.free.length

/-- The clock's fields lie in their ranges, and a clock that runs has had its time set (01 section 1.6, R14). -/
def State.clockLegal (s : State) : Bool :=
  s.clock.minute ≤ Config.maxMinute && s.clock.second < 60 && s.clock.watch < 3 && (!s.running || s.clock.timeSet)

/-- The load table keeps 14 day rows of 96 windows for each of 8 kitchens (09 section 9.2). -/
def State.loadsShaped (s : State) : Bool :=
  s.catering.loads.length = Config.kitchens &&
    s.catering.loads.all fun rows => rows.length = Config.dayRows && rows.all fun row => row.length = Config.windows

/-- The fixed tables keep their sizes (log 32). -/
def State.shaped (s : State) : Bool :=
  s.distance.length = Config.buildings && s.rooms.length = Config.rooms && s.kitchens.length = Config.kitchens &&
    s.dir.entries.length = Config.handles && s.dir.refs.length = Config.seriesIds &&
    s.series.list.length = Config.seriesIds && s.bank.channels.length = Config.channels &&
    s.panelBus.panels.length = Config.panels && s.panelBus.ports.length = Config.ports && s.loadsShaped

/-- Every live directory entry leads to a booking whose handle is the entry's index with its generation (R24). -/
def State.handlesAgree (s : State) : Prop :=
  ∀ i b, s.bookingAt i = some b → b.handle = ⟨i, (s.dir.entries.getD i ⟨0, none⟩).generation⟩

/-- A safe state: every invariant that can be evaluated holds. -/
def State.safe (s : State) : Bool := s.attnFollows && s.linkFits && s.stackCounted && s.clockLegal && s.shaped

/-- A timeline's bookings stand in ascending order of start, and each one's end plus the turnover is no later than the
next one's start (R34). -/
def spaced (turnover : Nat) : List Booking → Prop
  | a :: b :: rest => a.startMin ≤ b.startMin ∧ a.endMin + turnover ≤ b.startMin ∧ spaced turnover (b :: rest)
  | _ => True

/-! ### Invariants of the records -/

/-- The active states, in which a booking stands on its room's timeline (R34). -/
def BookingState.active : BookingState → Bool
  | .booked | .awaiting | .inUse => true
  | .ended | .endedEarly | .released | .cancelled | .displaced => false

/-- The FIFO holds each free index once, and no other (R24). -/
def State.fifoRight (s : State) : Prop :=
  s.dir.fifo.Nodup ∧ ∀ i, i ∈ s.dir.fifo ↔ i < Config.handles ∧ s.bookingAt i = none

/-- The blocks of a booking's record and of a series' record (02 section 2.2). -/
def Booking.blocks (b : Booking) : List Nat := b.head :: ((b.note.map Note.block).toList ++ (b.order.map Order.block).toList)
def Series.blocks (x : Series) : List Nat := x.block :: (x.note.map Note.block).toList

/-- The live bookings and series, in the order of their tables. -/
def State.bookings (s : State) : List Booking := s.dir.entries.filterMap DirEntry.booking
def State.liveSeries (s : State) : List Series := s.series.list.filterMap id

/-- The blocks held by live records. -/
def State.heldBlocks (s : State) : List Nat := s.bookings.flatMap Booking.blocks ++ s.liveSeries.flatMap Series.blocks

/-- The free blocks and the held blocks total 16,384; none is free twice, held twice, or both; and each held block is
counted under its kind (R19). -/
def State.blocksRight (s : State) : Prop :=
  (s.store.free ++ s.heldBlocks).Nodup ∧ (∀ n ∈ s.store.free ++ s.heldBlocks, n < Config.blocks) ∧
    s.store.freeCount = s.store.free.length ∧
    s.store.freeCount + s.store.heldHead + s.store.heldNote + s.store.heldOrder + s.store.heldSeries = Config.blocks ∧
    s.store.heldHead = s.bookings.length ∧
    s.store.heldNote = s.bookings.countP (fun b => b.note.isSome) + s.liveSeries.countP (fun x => x.note.isSome) ∧
    s.store.heldOrder = s.bookings.countP (fun b => b.order.isSome) ∧ s.store.heldSeries = s.liveSeries.length

/-- Every room's timeline is spaced by its turnover, holds no handle twice, and holds exactly the BOOKED, AWAITING and IN_USE
bookings of that room (R34). -/
def State.timelinesRight (s : State) : Prop :=
  ∀ r, spaced (s.room r).turnover (s.timelineOf r) ∧ (s.room r).timeline.Nodup ∧
    ∀ h, h ∈ (s.room r).timeline ↔
      ∃ b, s.bookingAt h.idx = some b ∧ b.handle = h ∧ b.room = r ∧ b.state.active = true

/-- A booking that stands on a timeline, or may return to one, ends after its start (R37, R41). -/
def State.spansRight (s : State) : Prop :=
  ∀ i b, s.bookingAt i = some b → b.state.active = true ∨ b.state = .displaced → b.startMin < b.endMin

/-- A room with a booking on its timeline is in the table, and so is the room of each ACTIVE or SUSPENDED series, whose
length is not 0 (R4, R57). -/
def State.roomsRight (s : State) : Prop :=
  (∀ r, (s.room r).timeline ≠ [] → (s.room r).inTable = true) ∧
    ∀ id x, s.seriesAt id = some x → x.state ≠ .finished → (s.room x.room).inTable = true ∧ 1 ≤ x.length

/-- The sweep's search was made for its current booking, and for the span that the booking has while it stands in the
closing room and lies in the closure (R83, R158). -/
def State.sweepSpan (s : State) (e : QueueEntry) (h : Handle) : Prop :=
  ∀ b c, s.bookingAt h.idx = some b → b.handle = h → b.room = s.sweep.room → b.state = .booked ∨ b.state = .awaiting →
    (s.room s.sweep.room).closure = some c → b.startMin < c.toMin → c.fromMin < b.endMin →
    e.inputs.startMin = b.startMin ∧ e.inputs.endMin = b.endMin

/-- The placement queue holds no search twice and at most one sweep's search, which is that of the sweep's current booking
with no report waiting; a search that is to book has a span (R70, R80, R158). -/
def State.searchesRight (s : State) : Prop :=
  (s.placement.queue.map QueueEntry.id).Nodup ∧ (∀ e ∈ s.placement.queue, e.id < s.placement.nextId) ∧
    s.placement.queue.countP (fun e => e.kind = .sweep) ≤ 1 ∧
    (∀ e ∈ s.placement.queue, e.inputs.book.isSome = true → e.inputs.startMin < e.inputs.endMin) ∧
    (∀ e ∈ s.placement.queue, e.kind = .sweep → s.sweep.sweeping = true ∧ s.sweep.report = none ∧
      ∃ h, e.client = .booking h ∧ s.sweep.current = some (h, .searching) ∧ s.sweepSpan e h) ∧
    (s.sweep.current = none → s.sweep.report = none)

/-- A channel that is not FREE belongs to one booking, AWAITING or IN_USE, whose timer field names it; and a booking's timer
field names a channel that is not FREE and belongs to it (R86). -/
def State.channelsRight (s : State) : Prop :=
  (∀ c, (s.channel c).state ≠ .free → ∃ h b, (s.channel c).booking = some h ∧ s.lookup h = .found b ∧
      (b.state = .awaiting ∨ b.state = .inUse) ∧ b.timer = some c) ∧
    ∀ i b c, s.bookingAt i = some b → b.timer = some c →
      (s.channel c).state ≠ .free ∧ (s.channel c).booking = some b.handle

/-- The covers that an order counts in a window of a kitchen (R134, R135). -/
def Booking.coversIn (k : Nat) (w : AbsWindow) (b : Booking) : Nat :=
  match b.order with
  | some o => if o.state.counted ∧ o.kitchen = some k ∧ o.window = some w then o.covers else 0
  | none => 0

/-- The sum of the covers of the counted orders placed in a window of a kitchen (R135). -/
def State.coversIn (s : State) (k : Nat) (w : AbsWindow) : Nat := (s.bookings.map (Booking.coversIn k w)).sum

/-- For every window within the horizon, and for every window before there is one, the load is the sum of the covers of
the orders counted in it (R135, R136); no order is counted beyond the horizon, and the request list holds REQUESTED orders
alone (R152). -/
def State.loadsRight (s : State) : Prop :=
  (∀ k w, k < Config.kitchens → w.win < Config.windows → s.held w.day = true → s.load k w = s.coversIn k w) ∧
    (s.catering.horizon = none → ∀ rows ∈ s.catering.loads, ∀ row ∈ rows, ∀ n ∈ row, n = 0) ∧
    (∀ i b o w, s.bookingAt i = some b → b.order = some o → o.state.counted = true → o.window = some w →
      ∃ f, s.catering.horizon = some f ∧ w.day < f + Config.dayRows) ∧
    ∀ h ∈ s.catering.requestList, ∃ b o, s.bookingAt h.idx = some b ∧ b.handle = h ∧ b.order = some o ∧
      o.state = .requested

/-- The records of the part agree with each other: every invariant of this section, with the sizes of the tables and the
handles of R24. -/
structure State.Sound (s : State) : Prop where
  shaped : s.shaped = true
  handles : s.handlesAgree
  fifo : s.fifoRight
  blocks : s.blocksRight
  timelines : s.timelinesRight
  spans : s.spansRight
  rooms : s.roomsRight
  searches : s.searchesRight
  channels : s.channelsRight
  loads : s.loadsRight

end Sys2Proof.Machine
end

