-- ==== Sys2Proof/Certificates/Slice0/Obligations.lean ====
section
/-! DEFINITION. The statements about the WB4120 for the provers. Each docstring names the rules it formalises. -/

open Sys2Proof Sys2Proof.Machine

/-! ### The queue and the Host Link's part in every request -/

/-- The block takes the command at the front of its queue and runs it with the queue's rest; on an empty queue it idles.
The queue is the model's own (log 1). -/
def Obligations.StepTakesTheFrontCommand : Prop :=
  (∀ (s : State) (c : Instr) (rest : List Instr), s.pending = c :: rest → step s = exec c { s with pending := rest }) ∧
    ∀ s : State, s.pending = [] → step s = .next s

/-- R170 and log 3: a host request that the Host Link passed on is taken when it is the first that waits for its owner, and
not while another waits before it; one that did not come through a frame reserves its own place when none waits and a place
is free, and is not taken when none is free; a request whose turn has not come changes nothing. -/
def Obligations.RequestsReachTheirOwnersInTurn : Prop :=
  ∀ (s : State) (c : Instr) (tag : Byte) (kind : Nat), requestOf c = some (tag, kind) →
    (∀ p, s.link.passed.find? (fun p => ownerOf p.ref.kind = ownerOf kind) = some p → p.cmd = c →
      s.taken c = some ({ s with link := { s.link with passed := s.link.passed.erase p } }, p.ref)) ∧
    (∀ p, s.link.passed.find? (fun p => ownerOf p.ref.kind = ownerOf kind) = some p → p.cmd ≠ c → s.taken c = none) ∧
    (s.link.passed.find? (fun p => ownerOf p.ref.kind = ownerOf kind) = none → s.link.used < 8 →
      s.taken c = some ({ s with link := { s.link with reserved := s.link.reserved ++ [(tag, kind)] } }, ⟨tag, kind, false⟩)) ∧
    (s.link.passed.find? (fun p => ownerOf p.ref.kind = ownerOf kind) = none → 8 ≤ s.link.used → s.taken c = none) ∧
    (s.taken c = none → exec c s = .next s)

/-- R170 to R172: an answer fills the place its request reserved and joins the tail of the completed answers; no
place is gained or lost; the answer of a dropped request is discarded. Every host request but PLACE, PLACE_AND_BOOK,
UNBIND, BAR and CLOSE_ROOM is answered exactly once in the step in which its owner takes it, and its owner touches
nothing else of the link. That a request is decided in the step in which it is taken is the model's reading (log 3). -/
def Obligations.AnswersFillTheirPlacesOnce : Prop :=
  (∀ (s : State) (ref : HostRef) (st : Status) (body : List Field),
      (ref.dropped = false → (ref.tag, ref.kind) ∈ s.link.reserved →
        s.answer ref st body = { s with link := s.link.filledWith ref st body } ∧
          (s.answer ref st body).link.used = s.link.used) ∧
      (ref.dropped = true → s.answer ref st body = s)) ∧
  (∀ (s s1 : State) (ref : HostRef) (c : Instr), s.taken c = some (s1, ref) → answeredAtOnce c = true →
      ref.dropped = false → (ref.tag, ref.kind) ∈ s1.link.reserved →
        ∃ t st body, exec c s = .next t ∧ t.link = s1.link.filledWith ref st body ∧ t.attn = true)

/-! ### Chapter 1: the campus model -/

/-- R12: during the catch-up walk each configuration request is answered WAIT and changes nothing. R1, R10, R11: SET_DISTANCES
writes row `a` with each value clamped to 63 and a diagonal of 0, and answers the row as stored with the number of values
clamped; an origin above 63 is BAD_FIELD and changes nothing. SET_WEIGHTS stores the four weights clamped to 15. SET_POLICY
stores the policy record with every field in its range, an in-range field as carried. Nothing else changes. -/
def Obligations.ConfigurationWaitsOrIsStored : Prop :=
  (∀ (s s1 : State) (ref : HostRef) (c : Instr), s.taken c = some (s1, ref) → isConfiguration c = true →
    s1.catching = true → exec c s = .next (s1.answered ref .wait [])) ∧
  (∀ (s s1 : State) (ref : HostRef) (tag : Byte) (a : Nat) (row : List Nat),
      s.taken (.setDistances tag a row) = some (s1, ref) → s1.catching = false → row.length = 64 →
      (a ≤ 63 → ∃ stored : List Nat,
        stored.length = 64 ∧ (∀ b < 64, stored.getD b 0 = if b = a then 0 else min (row.getD b 0) 63) ∧
        exec (.setDistances tag a row) s = .next
          (({ s1 with distance := s1.distance.set a stored }).answered ref .ok
            (stored.map u8 ++ [u8 ((upFrom 0 64).filter fun b => row.getD b 0 ≠ stored.getD b 0).length]))) ∧
      (63 < a → exec (.setDistances tag a row) s = .next (s1.answered ref .badField []))) ∧
  ((∀ (s s1 : State) (ref : HostRef) (tag : Byte) (w : Weights),
      s.taken (.setWeights tag w) = some (s1, ref) → s1.catching = false →
        exec (.setWeights tag w) s = .next
          (({ s1 with weights := ⟨min w.wF 15, min w.wD 15, min w.wW 15, min w.wR 15⟩ }).answered ref .ok
            [u8 (min w.wF 15), u8 (min w.wD 15), u8 (min w.wW 15), u8 (min w.wR 15)])) ∧
    (∀ (s s1 : State) (ref : HostRef) (tag : Byte) (f : PolicyForm),
      s.taken (.setPolicy tag f) = some (s1, ref) → s1.catching = false → f.policy ≤ 1 → f.who ≤ 1 →
        ∃ (p : Policy) (body : List Field),
          exec (.setPolicy tag f) s = .next (({ s1 with policyRec := p }).answered ref .ok body) ∧
          p.turnover % 5 = 0 ∧ p.turnover ≤ 30 ∧ p.earlyOpen ≤ 15 ∧ 1 ≤ p.grace ∧ p.grace ≤ 30 ∧
          (p.absenceLimit = 0 ∨ 5 ≤ p.absenceLimit ∧ p.absenceLimit ≤ 60) ∧ p.threshold ≤ 7 ∧
          (p.policy = .required ↔ f.policy = 0) ∧ (p.who = .anyone ↔ f.who = 0) ∧
          (f.turnover % 5 = 0 → f.turnover ≤ 30 → p.turnover = f.turnover) ∧
          (f.earlyOpen ≤ 15 → p.earlyOpen = f.earlyOpen) ∧ (1 ≤ f.grace → f.grace ≤ 30 → p.grace = f.grace) ∧
          (f.absenceLimit = 0 ∨ 5 ≤ f.absenceLimit ∧ f.absenceLimit ≤ 60 → p.absenceLimit = f.absenceLimit) ∧
          (f.threshold ≤ 7 → p.threshold = f.threshold)))

/-- R2 to R4: SET_ROOM enters a room with its required fields, the policy defaults and the owned fields of R2, or changes the
present fields of a configured room and keeps the others; no other room, booking or block changes. The conditions of R3 and R4
refuse a SET_ROOM and a REMOVE_ROOM in their order, with nothing changed; a REMOVE_ROOM that none refuses takes the room out,
clears its closure and its no-show count and answers the count as it stood, and the change is reported (R155). -/
def Obligations.RoomsEnterChangeAndLeave : Prop :=
  (∀ (s s1 : State) (ref : HostRef) (tag : Byte) (f : RoomForm),
      s.taken (.setRoom tag f) = some (s1, ref) → s1.catching = false → f.room < s1.rooms.length → f.room ≤ 511 →
      roomFormOk f = true →
      (∀ b fl n, (s1.room f.room).inTable = false → f.building = some b → f.floor = some fl → f.seats = some n →
        ∃ t body, exec (.setRoom tag f) s = .next t ∧
          (t.room f.room).inTable = true ∧ (t.room f.room).building = b ∧ (t.room f.room).floor = fl ∧
          (t.room f.room).seats = n ∧ (t.room f.room).caps = f.caps.getD 0 ∧
          (t.room f.room).autoCheckin = f.autoCheckin.getD false ∧
          (f.turnover = none → (t.room f.room).turnover = s1.policyRec.turnover) ∧
          (f.grace = none → (t.room f.room).grace = s1.policyRec.grace) ∧
          (f.earlyOpen = none → (t.room f.room).earlyOpen = s1.policyRec.earlyOpen) ∧
          (f.absenceLimit = none → (t.room f.room).absenceLimit = s1.policyRec.absenceLimit) ∧
          (f.policy = none → (t.room f.room).policy = s1.policyRec.policy) ∧
          (f.who = none → (t.room f.room).who = s1.policyRec.who) ∧
          (t.room f.room).service = .inService ∧ (t.room f.room).closure = none ∧ (t.room f.room).panel = none ∧
          (t.room f.room).noShow = 0 ∧ (t.room f.room).timeline = [] ∧
          (∀ r, r ≠ f.room → t.room r = s1.room r) ∧ t.link = (s1.answer ref .ok body).link ∧
          t = { s1 with rooms := t.rooms, kitchens := t.kitchens, panelBus := t.panelBus, link := t.link, attn := t.attn }) ∧
      ((s1.room f.room).inTable = true → (s1.room f.room).service ≠ .closing →
        ((s1.room f.room).timeline = [] ∨ ∀ b, f.building = some b → b = (s1.room f.room).building) →
        ((s1.room f.room).timeline = [] ∨ f.turnover.all fun n => clampTurnover n ≤ (s1.room f.room).turnover) →
        ∃ t body, exec (.setRoom tag f) s = .next t ∧
          t.room f.room = { s1.room f.room with
            building := f.building.getD (s1.room f.room).building
            floor := f.floor.getD (s1.room f.room).floor
            seats := f.seats.getD (s1.room f.room).seats
            caps := f.caps.getD (s1.room f.room).caps
            turnover := (f.turnover.map fun n => min ((n + 4) / 5 * 5) 30).getD (s1.room f.room).turnover
            policy := (f.policy.map policyOf).getD (s1.room f.room).policy
            who := (f.who.map whoOf).getD (s1.room f.room).who
            earlyOpen := (f.earlyOpen.map fun n => min n 15).getD (s1.room f.room).earlyOpen
            grace := (f.grace.map fun n => max 1 (min n 30)).getD (s1.room f.room).grace
            absenceLimit := (f.absenceLimit.map fun n => if n = 0 then 0 else max 5 (min n 60)).getD
              (s1.room f.room).absenceLimit
            autoCheckin := f.autoCheckin.getD (s1.room f.room).autoCheckin } ∧
          (∀ r, r ≠ f.room → t.room r = s1.room r) ∧ t.link = (s1.answer ref .ok body).link ∧
          t = { s1 with rooms := t.rooms, kitchens := t.kitchens, panelBus := t.panelBus, link := t.link, attn := t.attn })) ∧
  (∀ (s s1 : State) (ref : HostRef) (tag : Byte),
      (∀ f : RoomForm, s.taken (.setRoom tag f) = some (s1, ref) → s1.catching = false → f.room ≤ 511 → roomFormOk f = true →
        (s1.room f.room).inTable = true →
        ((s1.room f.room).service = .closing → exec (.setRoom tag f) s = .next (s1.answered ref .wait [])) ∧
        ((s1.room f.room).service ≠ .closing → (s1.room f.room).timeline ≠ [] →
          (∃ b, f.building = some b ∧ b ≠ (s1.room f.room).building) →
          exec (.setRoom tag f) s = .next (s1.answered ref .badState [])) ∧
        (∀ n pre a b post, (s1.room f.room).service ≠ .closing → f.building = none → f.turnover = some n →
          (s1.room f.room).turnover < min ((n + 4) / 5 * 5) 30 → s1.timelineOf f.room = pre ++ a :: b :: post →
          List.IsChain (fun x y : Booking => x.endMin + min ((n + 4) / 5 * 5) 30 ≤ y.startMin) (pre ++ [a]) →
          b.startMin < a.endMin + min ((n + 4) / 5 * 5) 30 →
          exec (.setRoom tag f) s = .next (s1.answered ref .conflict [.handle (some a.handle)]))) ∧
      (∀ r : Nat, s.taken (.removeRoom tag r) = some (s1, ref) → s1.catching = false →
        (511 < r → exec (.removeRoom tag r) s = .next (s1.answered ref .badField [])) ∧
        (r ≤ 511 → (s1.room r).inTable = false → exec (.removeRoom tag r) s = .next (s1.answered ref .noSuch [])) ∧
        (r ≤ 511 → (s1.room r).inTable = true → (s1.room r).service = .closing →
          exec (.removeRoom tag r) s = .next (s1.answered ref .wait [])) ∧
        (r ≤ 511 → (s1.room r).inTable = true → (s1.room r).service ≠ .closing →
          ((s1.room r).timeline ≠ [] ∨ (s1.room r).panel ≠ none ∨ s1.seriesNames r = true →
            exec (.removeRoom tag r) s = .next (s1.answered ref .badState [])) ∧
          ((s1.room r).timeline = [] → (s1.room r).panel = none → s1.seriesNames r = false →
            exec (.removeRoom tag r) s = .next
              (({ s1 with
                  rooms := s1.rooms.modify r fun x => { x with inTable := false, closure := none, noShow := 0 }
                  panelBus := { s1.panelBus with viewReports := addNew r s1.panelBus.viewReports } }).answered
                ref .ok [u8 (s1.room r).noShow])))))

/-- R6 to R8: SET_KITCHEN, SET_KITCHEN_PROFILE and REMOVE_KITCHEN change the one kitchen they name as their rules say and
nothing else. -/
def Obligations.KitchensEnterChangeAndLeave : Prop :=
  ∀ (s s1 : State) (ref : HostRef) (tag : Byte),
    (∀ f : KitchenForm, s.taken (.setKitchen tag f) = some (s1, ref) → s1.catching = false → f.kitchen ≤ 7 →
      (f.reach.all fun n => n ≤ 63 || n = 255) = true →
      ((s1.kitchen f.kitchen).inTable = false → (s1.kitchen f.kitchen).dispatch = []) →
      ∃ (k : Kitchen) (body : List Field),
        exec (.setKitchen tag f) s = .next
          (({ s1 with kitchens := s1.kitchens.modify f.kitchen fun _ => k }).answered ref .ok body) ∧
        k.inTable = true ∧ k.lead = max 30 (min f.lead 240) ∧ k.spill = min f.spill 3 ∧
        (∀ b < 64, k.reach.getD b none = if f.reach.getD b 255 = 255 then none else some (f.reach.getD b 255)) ∧
        ((s1.kitchen f.kitchen).inTable = true →
          k.profile = (s1.kitchen f.kitchen).profile ∧ k.terminals = (s1.kitchen f.kitchen).terminals ∧
          k.dispatch = (s1.kitchen f.kitchen).dispatch ∧ k.listSeq = (s1.kitchen f.kitchen).listSeq) ∧
        ((s1.kitchen f.kitchen).inTable = false →
          k.profile = List.replicate 96 0 ∧ k.terminals = [] ∧ k.dispatch = [] ∧ k.listSeq = 0)) ∧
    (∀ (k : Nat) (profile : List Nat), s.taken (.setKitchenProfile tag k profile) = some (s1, ref) →
      s1.catching = false → k ≤ 7 → (s1.kitchen k).inTable = true →
      ∃ (stored : List Nat) (body : List Field), stored.length = 96 ∧
        (∀ w < 96, stored.getD w 0 = min (profile.getD w 0) 1000) ∧
        exec (.setKitchenProfile tag k profile) s = .next
          (({ s1 with kitchens := s1.kitchens.modify k fun x => { x with profile := stored } }).answered ref .ok body)) ∧
    (∀ k : Nat, s.taken (.removeKitchen tag k) = some (s1, ref) → s1.catching = false → k ≤ 7 →
      (s1.kitchen k).inTable = true →
      ((s1.kitchen k).dispatch ≠ [] ∨ (s1.kitchen k).terminals ≠ [] →
        exec (.removeKitchen tag k) s = .next (s1.answered ref .badState [])) ∧
      ((s1.kitchen k).dispatch = [] → (s1.kitchen k).terminals = [] →
        exec (.removeKitchen tag k) s = .next
          (({ s1 with kitchens := s1.kitchens.modify k fun x => { x with inTable := false } }).answered ref .ok [])))

/-! ### Chapter 1: the clock -/

/-- R13, R14: SET_TIME is refused in RUNNING and HOLDOVER and out of its ranges, with nothing changed; taken, it stores the time
and time_set, keeps a present day_raised and gives an absent one the day of the new minute. START is refused ALREADY while
RUNNING and BAD_STATE without a time; taken, the clock runs with watch 0 and the second kept, no event is raised, and after a
warm reset the catch-up walk begins at the commits with the catch-up minute now and, as its missed days, the days from the
missed-day start, or else from the day after day_raised, up to today (R183). The first START gives the catering horizon today
as its first day, and a later one keeps it (R136). -/
def Obligations.TimeSetAndStarted : Prop :=
  (∀ (s s1 : State) (ref : HostRef) (tag : Byte) (m sec : Nat), s.taken (.setTime tag m sec) = some (s1, ref) →
      (s1.clock.state ≠ .stopped → exec (.setTime tag m sec) s = .next (s1.answered ref .badState [])) ∧
      (s1.clock.state = .stopped → 59 < sec ∨ 3999999999 < m ∨ m < s1.clock.timeFloor →
        exec (.setTime tag m sec) s = .next (s1.answered ref .badField [])) ∧
      (s1.clock.state = .stopped → sec ≤ 59 → m ≤ 3999999999 → s1.clock.timeFloor ≤ m →
        exec (.setTime tag m sec) s = .next
          (({ s1 with clock := { s1.clock with
              minute := m, second := sec, timeSet := true
              dayRaised := if s1.clock.dayRaised = none then some (m / 1440) else s1.clock.dayRaised } }).answered ref .ok
            [.num 4 (some m), .num 1 (some sec)]))) ∧
  (∀ (s s1 : State) (ref : HostRef) (tag : Byte), s.taken (.start tag) = some (s1, ref) →
      (s1.clock.state ≠ .stopped → exec (.start tag) s = .next (s1.answered ref .already [])) ∧
      (s1.clock.state = .stopped → s1.clock.timeSet = false → exec (.start tag) s = .next (s1.answered ref .badState [])) ∧
      (s1.clock.state = .stopped → s1.clock.timeSet = true →
        ∃ t, exec (.start tag) s = .next t ∧ t.clock.state = .running ∧ t.clock.watch = 0 ∧
          t.clock.minute = s1.clock.minute ∧ t.clock.second = s1.clock.second ∧ t.owed = s1.owed ∧
          t.link = (s1.answer ref .ok []).link ∧
          (s1.catchUpOwed = false → t.catchUp = s1.catchUp ∧ t.clock.dayRaised = s1.clock.dayRaised) ∧
          (s1.catchUpOwed = true → ∃ c, t.catchUp = some c ∧ c.stage = .commits ∧ c.pos = 0 ∧ c.minute = s1.clock.minute ∧
            t.clock.dayRaised = some (s1.clock.minute / 1440) ∧ c.todo = [] ∧ c.missed.Pairwise (· < ·) ∧
            ∀ first, s1.missedDayStart = some first ∨
                s1.missedDayStart = none ∧ (∃ d, s1.clock.dayRaised = some d ∧ first = d + 1) ∨
                s1.missedDayStart = none ∧ s1.clock.dayRaised = none ∧ first = s1.clock.minute / 1440 + 1 →
              ∀ d, d ∈ c.missed ↔ first ≤ d ∧ d ≤ s1.clock.minute / 1440) ∧
          (∀ f, s1.catering.horizon = some f → t.catering.horizon = some f) ∧
          (s1.catering.horizon = none → t.catering.horizon = some (s1.clock.minute / 1440)) ∧
          t = { s1 with clock := t.clock, catering := t.catering, catchUp := t.catchUp, link := t.link, attn := t.attn } ∧
          t.catering = { s1.catering with horizon := t.catering.horizon }))

/-- R15, R16: a counted second below the 60th raises second and the second event; the 60th ends the minute and raises
the minute event to every block that takes it, with the day event at a new day only; the largest minute stays. An
edge in RUNNING and a tick in HOLDOVER are counted seconds; two ticks without an edge raise watch and the third
enters HOLDOVER with three counted seconds and CLOCK set; an edge in HOLDOVER returns to RUNNING and is counted when
the last counted tick is more than half a second before it. The milliseconds of an edge are the model's operand (log
10), and that ENTER_HOLDOVER is the third tick and MINUTE_EVENT the counted second at 59, commanded by name, is its choice
(log 5). -/
def Obligations.SecondsMakeMinutesAndHoldover : Prop :=
  (∀ s : State, s.catching = false →
      (s.clock.second < 59 → s.countSecond =
        { s with clock := { s.clock with second := s.clock.second + 1 }, owed := { s.owed with seconds := s.owed.seconds + 1 } }) ∧
      (59 ≤ s.clock.second → s.clock.minute < 3999999999 →
        s.countSecond.clock.second = 0 ∧ s.countSecond.clock.minute = s.clock.minute + 1 ∧
        s.countSecond.owed.seconds = s.owed.seconds + 1 ∧
        s.countSecond.owed.starts = s.owed.starts ++ [s.clock.minute + 1] ∧
        s.countSecond.owed.openings = s.owed.openings ++ [s.clock.minute + 1] ∧
        s.countSecond.owed.commits = s.owed.commits ++ [s.clock.minute + 1] ∧
        s.countSecond.owed.closures = s.owed.closures ++ [s.clock.minute + 1] ∧
        (∀ d, (s.clock.minute + 1) % 1440 = 0 → (s.clock.minute + 1) / 1440 = d → (∀ r, s.clock.dayRaised = some r → r < d) →
          s.countSecond.owed.retirements = s.owed.retirements ++ [d] ∧
          s.countSecond.owed.materialisations = s.owed.materialisations ++ [d] ∧
          s.countSecond.owed.plannings = s.owed.plannings ++ [d] ∧ s.countSecond.clock.dayRaised = some d) ∧
        ((s.clock.minute + 1) % 1440 ≠ 0 ∨ (∃ r, s.clock.dayRaised = some r ∧ (s.clock.minute + 1) / 1440 ≤ r) →
          s.countSecond.owed.retirements = s.owed.retirements ∧
          s.countSecond.owed.materialisations = s.owed.materialisations ∧
          s.countSecond.owed.plannings = s.owed.plannings ∧ s.countSecond.clock.dayRaised = s.clock.dayRaised) ∧
        s.countSecond = { s with clock := s.countSecond.clock, owed := s.countSecond.owed }) ∧
      (59 ≤ s.clock.second → 3999999999 ≤ s.clock.minute →
        s.countSecond = { s with clock := { s.clock with second := 0 }, owed := { s.owed with seconds := s.owed.seconds + 1 } })) ∧
  (∀ (s : State) (ms : Nat),
      (s.clock.state = .running →
        exec (.secEdge ms) s = .next ({ s with clock := { s.clock with watch := 0 } }).countSecond.followAttn ∧
        (s.clock.watch < 2 →
          exec .dividerTick s = .next ({ s with clock := { s.clock with watch := s.clock.watch + 1 } }).followAttn ∧
          exec .enterHoldover s = .next s) ∧
        (s.clock.watch = 2 → ∃ t, exec .dividerTick s = .next t ∧ exec .enterHoldover s = .next t ∧
          t.clock.state = .holdover ∧ t.clock.watch = 0 ∧ t.owed.seconds = s.owed.seconds + 3 ∧ t.notice.clock = true ∧
          t.link = s.link)) ∧
      (s.clock.state = .holdover →
        exec .dividerTick s = .next s.countSecond.followAttn ∧
        (500 < ms → exec (.secEdge ms) s =
          .next ({ s with clock := { s.clock with state := .running, watch := 0 } }).countSecond.followAttn) ∧
        (ms ≤ 500 → exec (.secEdge ms) s =
          .next ({ s with clock := { s.clock with state := .running, watch := 0 } }).followAttn)) ∧
      (s.clock.state = .stopped → exec (.secEdge ms) s = .next s ∧ exec .dividerTick s = .next s) ∧
      (s.clock.state ≠ .stopped → s.clock.second = 59 → exec .minuteEvent s = .next s.countSecond.followAttn))

/-- R17: TRIM_TIME is refused as its table says with nothing changed; taken, the minute moves by exactly `n`, the second and
the clock state are kept, CLOCK is set, and the answer carries the new minute. A forward trim raises the day event of each new
day it reaches, and the blocks have taken the minute events of its minutes: no booking on a timeline is left overdue. It takes
60 seconds for each minute from every RUNNING channel, and one that reaches 0 expires (R99). A backward trim raises no event,
gives RUNNING channels the seconds back up to 86,400, and changes nothing else but CLOCK. That what is owed is taken first,
and the minute events within the trim, is log 9: the model's choice. -/
def Obligations.TrimMovesWholeMinutes : Prop :=
  ∀ (s s1 : State) (ref : HostRef) (tag : Byte) (n : Int), s.taken (.trimTime tag n) = some (s1, ref) →
    (s1.clock.state = .stopped → exec (.trimTime tag n) s = .next (s1.answered ref .badState [])) ∧
    (s1.clock.state ≠ .stopped → n = 0 ∨ n < -5 ∨ 5 < n →
      exec (.trimTime tag n) s = .next (s1.answered ref .badField [])) ∧
    (s1.clock.state ≠ .stopped → n ≠ 0 → -5 ≤ n → n ≤ 5 → s1.catching = true →
      exec (.trimTime tag n) s = .next (s1.answered ref .wait [])) ∧
    (s1.clock.state ≠ .stopped → n ≠ 0 → -5 ≤ n → n ≤ 5 → s1.catching = false →
      ((s1.clock.minute : Int) + n < 0 ∨ 3999999999 < (s1.clock.minute : Int) + n →
        exec (.trimTime tag n) s = .next (s1.answered ref .badField [])) ∧
      (∀ m : Nat, (s1.clock.minute : Int) + n = m → m ≤ 3999999999 →
        ∃ t, exec (.trimTime tag n) s = .next t ∧ t.clock.minute = m ∧ t.clock.second = s1.clock.second ∧
          t.clock.state = s1.clock.state ∧ t.clock.watch = s1.clock.watch ∧ t.notice.clock = true ∧
          t.link = (s1.answer ref .ok [.num 4 (some m)]).link ∧
          t.owed.seconds = 0 ∧ t.owed.starts = [] ∧ t.owed.openings = [] ∧ t.owed.commits = [] ∧ t.owed.closures = [] ∧
          (∃ days : List Nat, days.length ≤ 1 ∧
            (∀ d, d ∈ days ↔ ∃ k, s1.clock.minute < k ∧ k ≤ m ∧ k % 1440 = 0 ∧ k / 1440 = d ∧
              ∀ r, s1.clock.dayRaised = some r → r < d) ∧
            t.owed.retirements = s1.owed.retirements ++ days ∧ t.owed.materialisations = s1.owed.materialisations ++ days ∧
            t.owed.plannings = s1.owed.plannings ++ days ∧ (∀ d ∈ days, t.clock.dayRaised = some d) ∧
            (days = [] → t.clock.dayRaised = s1.clock.dayRaised)) ∧
          (0 < n → s1.Sound → ∀ r, r < 512 → ∀ h ∈ (t.room r).timeline, ∀ b, t.bookingAt h.idx = some b →
            (b.state = .inUse ∨ b.state = .awaiting → m < b.endMin) ∧
            (b.state = .booked → b.checkin = .exempt → m < b.startMin)) ∧
          (s1.owed.seconds = 0 → s1.owed.starts = [] → s1.owed.openings = [] → s1.owed.commits = [] →
            s1.owed.closures = [] →
            (0 < n → s1.Sound → ∀ c h b, (s1.channel c).booking = some h → s1.lookup h = .found b →
              ((s1.channel c).state = .paused ∨ (s1.channel c).state = .suspended → m < b.endMin →
                t.channel c = s1.channel c) ∧
              ((s1.channel c).state = .running →
                (60 * (m - s1.clock.minute) < (s1.channel c).remaining → m < b.endMin → t.channel c =
                  { s1.channel c with remaining := (s1.channel c).remaining - 60 * (m - s1.clock.minute) }) ∧
                ((s1.channel c).remaining ≤ 60 * (m - s1.clock.minute) →
                  ((s1.channel c).mode = .window → b.state = .awaiting → ∃ x, t.bookingAt h.idx = some x ∧
                    x.state = .released ∧ x.attendance = .noShow ∧ x.mark = true ∧ x.timer = none) ∧
                  ((s1.channel c).mode = .watch → b.state = .inUse → ∃ x, t.bookingAt h.idx = some x ∧ x.timer = none ∧
                    (x.state = .endedEarly ∨ x.state = .ended))))) ∧
            (n < 0 →
              (∀ c, (s1.channel c).state = .running → t.channel c = { s1.channel c with
                remaining := min ((s1.channel c).remaining + 60 * (s1.clock.minute - m)) 86400 }) ∧
              (∀ c, (s1.channel c).state ≠ .running → t.channel c = s1.channel c) ∧
              t = { s1 with clock := t.clock, bank := t.bank, notice := t.notice, link := t.link, attn := t.attn } ∧
              t.notice = { s1.notice with clock := true } ∧ t.bank.timerCount = s1.bank.timerCount))))

/-- Chapter 1: only counted seconds, SET_TIME, TRIM_TIME and the resets change the campus minute, whatever else a command
does. -/
def Obligations.OnlyTheClockMovesTheMinute : Prop :=
  ∀ (s t : State) (c : Instr), movesMinute c = false → exec c s = .next t → t.clock.minute = s.clock.minute

/-! ### Chapter 2: the store and the directory -/

/-- R19, R20, R22, R26: an allocation hands out the blocks on top of the stack, all or none. HOST needs the blocks asked and the
stated need above the reserve of 64; PART needs the blocks. A taken one that leaves fewer than 512 sets STORE, and none
clears it. A creation that is returned leaves no trace but the STORE flag: the stack, its counts, the FIFO, the entry with its
former generation and the series reference count are as before the take. -/
def Obligations.CreationsTakeAllOrLeaveNoTrace : Prop :=
  (∀ (s : State) (cls : AllocClass) (kinds : List BlockKind),
      ((match cls with
        | .host need => 64 + kinds.length ≤ s.store.freeCount ∧ 64 + need ≤ s.store.freeCount
        | .part => kinds.length ≤ s.store.freeCount) →
        ∃ t, s.allocate cls kinds = some (t, s.store.free.take kinds.length) ∧
          t.store.free = s.store.free.drop kinds.length ∧ t.store.freeCount = s.store.freeCount - kinds.length ∧
          t.store.heldHead = s.store.heldHead + kinds.count .head ∧ t.store.heldNote = s.store.heldNote + kinds.count .note ∧
          t.store.heldOrder = s.store.heldOrder + kinds.count .order ∧
          t.store.heldSeries = s.store.heldSeries + kinds.count .series ∧
          (t.notice.store = true ↔ s.notice.store = true ∨ s.store.freeCount - kinds.length < 512) ∧
          t = { s with store := t.store, notice := { s.notice with store := t.notice.store } }) ∧
      ((match cls with
        | .host need => s.store.freeCount < 64 + kinds.length ∨ s.store.freeCount < 64 + need
        | .part => s.store.freeCount < kinds.length) → s.allocate cls kinds = none)) ∧
  (∀ (s s1 : State) (cls : AllocClass) (withNote withOrder : Bool) (link : Option Nat) (t : Taken) (b : Booking) (i : Nat)
      (rest : List Nat), s.stackCounted = true → s.dir.fifo = i :: rest → s.bookingAt i = none →
      (s.dir.entries.getD i ⟨0, none⟩).generation < 256 → s.takeRecord cls withNote withOrder link = some (s1, t) →
      b.handle = t.handle →
        t.handle = ⟨i, ((s.dir.entries.getD i ⟨0, none⟩).generation + 1) % 256⟩ ∧
        (s1.enter b).returnCreation t link = { s with notice := { s.notice with store := s1.notice.store } })

/-- R27, R29, R30: RETIREMENT_WALK takes one day event, beginning a walk or replacing the pending day, and each step visits one
entry: an eligible booking is retired, its blocks going back order first and head on top, its entry becoming FREE with its
generation and its index going to the tail of the FIFO; any other entry is left. The series pass visits one id at each step: a
FINISHED series with no reference, no pass owed and a clear mark is retired; after id 1,023 the walk ends with its last walk
day, and a pending day's walk begins. -/
def Obligations.RetirementWalkRetires : Prop :=
  (∀ (s : State),
      (∀ d rest, s.owed.retirements = d :: rest →
        (s.store.walk = none → exec .retirementWalk s = .next
          ({ s with owed := { s.owed with retirements := rest }
                    store := { s.store with walk := some ⟨d, .entry 0⟩ } }).followAttn) ∧
        (s.store.walk ≠ none → exec .retirementWalk s = .next
          ({ s with owed := { s.owed with retirements := rest }
                    store := { s.store with pendingDay := some d } }).followAttn)) ∧
      (∀ day i, s.store.walk = some ⟨day, .entry i⟩ →
        (∀ b, s.bookingAt i = some b → b.handle.idx = i → i < s.dir.entries.length →
          b.state = .ended ∨ b.state = .endedEarly ∨ b.state = .released ∨ b.state = .cancelled →
          b.endMin / 1440 < day → b.mark = false →
          ∃ t, exec .retirementWalkStep s = .next t ∧
            t.store.walk = some ⟨day, if i < 8191 then .entry (i + 1) else .series 0⟩ ∧ t.bookingAt i = none ∧
            (t.dir.entries.getD i ⟨0, none⟩).generation = (s.dir.entries.getD i ⟨0, none⟩).generation ∧
            t.dir.fifo = s.dir.fifo ++ [i] ∧
            t.store.free = b.head :: ((b.note.map Note.block).toList ++ (b.order.map Order.block).toList ++ s.store.free) ∧
            (∀ id, b.series = some id → t.dir.refs = s.dir.refs.modify id (· - 1)) ∧
            (∀ j, j ≠ i → t.bookingAt j = s.bookingAt j) ∧ (b.order = none → t.catering = s.catering) ∧
            t = { s with store := t.store, dir := t.dir, kitchens := t.kitchens, catering := t.catering
                         panelBus := t.panelBus, attn := t.attn }) ∧
        ((∀ b, s.bookingAt i = some b → b.state = .booked ∨ b.state = .awaiting ∨ b.state = .inUse ∨ b.state = .displaced ∨
            day ≤ b.endMin / 1440 ∨ b.mark = true) →
          exec .retirementWalkStep s = .next
            ({ s with store := { s.store with
                walk := some ⟨day, if i < 8191 then .entry (i + 1) else .series 0⟩ } }).followAttn))) ∧
  (∀ (s : State) (day id : Nat), s.store.walk = some ⟨day, .series id⟩ →
      (∀ x, id < 1023 → s.seriesAt id = some x → x.state = .finished → s.dir.refs.getD id 0 = 0 → x.passOwed = false →
        x.mark = false →
        ∃ t, exec .seriesPassStep s = .next t ∧ t.store.walk = some ⟨day, .series (id + 1)⟩ ∧ t.seriesAt id = none ∧
          t.store.free = x.block :: ((x.note.map Note.block).toList ++ s.store.free) ∧
          (∀ j, j ≠ id → t.seriesAt j = s.seriesAt j) ∧
          t = { s with store := t.store, series := { s.series with list := t.series.list }, attn := t.attn }) ∧
      (id < 1023 → (∀ x, s.seriesAt id = some x → x.state ≠ .finished ∨ s.dir.refs.getD id 0 ≠ 0 ∨ x.passOwed = true ∨
          x.mark = true) →
        exec .seriesPassStep s = .next ({ s with store := { s.store with walk := some ⟨day, .series (id + 1)⟩ } }).followAttn) ∧
      (id = 1023 → s.catchUp = none → ∃ t, exec .seriesPassStep s = .next t ∧ t.store.lastDay = some day ∧
        t.store.pendingDay = none ∧ t.store.walk = s.store.pendingDay.map fun d => ⟨d, .entry 0⟩))

/-! ### Chapter 3: bookings and timelines -/

/-- R34, R35: over a timeline whose bookings keep their spacing, the freedom test passes exactly when the booking with that
span, put at the place its start gives, keeps the spacing; and a failing test names the previous booking when its first
clause fails. -/
def Obligations.FreedomTestKeepsSpacing : Prop :=
  ∀ (turnover : Nat) (l : List Booking) (nb : Booking), spaced turnover l → nb.startMin < nb.endMin →
    (freedom turnover l nb.startMin nb.endMin = none ↔
      spaced turnover (l.takeWhile (fun x => x.startMin < nb.startMin) ++ nb ::
        l.dropWhile (fun x => x.startMin < nb.startMin))) ∧
    (∀ p, (l.takeWhile fun x => x.startMin < nb.startMin).getLast? = some p → nb.startMin < p.endMin + turnover →
      freedom turnover l nb.startMin nb.endMin = some p.handle)

/-- R37: a span formed from a host request lies on the 5-minute grid, takes in the span asked for, and is 5 to 1,440 minutes
long; an end and a length together, neither where a span is needed, a length of 0, an end at or before the start, and a
start more than 259,200 minutes after now give none; a start at most that far ahead with an end after it, or with a length of
1 or more, gives a span when its rounded length is at most 1,440. R41: the new span of an AMEND is formed from its own start,
end or length and the kept ones; one of an AWAITING or IN_USE booking that ends before now + 5 is none. The model's choices here: a length added to a
kept start off the grid is log 42; a start given alone keeps the length, rounded up as a given one is (log 17); and a kept end
before now + 5 is none like a given one, so that it refuses a note-only AMEND too (log 53). -/
def Obligations.SpansLieOnTheGrid : Prop :=
  (∀ (now : Nat) (f : AmendForm) (b : Booking),
    (∀ sp, amendSpan now f b = some sp → b.state = .awaiting ∨ b.state = .inUse → now + 5 ≤ sp.endMin) ∧
    (b.state = .booked ∨ b.state = .displaced →
      (∀ m, f.startMin = some m →
        (f.endMin.isSome = true ∨ f.length.isSome = true →
          amendSpan now f b = formSpan now ⟨m, f.endMin, f.length⟩ none) ∧
        (f.endMin = none → f.length = none → b.startMin < b.endMin →
          amendSpan now f b = formSpan now ⟨m, none, some (b.endMin - b.startMin)⟩ none)) ∧
      (f.startMin = none → f.endMin = none → f.length = none →
        amendSpan now f b = some ⟨b.startMin, b.endMin, false, false⟩) ∧
      (∀ e last, f.startMin = none →
        f.endMin = some last ∧ f.length = none ∧ b.startMin < last ∨
          (∃ n, f.endMin = none ∧ f.length = some n ∧ 1 ≤ n ∧ last = b.startMin + n) →
        e = (last + 4) / 5 * 5 → b.startMin + 5 ≤ e → e ≤ b.startMin + 1440 →
        amendSpan now f b = some ⟨b.startMin, e, false, decide (e ≠ last)⟩))) ∧
  ∀ (now : Nat) (f : SpanForm),
    (∀ sp, formSpan now f none = some sp →
      sp.startMin % 5 = 0 ∧ sp.endMin % 5 = 0 ∧ sp.startMin ≤ f.startMin ∧ f.startMin < sp.startMin + 5 ∧
      sp.startMin + 5 ≤ sp.endMin ∧ sp.endMin ≤ sp.startMin + 1440 ∧
      (∀ e, f.endMin = some e → e ≤ sp.endMin ∧ sp.endMin < e + 5) ∧
      (∀ n, f.length = some n → sp.startMin + n ≤ sp.endMin ∧ sp.endMin < sp.startMin + n + 5) ∧
      (sp.startRounded = true ↔ sp.startMin ≠ f.startMin) ∧
      (∀ e, f.endMin = some e → (sp.endRounded = true ↔ sp.endMin ≠ e)) ∧
      (∀ n, f.length = some n → (sp.endRounded = true ↔ sp.endMin ≠ sp.startMin + n))) ∧
    (f.startMin ≤ now + 259200 →
      (∀ e, f.endMin = some e → f.length = none → f.startMin < e → (e + 4) / 5 * 5 ≤ f.startMin / 5 * 5 + 1440 →
        ∃ sp, formSpan now f none = some sp) ∧
      (∀ n, f.endMin = none → f.length = some n → 1 ≤ n → n ≤ 1440 → ∃ sp, formSpan now f none = some sp)) ∧
    (f.endMin.isSome = true ∧ f.length.isSome = true ∨ f.endMin = none ∧ f.length = none ∨ f.length = some 0 ∨
      (∃ e, f.endMin = some e ∧ e ≤ f.startMin) ∨ now + 259200 < f.startMin → formSpan now f none = none)

/-- R38: the first condition that holds decides the answer of BOOK, and the request then changes nothing; at steps 11 and 12
a refused plan returns the creation, which leaves no trace but the STORE flag (R26). -/
def Obligations.BookRefusalsInOrder : Prop :=
  ∀ (s s1 : State) (ref : HostRef) (tag : Byte) (f : BookForm), s.taken (.book tag f) = some (s1, ref) →
    (s1.running = false → exec (.book tag f) s = .next (s1.answered ref .notStarted [])) ∧
    (s1.running = true → s1.catching = true → exec (.book tag f) s = .next (s1.answered ref .wait [])) ∧
    (s1.running = true → s1.catching = false →
      (511 < f.room ∨ f.headCount = 0 ∨ 400 < f.headCount ∨ 63 < f.origin ∨ 40 < (f.note.getD []).length ∨
          (∃ n, f.override = some n ∧ 1 < n) ∨ (∃ o, f.order = some o ∧ orderOk o = false) →
        exec (.book tag f) s = .next (s1.answered ref .badField [])) ∧
      (bookFormOk f = true →
        ((s1.room f.room).inTable = false → exec (.book tag f) s = .next (s1.answered ref .noSuch [])) ∧
        ((s1.room f.room).inTable = true →
          (f.span.startMin < s1.clock.minute → exec (.book tag f) s = .next (s1.answered ref .tooLate [])) ∧
          (s1.clock.minute ≤ f.span.startMin →
            (formSpan s1.clock.minute f.span none = none → exec (.book tag f) s = .next (s1.answered ref .badField [])) ∧
            (∀ sp, formSpan s1.clock.minute f.span none = some sp →
              ((s1.room f.room).service = .closing → exec (.book tag f) s = .next (s1.answered ref .wait [])) ∧
              ((s1.room f.room).service ≠ .closing →
                (∀ c, (s1.room f.room).closure = some c → sp.startMin < c.toMin → c.fromMin < sp.endMin →
                  exec (.book tag f) s = .next (s1.answered ref .closed [])) ∧
                (∀ h, (s1.room f.room).closedFor sp.startMin sp.endMin = false →
                  s1.blocker f.room none sp.startMin sp.endMin = some h →
                  exec (.book tag f) s = .next (s1.answered ref .conflict [.handle (some h)])) ∧
                ((s1.room f.room).closedFor sp.startMin sp.endMin = false →
                  s1.blocker f.room none sp.startMin sp.endMin = none →
                  (s1.seriesScope (sp.startMin / 1440) = true → exec (.book tag f) s = .next (s1.answered ref .wait [])) ∧
                  (s1.seriesScope (sp.startMin / 1440) = false → ∀ kinds : Nat,
                    kinds = 1 + (if f.note.getD [] = [] then 0 else 1) + (if f.order.isSome then 1 else 0) →
                    (s1.dir.fifo = [] ∨ s1.store.freeCount < 64 + kinds →
                      exec (.book tag f) s = .next (s1.answered ref .noSpace [])) ∧
                    (∀ o i rest, f.order = some o → s1.stackCounted = true → s1.dir.fifo = i :: rest →
                      s1.bookingAt i = none → (s1.dir.entries.getD i ⟨0, none⟩).generation < 256 →
                      64 + kinds ≤ s1.store.freeCount →
                      ∀ st, st = .wait ∧ s1.planningScope (sp.startMin / 1440) = true ∨
                          st = .notAllowed ∧ s1.planningScope (sp.startMin / 1440) = false ∧
                            (s1.room f.room).foodAllowed = false ∨
                          st = .cateringFull ∧ s1.planningScope (sp.startMin / 1440) = false ∧
                            (s1.room f.room).foodAllowed = true ∧ s1.beyond (sp.startMin / 1440) = false ∧
                            s1.planAt s1.clock.minute o.covers sp.startMin (s1.room f.room).building = none →
                        ∃ t, exec (.book tag f) s = .next t ∧ t.link = (s1.answer ref st []).link ∧
                          t = { s1 with notice := { s1.notice with store := t.notice.store }
                                        link := t.link, attn := t.attn })))))))))

/-- R33, R38, R39: a BOOK that nothing refuses makes the booking with the values of 3.1 under the handle of the FIFO's head,
takes its blocks, puts it on its room's timeline and handles its start; no other booking changes. R89, R90: when its window is
due and no channel is FREE, it becomes EXEMPT, IN_USE at once if its start has come, and the TIMER count rises by one. An order with it is REQUESTED
beyond the catering horizon, and otherwise PLANNED at the acceptance of the planning computation, counted and queued (R134,
R138). -/
def Obligations.BookMakesTheBooking : Prop :=
  (∀ (s s1 : State) (ref : HostRef) (tag : Byte) (f : BookForm) (sp : SpanOut) (o : OrderForm) (i : Nat) (rest : List Nat),
    s.taken (.book tag f) = some (s1, ref) → s1.running = true → s1.catching = false → bookFormOk f = true →
    f.order = some o → (s1.room f.room).inTable = true → s1.clock.minute ≤ f.span.startMin →
    formSpan s1.clock.minute f.span none = some sp → (s1.room f.room).service ≠ .closing →
    (s1.room f.room).closedFor sp.startMin sp.endMin = false → s1.blocker f.room none sp.startMin sp.endMin = none →
    s1.seriesScope (sp.startMin / 1440) = false → s1.dir.fifo = i :: rest → i < s1.dir.entries.length →
    f.room < s1.rooms.length → 64 + (if f.note.getD [] = [] then 2 else 3) ≤ s1.store.freeCount →
    s1.planningScope (sp.startMin / 1440) = false → (s1.room f.room).foodAllowed = true →
    ∀ order : Order,
      s1.beyond (sp.startMin / 1440) = true ∧ order.state = .requested ∧ order.kitchen = none ∧ order.window = none ∧
          order.ready = none ∧ order.commit = none ∨
        (∃ a, s1.beyond (sp.startMin / 1440) = false ∧ s1.loadsShaped = true ∧ a.kitchen < s1.kitchens.length ∧
          s1.planAt s1.clock.minute o.covers sp.startMin (s1.room f.room).building = some a ∧ order.state = .planned ∧
          order.kitchen = some a.kitchen ∧ order.window = some a.window ∧ order.ready = some a.ready ∧
          order.commit = some a.commit) →
      order.block = s1.store.free.getD (if f.note.getD [] = [] then 1 else 2) 0 → order.covers = o.covers →
      order.lines = o.lines →
      ∃ t body b, exec (.book tag f) s = .next t ∧ t.bookingAt i = some b ∧
        b.handle = ⟨i, ((s1.dir.entries.getD i ⟨0, none⟩).generation + 1) % 256⟩ ∧ b.room = f.room ∧
        b.startMin = sp.startMin ∧ b.endMin = sp.endMin ∧ b.source = .host ∧ b.order = some order ∧
        (order.state = .requested → b.handle ∈ t.catering.requestList ∧ t.catering.loads = s1.catering.loads) ∧
        (∀ k w, order.kitchen = some k → order.window = some w → b.handle ∈ (t.kitchen k).dispatch ∧
          b.handle ∈ t.catering.commitQueue ∧ t.load k w = s1.load k w + o.covers ∧
          (∀ j v, j ≠ k ∨ v ≠ w → v.win < 96 → t.load j v = s1.load j v)) ∧
        b.handle ∈ (t.room f.room).timeline ∧ (∀ r, r ≠ f.room → t.room r = s1.room r) ∧
        (∀ j, j ≠ i → t.bookingAt j = s1.bookingAt j) ∧ t.dir.fifo = rest ∧
        t.store.freeCount + (if f.note.getD [] = [] then 2 else 3) = s1.store.freeCount ∧
        t.link = (s1.answer ref .ok body).link ∧
        t.catering = { s1.catering with
          loads := t.catering.loads, requestList := t.catering.requestList, commitQueue := t.catering.commitQueue } ∧
        t = { s1 with rooms := t.rooms, dir := t.dir, store := t.store, bank := t.bank, kitchens := t.kitchens
                      catering := t.catering, panelBus := t.panelBus, notice := t.notice, link := t.link, attn := t.attn }) ∧
  ∀ (s s1 : State) (ref : HostRef) (tag : Byte) (f : BookForm) (sp : SpanOut) (i : Nat) (rest : List Nat),
    s.taken (.book tag f) = some (s1, ref) → s1.running = true → s1.catching = false → bookFormOk f = true →
    f.order = none → (s1.room f.room).inTable = true → s1.clock.minute ≤ f.span.startMin →
    formSpan s1.clock.minute f.span none = some sp → (s1.room f.room).service ≠ .closing →
    (s1.room f.room).closedFor sp.startMin sp.endMin = false → s1.blocker f.room none sp.startMin sp.endMin = none →
    s1.seriesScope (sp.startMin / 1440) = false → s1.dir.fifo = i :: rest → i < s1.dir.entries.length →
    f.room < s1.rooms.length → 64 + (if f.note.getD [] = [] then 1 else 2) ≤ s1.store.freeCount →
      ∃ t body b, exec (.book tag f) s = .next t ∧ t.bookingAt i = some b ∧
        b.handle = ⟨i, ((s1.dir.entries.getD i ⟨0, none⟩).generation + 1) % 256⟩ ∧
        (t.dir.entries.getD i ⟨0, none⟩).generation = b.handle.gen ∧
        b.room = f.room ∧ b.startMin = sp.startMin ∧ b.endMin = sp.endMin ∧ b.headCount = f.headCount ∧
        b.organiser = f.organiser ∧ b.origin = f.origin ∧ b.needs = f.needs ∧ b.wants = f.wants ∧ b.source = .host ∧
        b.series = none ∧ b.order = none ∧ b.mark = false ∧ b.attendance = .none_ ∧
        (b.note.map Note.text).getD [] = f.note.getD [] ∧
        (checkinOf f.override (s1.room f.room) = .exempt → b.checkin = .exempt ∧ b.timer = none ∧
          b.state = if sp.startMin ≤ s1.clock.minute then .inUse else .booked) ∧
        (checkinOf f.override (s1.room f.room) = .required →
          s1.clock.minute + (s1.room f.room).earlyOpen < sp.startMin ∨ s1.panelAvailable f.room = false →
          b.checkin = .required ∧ b.timer = none ∧ b.state = .booked) ∧
        (∀ c, checkinOf f.override (s1.room f.room) = .required →
          sp.startMin ≤ s1.clock.minute + (s1.room f.room).earlyOpen → s1.panelAvailable f.room = true →
          s1.lowestFree = some c → b.checkin = .required ∧ b.timer = some c ∧ b.state = .awaiting ∧
          (t.channel c).booking = some b.handle ∧ (t.channel c).state = .running ∧ (t.channel c).mode = .window) ∧
        (checkinOf f.override (s1.room f.room) = .required →
          sp.startMin ≤ s1.clock.minute + (s1.room f.room).earlyOpen → s1.panelAvailable f.room = true →
          (∀ c, c < s1.bank.channels.length → (s1.channel c).state ≠ .free) →
          b.checkin = .exempt ∧ b.timer = none ∧ (b.state = if sp.startMin ≤ s1.clock.minute then .inUse else .booked) ∧
          t.bank = { s1.bank with timerCount := min (s1.bank.timerCount + 1) 255 }) ∧
        b.handle ∈ (t.room f.room).timeline ∧ (∀ h ∈ (s1.room f.room).timeline, h ∈ (t.room f.room).timeline) ∧
        (∀ r, r ≠ f.room → t.room r = s1.room r) ∧ (∀ j, j ≠ i → t.bookingAt j = s1.bookingAt j) ∧
        t.dir.fifo = rest ∧ t.store.freeCount + (if f.note.getD [] = [] then 1 else 2) = s1.store.freeCount ∧
        t.link = (s1.answer ref .ok body).link ∧
        t = { s1 with rooms := t.rooms, dir := t.dir, store := t.store, bank := t.bank, kitchens := t.kitchens
                      panelBus := t.panelBus, notice := t.notice, link := t.link, attn := t.attn }

/-- R40, R41: an AMEND is made whole or not at all: when its answer is not OK, nothing but the link and the STORE flag of an
allocation taken and returned has changed. -/
def Obligations.RefusedAmendsChangeNothing : Prop :=
  ∀ (s s1 : State) (ref : HostRef) (tag : Byte) (f : AmendForm), s.taken (.amend tag f) = some (s1, ref) →
    ∃ t st body, exec (.amend tag f) s = .next t ∧ t.link = (s1.answer ref st body).link ∧
      (st ≠ .ok →
        t = { s1 with notice := { s1.notice with store := t.notice.store }, link := t.link, attn := t.attn }) ∧
      (s1.running = false → st = .notStarted) ∧ (s1.running = true → s1.catching = true → st = .wait)

/-- R42, R54: an AMEND of the start, the end, the length, the room or the head count of a BOOKED booking without an order, or of
a DISPLACED one, writes the new room and span, puts it on the target room's timeline and off its old one, keeps its handle,
source, series link and mark, and changes no other booking. R43, R99: an AMEND of the end or length of an AWAITING or IN_USE
booking writes the new end, and a WINDOW channel whose remaining reaches past it is shortened. R44: an AMEND of the note alone
writes, replaces or returns the note, and one whose note block is refused changes nothing. The model's choices here: a length
added to a start off the grid is log 42; that CONFLICT carries the handle in the way is log 18; and that a note-only AMEND is
refused BAD_FIELD in the last 5 minutes of an AWAITING or IN_USE booking and CLOSED in a recorded closure is log 53. -/
def Obligations.AmendMovesTheBooking : Prop :=
  (∀ (s s1 : State) (ref : HostRef) (tag : Byte) (f : AmendForm) (b : Booking) (e : Nat),
    s.taken (.amend tag f) = some (s1, ref) → s1.running = true → s1.catching = false → s1.lookup f.handle = .found b →
    b.handle = f.handle → b.state = .awaiting ∨ b.state = .inUse → f.startMin = none → f.room = none ∨ f.room = some b.room →
    f.headCount = none → f.note = none → amendFormOk f = true → f.handle.idx < s1.dir.entries.length →
    b.room < s1.rooms.length →
    (∃ last, f.endMin = some last ∧ f.length = none ∧ b.startMin < last ∧ e = (last + 4) / 5 * 5) ∨
      (∃ n, f.endMin = none ∧ f.length = some n ∧ 1 ≤ n ∧ e = (b.startMin + n + 4) / 5 * 5) →
    b.startMin + 5 ≤ e → e ≤ b.startMin + 1440 → (s1.room b.room).inTable = true →
    (e < s1.clock.minute + 5 → exec (.amend tag f) s = .next (s1.answered ref .badField [])) ∧
    (s1.clock.minute + 5 ≤ e → (s1.room b.room).service = .closing →
      exec (.amend tag f) s = .next (s1.answered ref .wait [])) ∧
    (s1.clock.minute + 5 ≤ e → (s1.room b.room).service ≠ .closing →
      ((s1.room b.room).closedFor b.startMin e = true → exec (.amend tag f) s = .next (s1.answered ref .closed [])) ∧
      ((s1.room b.room).closedFor b.startMin e = false →
        (∀ h, s1.blocker b.room (some b.handle) b.startMin e = some h →
          exec (.amend tag f) s = .next (s1.answered ref .conflict [.handle (some h)])) ∧
        (s1.blocker b.room (some b.handle) b.startMin e = none →
          ∃ t, exec (.amend tag f) s = .next t ∧ t.bookingAt f.handle.idx = some { b with endMin := e } ∧
            f.handle ∈ (t.room b.room).timeline ∧ (∀ r, r ≠ b.room → t.room r = s1.room r) ∧
            (∀ j, j ≠ f.handle.idx → t.bookingAt j = s1.bookingAt j) ∧
            (∀ c, b.timer = some c →
              ((s1.channel c).mode = .window → c < s1.bank.channels.length → t.channel c = { s1.channel c with
                remaining := min (s1.channel c).remaining ((e - s1.clock.minute) * 60 - s1.clock.second) }) ∧
              ((s1.channel c).mode = .watch → t.channel c = s1.channel c)) ∧
            (∀ d, b.timer ≠ some d → t.channel d = s1.channel d) ∧ t.store = s1.store ∧ t.catering = s1.catering ∧
            t.link = (s1.answer ref .ok [.num 4 (some e)]).link)))) ∧
  (∀ (s s1 : State) (ref : HostRef) (tag : Byte) (f : AmendForm) (b : Booking) (text : List Byte),
    s.taken (.amend tag f) = some (s1, ref) → s1.running = true → s1.catching = false → s1.lookup f.handle = .found b →
    b.handle = f.handle → f.startMin = none → f.endMin = none → f.length = none →
    f.room = none ∨ f.room = some b.room → f.headCount = none → f.note = some text → amendFormOk f = true →
    f.handle.idx < s1.dir.entries.length → b.room < s1.rooms.length →
    b.state = .booked ∧ s1.clock.minute + (s1.room b.room).earlyOpen < b.startMin ∨
      (b.state = .awaiting ∨ b.state = .inUse) ∧ s1.clock.minute + 5 ≤ b.endMin →
    (s1.room b.room).inTable = true → (s1.room b.room).closedFor b.startMin b.endMin = false →
    s1.blocker b.room (some b.handle) b.startMin b.endMin = none →
    (b.note = none → text ≠ [] → s1.store.freeCount < 65 → exec (.amend tag f) s = .next (s1.answered ref .noSpace [])) ∧
    (∀ note : Option Note,
      (text = [] ∧ note = none) ∨ (∃ n, text ≠ [] ∧ b.note = some n ∧ note = some ⟨n.block, text⟩) ∨
        (text ≠ [] ∧ b.note = none ∧ 65 ≤ s1.store.freeCount ∧ note = some ⟨s1.store.free.getD 0 0, text⟩) →
      ∃ t body, exec (.amend tag f) s = .next t ∧ t.bookingAt f.handle.idx = some { b with note := note } ∧
        (∀ j, j ≠ f.handle.idx → t.bookingAt j = s1.bookingAt j) ∧ t.bank = s1.bank ∧ t.catering = s1.catering ∧
        (∀ n, b.note = some n → text = [] → t.store.free = n.block :: s1.store.free ∧
          t.store.freeCount = s1.store.freeCount + 1) ∧
        (b.note = none → text ≠ [] → t.store.free = s1.store.free.drop 1 ∧
          t.store.freeCount + 1 = s1.store.freeCount) ∧
        (b.note.isSome = decide (text ≠ []) → t.store = s1.store) ∧
        f.handle ∈ (t.room b.room).timeline ∧ t.link = (s1.answer ref .ok body).link)) ∧
  (∀ (s s1 : State) (ref : HostRef) (tag : Byte) (f : AmendForm) (b : Booking),
    s.taken (.amend tag f) = some (s1, ref) → s1.running = true → s1.catching = false → s1.lookup f.handle = .found b →
    f.startMin = none → f.endMin = none → f.length = none → f.room = none ∨ f.room = some b.room → f.headCount = none →
    f.note.isSome = true → amendFormOk f = true → (s1.room b.room).inTable = true →
    (b.state = .awaiting ∨ b.state = .inUse → b.endMin < s1.clock.minute + 5 →
      exec (.amend tag f) s = .next (s1.answered ref .badField [])) ∧
    (b.state = .booked ∨ (b.state = .awaiting ∨ b.state = .inUse) ∧ s1.clock.minute + 5 ≤ b.endMin →
      (s1.room b.room).closedFor b.startMin b.endMin = true →
      exec (.amend tag f) s = .next (s1.answered ref .closed []))) ∧
  ∀ (s s1 : State) (ref : HostRef) (tag : Byte) (f : AmendForm) (b : Booking) (target : Nat) (sp : SpanOut),
    s.taken (.amend tag f) = some (s1, ref) → s1.running = true → s1.catching = false → s1.lookup f.handle = .found b →
    b.handle = f.handle → b.state = .booked ∨ b.state = .displaced → amendFormOk f = true → f.note = none →
    b.order = none → target = f.room.getD b.room → target < s1.rooms.length → f.handle.idx < s1.dir.entries.length →
    f.startMin.isSome = true ∨ f.endMin.isSome = true ∨ f.length.isSome = true ∨ target ≠ b.room ∨
      f.headCount.isSome = true ∨ b.state = .displaced →
    (f.startMin = none → b.state = .displaced → s1.clock.minute ≤ b.startMin) →
    (∀ m, f.startMin = some m → s1.clock.minute ≤ m) → amendSpan s1.clock.minute f b = some sp →
    (s1.room target).inTable = true → (s1.room target).service ≠ .closing →
    (s1.room target).closedFor sp.startMin sp.endMin = false →
    s1.blocker target (some b.handle) sp.startMin sp.endMin = none →
    (sp.startMin ≠ b.startMin ∨ b.state = .displaced → s1.seriesScope (sp.startMin / 1440) = false) →
      ∃ t body x, exec (.amend tag f) s = .next t ∧ t.bookingAt f.handle.idx = some x ∧
        x.handle = b.handle ∧ x.room = target ∧ x.startMin = sp.startMin ∧ x.endMin = sp.endMin ∧
        x.headCount = f.headCount.getD b.headCount ∧ x.organiser = b.organiser ∧ x.source = b.source ∧
        x.series = b.series ∧ x.mark = b.mark ∧ x.note = b.note ∧
        (b.checkin = .exempt → x.checkin = .exempt ∧
          x.state = if sp.startMin ≤ s1.clock.minute then .inUse else .booked) ∧
        (b.checkin = .required →
          s1.clock.minute + (s1.room target).earlyOpen < sp.startMin ∨ s1.panelAvailable target = false →
          x.checkin = .required ∧ x.state = .booked ∧ x.attendance = b.attendance) ∧
        b.handle ∈ (t.room target).timeline ∧ (target ≠ b.room → b.handle ∉ (t.room b.room).timeline) ∧
        (∀ r, r ≠ target → r ≠ b.room → t.room r = s1.room r) ∧
        (∀ j, j ≠ f.handle.idx → t.bookingAt j = s1.bookingAt j) ∧ t.store = s1.store ∧
        t.link = (s1.answer ref .ok body).link

/-- R45, R28: a CANCEL of a BOOKED, AWAITING or DISPLACED booking without an order and with a clear mark retires it in the
same request; with a set mark it stays as a CANCELLED record; IN_USE and the other terminal states are BAD_STATE, and
CANCELLED is ALREADY, with nothing changed. -/
def Obligations.CancelWithdrawsTheBooking : Prop :=
  ∀ (s s1 : State) (ref : HostRef) (tag : Byte) (h : Handle) (b : Booking),
    s.taken (.cancel tag h) = some (s1, ref) → s1.running = true → s1.catching = false → s1.lookup h = .found b →
    b.handle = h → h.idx < s1.dir.entries.length →
    (b.state = .inUse ∨ b.state = .ended ∨ b.state = .endedEarly ∨ b.state = .released →
      exec (.cancel tag h) s = .next (s1.answered ref .badState [])) ∧
    (b.state = .cancelled → exec (.cancel tag h) s = .next (s1.answered ref .already [])) ∧
    (b.state = .booked ∨ b.state = .awaiting ∨ b.state = .displaced → b.order = none →
      (b.mark = false → ∃ t, exec (.cancel tag h) s = .next t ∧ t.bookingAt h.idx = none ∧
        t.dir.fifo = s1.dir.fifo ++ [h.idx] ∧
        t.store.free = b.head :: ((b.note.map Note.block).toList ++ s1.store.free) ∧
        (b.state ≠ .displaced → h ∉ (t.room b.room).timeline) ∧
        (∀ c, b.timer = some c → b.state = .awaiting → c < s1.bank.channels.length → (t.channel c).state = .free) ∧
        (∀ j, j ≠ h.idx → t.bookingAt j = s1.bookingAt j) ∧
        t.link = (s1.answer ref .ok [.num 1 (some 1), .num 1 none]).link) ∧
      (b.mark = true → ∃ t x, exec (.cancel tag h) s = .next t ∧ t.bookingAt h.idx = some x ∧
        x = { b with state := .cancelled, timer := x.timer } ∧ t.dir.fifo = s1.dir.fifo ∧ t.store = s1.store ∧
        (b.state ≠ .displaced → h ∉ (t.room b.room).timeline ∧ x.timer = none) ∧
        (∀ j, j ≠ h.idx → t.bookingAt j = s1.bookingAt j) ∧
        t.link = (s1.answer ref .ok [.num 1 (some 0), .num 1 none]).link))

/-- R48 to R50: one booking at a minute event, by its state, its checkin, its room's panel and its channel; no other booking
changes. -/
def Obligations.StartsAndEndsByTheTable : Prop :=
  ∀ (s : State) (m : Nat) (h : Handle) (b : Booking), s.bookingAt h.idx = some b → b.handle = h →
    h.idx < s.dir.entries.length →
    (b.state = .booked → b.startMin ≤ m →
      (b.checkin = .exempt → (s.startOne m h).bookingAt h.idx = some { b with state := .inUse }) ∧
      (b.checkin = .required → s.panelAvailable b.room = true → b.startMin = m + (s.room b.room).earlyOpen →
        s.startOne m h = s) ∧
      (b.checkin = .required → s.panelAvailable b.room = false ∨ b.startMin ≠ m + (s.room b.room).earlyOpen →
        (s.startOne m h).bookingAt h.idx = some { b with state := .inUse, checkin := .exempt, attendance := .unknown })) ∧
    (b.state ≠ .booked ∨ m < b.startMin → s.startOne m h = s) ∧
    (b.state = .inUse → b.endMin ≤ m → ∃ x, (s.endOne m h).bookingAt h.idx = some x ∧ x.state = .ended ∧
      x.attendance = b.attendance ∧ x.timer = none ∧ x.endMin = b.endMin ∧ h ∉ ((s.endOne m h).room b.room).timeline) ∧
    (∀ c, b.state = .awaiting → b.endMin ≤ m → b.timer = some c →
      ((s.channel c).state = .running → ∃ x, (s.endOne m h).bookingAt h.idx = some x ∧ x.state = .released ∧
        x.attendance = .noShow ∧ x.mark = true ∧ x.timer = none ∧ (s.endOne m h).notice.changed = ⟨true, false⟩) ∧
      ((s.channel c).state = .suspended → ∃ x, (s.endOne m h).bookingAt h.idx = some x ∧ x.state = .ended ∧
        x.attendance = .unknown ∧ x.timer = none)) ∧
    (m < b.endMin → s.endOne m h = s) ∧
    (∀ j, j ≠ h.idx → (s.startOne m h).bookingAt j = s.bookingAt j ∧ (s.endOne m h).bookingAt j = s.bookingAt j)

/-- R48 to R50: STARTS_AND_ENDS takes the oldest minute event owed whole, over all rooms: afterwards no booking on a
timeline is IN_USE or AWAITING with its end at or before that minute, and none is BOOKED with its start at or before it but a
REQUIRED one left to its window opening. The order of rooms, and starts before ends in a room, are the model's choice
(log 11). -/
def Obligations.MinuteLeavesNothingOverdue : Prop :=
  ∀ (s : State) (m : Nat) (rest : List Nat), s.owed.starts = m :: rest → s.rooms.length = 512 →
    ∃ t, exec .startsAndEnds s = .next t ∧ t.owed = { s.owed with starts := rest } ∧ t.clock = s.clock ∧
      t.link = s.link ∧ t.store = s.store ∧
      ∀ r, r < 512 → ∀ h ∈ (t.room r).timeline, ∀ b, t.bookingAt h.idx = some b →
        ¬ (b.state = .inUse ∧ b.endMin ≤ m) ∧ ¬ (b.state = .awaiting ∧ b.endMin ≤ m) ∧
        ¬ (b.state = .booked ∧ b.startMin ≤ m ∧ (b.checkin = .exempt ∨ t.panelAvailable b.room = false ∨
          b.startMin ≠ m + (t.room b.room).earlyOpen))

/-! ### Chapter 4: series -/

/-- R59, R62, R63: dealing with an occurrence moves next_start on by one period, takes one from a count of 1 to 255 and leaves a
count of 0, and finishes the series in the step that takes the count from 1 to 0. A release raises the count of no-shows,
staying at 7; in an ACTIVE series whose nonzero threshold it reaches it suspends the series, marks it and owes its cancel pass
in the same step, and otherwise it changes nothing but the count. A check-in sets the count to 0. -/
def Obligations.SeriesAdvanceAndSuspend : Prop :=
  (∀ x : Series,
      x.advance = { x with nextStart := x.nextStart + x.period * 1440, count := x.advance.count, state := x.advance.state } ∧
      (x.count = 0 → x.advance.count = 0 ∧ x.advance.state = x.state) ∧
      (x.count = 1 → x.advance.count = 0 ∧ x.advance.state = .finished) ∧
      (2 ≤ x.count → x.advance.count + 1 = x.count ∧ x.advance.state = x.state)) ∧
  (∀ (s : State) (id : Nat) (x : Series), s.seriesAt id = some x →
      (x.state = .active → x.threshold ≠ 0 → x.threshold ≤ min (x.noShows + 1) 7 →
        (s.seriesRelease id).seriesAt id =
          some { x with noShows := min (x.noShows + 1) 7, state := .suspended, passOwed := true, mark := true } ∧
        id ∈ (s.seriesRelease id).series.passQueue ∧ (s.seriesRelease id).notice.series = ⟨true, false⟩) ∧
      (x.state ≠ .active ∨ x.threshold = 0 ∨ min (x.noShows + 1) 7 < x.threshold →
        (s.seriesRelease id).seriesAt id = some { x with noShows := min (x.noShows + 1) 7 } ∧
        (s.seriesRelease id).series.passQueue = s.series.passQueue ∧ (s.seriesRelease id).notice = s.notice) ∧
      (s.seriesCheckIn (some id)).seriesAt id = some { x with noShows := 0 } ∧
      (∀ j, j ≠ id → (s.seriesRelease id).seriesAt j = s.seriesAt j ∧ (s.seriesCheckIn (some id)).seriesAt j = s.seriesAt j))

/-- R60: an occurrence whose span overlaps its room's closure, or is not free, is skipped: no booking is made, no handle or
block is taken, skip_count rises to 255 at most and the series is marked. One whose tests pass is made with the values of
R60 under the handle of the FIFO's head. -/
def Obligations.OccurrencesMadeOrSkipped : Prop :=
  ∀ (s : State) (now id : Nat) (x : Series), s.seriesAt id = some x →
    ((s.room x.room).closedFor x.nextStart (x.nextStart + x.length) = true ∨
        s.blocker x.room none x.nextStart (x.nextStart + x.length) ≠ none →
      (s.materialise now id x).2 = none ∧ (s.materialise now id x).1.dir = s.dir ∧
      (s.materialise now id x).1.store = s.store ∧ (s.materialise now id x).1.rooms = s.rooms ∧
      (s.materialise now id x).1.seriesAt id = some { x with skipCount := min (x.skipCount + 1) 255, mark := true } ∧
      (s.materialise now id x).1.notice.series = ⟨true, false⟩) ∧
    (∀ i rest, (s.room x.room).closedFor x.nextStart (x.nextStart + x.length) = false →
      s.blocker x.room none x.nextStart (x.nextStart + x.length) = none → s.dir.fifo = i :: rest →
      i < s.dir.entries.length → x.template = none → (if x.note.isSome then 2 else 1) ≤ s.store.freeCount →
      now + (s.room x.room).earlyOpen < x.nextStart →
      ∃ h b, (s.materialise now id x).2 = some h ∧ h.idx = i ∧ (s.materialise now id x).1.bookingAt i = some b ∧
        b.handle = h ∧ b.room = x.room ∧ b.startMin = x.nextStart ∧ b.endMin = x.nextStart + x.length ∧
        b.headCount = x.headCount ∧ b.organiser = x.organiser ∧ b.origin = (s.room x.room).building ∧ b.needs = 0 ∧
        b.wants = 0 ∧ b.checkin = (s.room x.room).policy ∧ b.source = .series ∧ b.series = some id ∧ b.order = none ∧
        b.state = .booked ∧ b.note.map Note.text = x.note.map Note.text ∧
        (s.materialise now id x).1.dir.refs = s.dir.refs.modify id (· + 1) ∧
        (s.materialise now id x).1.seriesAt id = some x)

/-- R57, R58: a CREATE_SERIES whose first occurrence lies beyond the series horizon writes the series under the lowest free
id with the values of 4.1, takes its blocks above the reserve, and makes no occurrence. With a first occurrence within it,
every occurrence up to the horizon is made or skipped in start order, until the count runs out and the series is FINISHED;
the answer gives the handles made, the number skipped, and the state, count and next start left. The refusals of R57 steps 1,
2 and 4 to 8 change nothing. -/
def Obligations.SeriesCreated : Prop :=
  ∀ (s s1 : State) (ref : HostRef) (tag : Byte) (f : SeriesForm), s.taken (.createSeries tag f) = some (s1, ref) →
    (s1.running = false → exec (.createSeries tag f) s = .next (s1.answered ref .notStarted [])) ∧
    (s1.running = true → s1.catching = true → exec (.createSeries tag f) s = .next (s1.answered ref .wait [])) ∧
    (s1.running = true → s1.catching = false → seriesFormOk f = true →
      ((s1.room f.room).inTable = false → exec (.createSeries tag f) s = .next (s1.answered ref .noSuch [])) ∧
      ((s1.room f.room).inTable = true → f.firstStart < s1.clock.minute →
        exec (.createSeries tag f) s = .next (s1.answered ref .tooLate [])) ∧
      ((s1.room f.room).inTable = true → s1.clock.minute ≤ f.firstStart →
        (f.length = 0 ∨ 1440 < f.length ∨ s1.clock.minute + 259200 < f.firstStart →
          exec (.createSeries tag f) s = .next (s1.answered ref .badField [])) ∧
        (1 ≤ f.length → f.length ≤ 1440 → f.firstStart ≤ s1.clock.minute + 259200 →
          ((s1.room f.room).service = .closing → exec (.createSeries tag f) s = .next (s1.answered ref .wait [])) ∧
          ((s1.room f.room).service ≠ .closing →
            (f.template.isSome = true → (s1.room f.room).foodAllowed = false →
              exec (.createSeries tag f) s = .next (s1.answered ref .notAllowed [])) ∧
            (f.template = none ∨ (s1.room f.room).foodAllowed = true → ∀ id, s1.freeSeries = some id →
              64 + (if f.note.getD [] = [] then 1 else 2) ≤ s1.store.freeCount →
              s1.clock.minute / 1440 + 28 < (f.firstStart - f.firstStart % 5) / 1440 →
              ∃ t x body, exec (.createSeries tag f) s = .next t ∧ t.seriesAt id = some x ∧ (∀ j < id, s1.seriesAt j ≠ none) ∧
                x.room = f.room ∧ x.firstStart = f.firstStart - f.firstStart % 5 ∧ x.nextStart = x.firstStart ∧
                x.length = (f.length + 4) / 5 * 5 ∧ x.period = f.period ∧ x.count = f.count ∧
                x.headCount = f.headCount ∧ x.organiser = f.organiser ∧ x.template = f.template ∧ x.state = .active ∧
                x.noShows = 0 ∧ x.skipCount = 0 ∧ x.mark = false ∧ x.passOwed = false ∧
                x.threshold = min (f.threshold.getD s1.policyRec.threshold) 7 ∧
                (x.note.map Note.text).getD [] = f.note.getD [] ∧ (∀ j, j ≠ id → t.seriesAt j = s1.seriesAt j) ∧
                t.dir = s1.dir ∧ t.rooms = s1.rooms ∧
                t.store.freeCount + (if f.note.getD [] = [] then 1 else 2) = s1.store.freeCount ∧
                t.link = (s1.answer ref .ok body).link) ∧
            (f.template = none ∨ (s1.room f.room).foodAllowed = true → ∀ id first, s1.freeSeries = some id →
              64 + (if f.note.getD [] = [] then 1 else 2) ≤ s1.store.freeCount → s1.shaped = true → s1.fifoRight →
              first = f.firstStart - f.firstStart % 5 → first / 1440 ≤ s1.clock.minute / 1440 + 28 →
              ∃ (t : State) (y : Series) (made : List Handle) (skipped total : Nat) (head : List Field),
                exec (.createSeries tag f) s = .next t ∧ t.seriesAt id = some y ∧ total = made.length + skipped ∧
                y.nextStart = first + total * (f.period * 1440) ∧ y.firstStart = first ∧ y.room = f.room ∧
                y.count = f.count - total ∧
                (y.state = .active ∧ s1.clock.minute / 1440 + 28 < y.nextStart / 1440 ∧ (f.count = 0 ∨ total < f.count) ∨
                  y.state = .finished ∧ f.count = total) ∧
                (∀ k, k < total → (first + k * (f.period * 1440)) / 1440 ≤ s1.clock.minute / 1440 + 28) ∧
                y.skipCount = min skipped 255 ∧ (y.mark = true ↔ skipped ≠ 0) ∧ y.noShows = 0 ∧ y.passOwed = false ∧
                made.Nodup ∧
                (∀ h ∈ made, ∃ b k, t.bookingAt h.idx = some b ∧ b.handle = h ∧ b.room = f.room ∧ b.series = some id ∧
                  b.source = .series ∧ k < total ∧ b.startMin = first + k * (f.period * 1440) ∧
                  b.endMin = b.startMin + (f.length + 4) / 5 * 5 ∧ h ∈ (t.room f.room).timeline) ∧
                t.dir.refs.getD id 0 = s1.dir.refs.getD id 0 + made.length ∧ (∀ j, j ≠ id → t.seriesAt j = s1.seriesAt j) ∧
                t.link = (s1.answer ref .ok (head ++ (listField (fun h => [.handle (some h)]) made ++
                  [.num 1 (some skipped), .num 1 (some y.state.code), .num 1 (some y.count),
                    .num 4 (some y.nextStart)]))).link)))))

/-- R65, R66: END_SERIES and RESUME_SERIES by the state of the series and its pass_owed. END finishes the series, keeps its
count and queues its cancel pass; RESUME makes it ACTIVE with no no-shows and, when its next start is beyond the horizon,
deals with nothing. With a next start within it, every occurrence before now lapses, and those from now up to the horizon are
made or skipped, until the count runs out and the series is FINISHED; the answer gives how many lapsed, the handles made, the
number skipped, and the state, count and next start left. That a skip of it sets the change mark is log 44: the model's
choice. -/
def Obligations.SeriesEndedAndResumed : Prop :=
  ∀ (s s1 : State) (ref : HostRef) (tag : Byte) (id : Nat) (x : Series), s1.running = true → s1.catching = false →
    id ≤ 1023 → s1.seriesAt id = some x →
    (s.taken (.endSeries tag id) = some (s1, ref) →
      (x.state = .finished → exec (.endSeries tag id) s = .next (s1.answered ref .already [])) ∧
      (x.state ≠ .finished → x.passOwed = true → exec (.endSeries tag id) s = .next (s1.answered ref .wait [])) ∧
      (x.state ≠ .finished → x.passOwed = false → ∃ t, exec (.endSeries tag id) s = .next t ∧
        t.seriesAt id = some { x with state := .finished, passOwed := true } ∧ id ∈ t.series.passQueue ∧
        (∀ j, j ≠ id → t.seriesAt j = s1.seriesAt j) ∧
        t.link = (s1.answer ref .ok [.num 2 (some (s1.bookedOccurrences id))]).link ∧
        t = { s1 with series := { s1.series with list := t.series.list, passQueue := t.series.passQueue }
                      link := t.link, attn := t.attn })) ∧
    (s.taken (.resumeSeries tag id) = some (s1, ref) →
      (x.state = .active → exec (.resumeSeries tag id) s = .next (s1.answered ref .already [])) ∧
      (x.state = .finished → exec (.resumeSeries tag id) s = .next (s1.answered ref .badState [])) ∧
      (x.state = .suspended → x.passOwed = true → exec (.resumeSeries tag id) s = .next (s1.answered ref .wait [])) ∧
      (x.state = .suspended → x.passOwed = false → s1.clock.minute / 1440 + 28 < x.nextStart / 1440 →
        ∃ t body, exec (.resumeSeries tag id) s = .next t ∧
          t.seriesAt id = some { x with state := .active, noShows := 0 } ∧
          t.link = (s1.answer ref .ok body).link ∧
          t = { s1 with series := { s1.series with list := t.series.list }, link := t.link, attn := t.attn }) ∧
      (x.state = .suspended → x.passOwed = false → x.nextStart / 1440 ≤ s1.clock.minute / 1440 + 28 → s1.shaped = true →
        s1.fifoRight → 1 ≤ x.period → x.skipCount ≤ 255 → x.room < 512 →
        ∃ (t : State) (y : Series) (lapsed skipped total : Nat) (made : List Handle),
          exec (.resumeSeries tag id) s = .next t ∧ t.seriesAt id = some y ∧ total = lapsed + made.length + skipped ∧
          y.nextStart = x.nextStart + total * (x.period * 1440) ∧ y.count = x.count - total ∧
          (y.state = .active ∧ s1.clock.minute / 1440 + 28 < y.nextStart / 1440 ∧ (x.count = 0 ∨ total < x.count) ∨
            y.state = .finished ∧ x.count = total) ∧
          (∀ k, k < lapsed → x.nextStart + k * (x.period * 1440) < s1.clock.minute) ∧
          (lapsed < total → s1.clock.minute ≤ x.nextStart + lapsed * (x.period * 1440)) ∧
          y.skipCount = min (x.skipCount + skipped) 255 ∧ (skipped = 0 → y.mark = x.mark) ∧
          (skipped ≠ 0 → y.mark = true) ∧ y.noShows = 0 ∧ y.passOwed = false ∧ made.Nodup ∧
          (∀ h ∈ made, ∃ b k, t.bookingAt h.idx = some b ∧ b.handle = h ∧ b.room = x.room ∧ b.series = some id ∧
            b.source = .series ∧ lapsed ≤ k ∧ k < total ∧ b.startMin = x.nextStart + k * (x.period * 1440) ∧
            b.endMin = b.startMin + x.length ∧ h ∈ (t.room x.room).timeline) ∧
          t.dir.refs.getD id 0 = s1.dir.refs.getD id 0 + made.length ∧ (∀ j, j ≠ id → t.seriesAt j = s1.seriesAt j) ∧
          t.link = (s1.answer ref .ok (.num 4 (some lapsed) :: (listField (fun h => [.handle (some h)]) made ++
            [.num 1 (some skipped), .num 1 (some y.state.code), .num 1 (some y.count),
              .num 4 (some y.nextStart)]))).link))

/-- R61: MATERIALISATION_WALK takes one day event, beginning a walk or replacing the pending day, and each step visits one
id: a free id or a series that is not ACTIVE is passed over, an ACTIVE one is left with no occurrence due by the target day,
and after id 1,023, whatever stands there, the walk ends with its last walk day and the walk for a pending day begins. -/
def Obligations.MaterialisationWalkDealsWithEachSeries : Prop :=
  ∀ s : State,
    (∀ d rest, s.owed.materialisations = d :: rest →
      (s.series.walk = none → exec .materialisationWalk s = .next
        ({ s with owed := { s.owed with materialisations := rest }
                  series := { s.series with walk := some ⟨d, 0⟩ } }).followAttn) ∧
      (s.series.walk ≠ none → exec .materialisationWalk s = .next
        ({ s with owed := { s.owed with materialisations := rest }
                  series := { s.series with pendingDay := some d } }).followAttn)) ∧
    (∀ day id, s.series.walk = some ⟨day, id⟩ →
      ((∀ x, s.seriesAt id = some x → x.state ≠ .active ∨ day + 28 < x.nextStart / 1440) → id < 1023 →
        exec .materialisationWalkStep s = .next
          ({ s with series := { s.series with walk := some ⟨day, id + 1⟩ } }).followAttn) ∧
      (∀ x, s.seriesAt id = some x → 1 ≤ x.period → id < 1023 ∨ id = 1023 ∧ s.catchUp = none →
        ∃ t y, exec .materialisationWalkStep s = .next t ∧ t.seriesAt id = some y ∧
        (id < 1023 → t.series.walk = some ⟨day, id + 1⟩ ∧ t.series.lastDay = s.series.lastDay ∧
          t.series.pendingDay = s.series.pendingDay) ∧
        (id = 1023 → t.series.walk = (s.series.pendingDay.map fun d => ⟨d, 0⟩) ∧ t.series.lastDay = some day ∧
          t.series.pendingDay = none) ∧
        (y.state ≠ .active ∨ day + 28 < y.nextStart / 1440) ∧ y.period = x.period ∧ x.nextStart ≤ y.nextStart ∧
        (y.nextStart - x.nextStart) % (x.period * 1440) = 0 ∧ (∀ j, j ≠ id → t.seriesAt j = s.seriesAt j) ∧
        t.link = s.link ∧ t.clock = s.clock) ∧
      (id = 1023 → s.catchUp = none →
        (∀ x, s.seriesAt id = some x → x.state ≠ .active ∨ day + 28 < x.nextStart / 1440) →
        exec .materialisationWalkStep s = .next ({ s with series := { s.series with
          walk := s.series.pendingDay.map fun d => ⟨d, 0⟩, lastDay := some day, pendingDay := none } }).followAttn))

/-- R64: the cancel pass begins for the series at the head of its queue and visits one entry at each step: a BOOKED
occurrence of its series is cancelled, marked and taken off its timeline, any other entry is left, and after entry 8,191,
whatever stands there, the series' pass is no longer owed and the pass for the next id begins. That a pass begins in the first step that finds none running, and visits entry 0 in that
step, is log 33: the model's choice. -/
def Obligations.CancelPassWithdrawsOccurrences : Prop :=
  ∀ (s : State) (id e : Nat),
    (∀ rest, s.series.pass = none → s.series.passQueue = id :: rest → s.bookingAt 0 = none →
      exec .cancelPassStep s = .next
        ({ s with series := { s.series with pass := some ⟨id, 1⟩, passQueue := rest } }).followAttn) ∧
    (s.series.pass = some ⟨id, e⟩ →
      (∀ b, e ≤ 8191 → s.bookingAt e = some b → b.handle.idx = e → b.series = some id → b.state = .booked →
        ∃ t x, exec .cancelPassStep s = .next t ∧
          (e < 8191 → t.series = { s.series with pass := some ⟨id, e + 1⟩ }) ∧
          (e = 8191 → t.series.pass = (s.series.passQueue.head?.map fun n => ⟨n, 0⟩) ∧
            t.series.passQueue = s.series.passQueue.drop 1 ∧
            (∀ y, s.seriesAt id = some y → t.seriesAt id = some { y with passOwed := false }) ∧
            (∀ j, j ≠ id → t.seriesAt j = s.seriesAt j)) ∧
          t.bookingAt e = some x ∧
          x.state = .cancelled ∧ x.mark = true ∧ x.timer = none ∧ b.handle ∉ (t.room b.room).timeline ∧
          (∀ o, b.order = some o → o.state = .requested ∨ o.state = .unplaced ∨ o.state = .planned →
            x.order.map Order.state = some .voided) ∧
          (∀ o, b.order = some o → o.state = .committed → x.order.map Order.state = some .stranded) ∧
          t.notice.changed = ⟨true, false⟩ ∧ (∀ j, j ≠ e → t.bookingAt j = s.bookingAt j)) ∧
      (e < 8191 → (∀ b, s.bookingAt e = some b → b.series ≠ some id ∨ b.state ≠ .booked) →
        exec .cancelPassStep s = .next ({ s with series := { s.series with pass := some ⟨id, e + 1⟩ } }).followAttn) ∧
      (∀ x, e = 8191 → s.seriesAt id = some x → ∃ t y, exec .cancelPassStep s = .next t ∧ t.seriesAt id = some y ∧
        y.passOwed = false ∧ t.series.pass = s.series.passQueue.head?.map fun n => ⟨n, 0⟩))

/-! ### Chapter 5: placement -/

/-- R70, R71, R77, R79: PLACE and PLACE_AND_BOOK that nothing refuses join the queue QUEUED at the tail and hold their answer
place; with three general places held they are BUSY; nothing else changes. An IDLE engine takes the oldest QUEUED entry, which
becomes RUNNING, and copies the weights and the origin's distance row, with FOOD_ALLOWED among the needs when catering is
asked; an engine that is searching takes none. -/
def Obligations.SearchesJoinAndAreTaken : Prop :=
  (∀ (s s1 : State) (ref : HostRef) (tag : Byte) (sp : SpanOut), s1.running = true → s1.catching = false →
      (∀ f : PlaceForm, s.taken (.place tag f) = some (s1, ref) → placeFormOk f = true →
        s1.clock.minute ≤ f.span.startMin → formSpan s1.clock.minute f.span none = some sp →
        (3 ≤ s1.placement.general → exec (.place tag f) s = .next (s1.answered ref .busy [])) ∧
        (s1.placement.general < 3 → ∃ e : QueueEntry, exec (.place tag f) s = .next
            ({ s1 with placement := { s1.placement with
                queue := s1.placement.queue ++ [e], nextId := s1.placement.nextId + 1 } }).followAttn ∧
          e.kind = .place ∧ e.client = .host ref ∧ e.isRunning = false ∧ e.inputs.headCount = f.headCount ∧
          e.inputs.needs = f.needs ∧ e.inputs.wants = f.wants ∧ e.inputs.origin = f.origin ∧
          e.inputs.dmax = min f.dmax 63 ∧ e.inputs.startMin = sp.startMin ∧ e.inputs.endMin = sp.endMin ∧
          e.inputs.relax = f.relax ∧ e.inputs.book = none ∧ (f.covers = none → e.inputs.catering = .none_) ∧
          (∀ c, f.covers = some c → e.inputs.catering = .trial c))) ∧
      (∀ f : PlaceBookForm, s.taken (.placeAndBook tag f) = some (s1, ref) →
        placeFormOk { f.place with covers := none } = true → noteOk f.note = true → codeOk f.override = true →
        orderOptOk f.order = true → s1.clock.minute ≤ f.place.span.startMin →
        formSpan s1.clock.minute f.place.span none = some sp →
        (3 ≤ s1.placement.general → exec (.placeAndBook tag f) s = .next (s1.answered ref .busy [])) ∧
        (s1.placement.general < 3 → ∃ e : QueueEntry, exec (.placeAndBook tag f) s = .next
            ({ s1 with placement := { s1.placement with
                queue := s1.placement.queue ++ [e], nextId := s1.placement.nextId + 1 } }).followAttn ∧
          e.kind = .placeAndBook ∧ e.client = .host ref ∧ e.isRunning = false ∧
          e.inputs.startMin = sp.startMin ∧ e.inputs.endMin = sp.endMin ∧ e.inputs.startGiven = f.place.span.startMin ∧
          (f.order = none → e.inputs.catering = .none_) ∧ (∀ o, f.order = some o → e.inputs.catering = .trial o.covers)))) ∧
  (∀ s : State,
      (∀ (e : QueueEntry) (a b : List QueueEntry), s.placement.search = none → s.placement.queue = a ++ e :: b →
        (∀ x ∈ a, x.isRunning = true ∧ x.id ≠ e.id) → (∀ x ∈ b, x.id ≠ e.id) → e.isRunning = false →
        ∃ (x : Search) (q : SearchInputs), exec .searchTake s = .next
            ({ s with placement := { s.placement with
                queue := a ++ { e with inputs := q, isRunning := true } :: b, search := some x } }).followAttn ∧
          ((∀ p, e.client ≠ .panel p) → q = e.inputs) ∧
          (∀ p r, e.client = .panel p → (s.panel p).boundTo = some r →
            q.origin = (s.room r).building ∧ q.headCount = 1 ∧ q.needs = 0 ∧ q.wants = 0 ∧ q.startMin = s.clock.minute ∧
            q.endMin = s.clock.minute + 30 ∧ q.catering = .none_ ∧ q.relax = false) ∧
          x.request = e.id ∧ x.weights = s.weights ∧ x.row = s.distance.getD q.origin [] ∧ x.level = 0 ∧
          (q.catering = .none_ → x.needs = q.needs) ∧
          (q.catering ≠ .none_ → x.needs = q.needs ||| 2) ∧ x.wants = q.wants ∧ x.dropped = [] ∧
          x.cursor = 0 ∧ x.candidates = [] ∧ x.eligible = 0 ∧ x.rejects = [0, 0, 0, 0, 0, 0] ∧ x.complete = false) ∧
      (∀ x, s.placement.search = some x → exec .searchTake s = .next s))

/-- R72, R74: each step reaches the room at the cursor, counts the first test that fails or ranks the room in, and moves the
cursor on; after room 511 the search completes, or begins the next level by dropping the highest droppable capability into
the wants. Nothing but the search changes. The six tests fail or pass in their order by the conditions of R72: service and
closure, needs, seats, distance, span, catering. R73: a trial within the horizon passes where planning finds an acceptance,
with its window and TIGHT; beyond the horizon it passes with the serving kitchen of lowest reach, ties to the lower index. A
search of a FIND_NEARBY is stated for a panel bound to a room (log 31), and a search that completes keeps its cursor at 511
(log 54), and a fixed kitchen out of the table is tested by its stored reach (log 58): the model's choices. -/
def Obligations.SearchReachesOneRoomAtATime : Prop :=
  (∀ (s : State) (e : QueueEntry) (needs : Caps) (row : List Nat) (r : Nat),
    ((s.room r).service ≠ .inService ∨
        (∃ c, (s.room r).closure = some c ∧ e.inputs.startMin < c.toMin ∧ c.fromMin < e.inputs.endMin) →
      s.roomTests e needs row r = .error .service) ∧
    ((s.room r).service = .inService →
      (∀ c, (s.room r).closure = some c → c.toMin ≤ e.inputs.startMin ∨ e.inputs.endMin ≤ c.fromMin) →
      ((∃ i, i < 16 ∧ needs.getLsbD i = true ∧ (s.room r).caps.getLsbD i = false) →
        s.roomTests e needs row r = .error .needs) ∧
      ((∀ i, i < 16 → needs.getLsbD i = true → (s.room r).caps.getLsbD i = true) →
        ((s.room r).seats < e.inputs.headCount → s.roomTests e needs row r = .error .seats) ∧
        (e.inputs.headCount ≤ (s.room r).seats → ∀ near : Prop,
          (∀ p own, e.client = .panel p → (s.panel p).boundTo = some own →
            (near ↔ (s.room r).building = e.inputs.origin ∧ r ≠ own)) →
          (∀ p, e.client = .panel p → (s.panel p).boundTo ≠ none) →
          ((∀ p, e.client ≠ .panel p) → (near ↔ row.getD (s.room r).building 0 ≤ e.inputs.dmax)) →
          (¬ near → s.roomTests e needs row r = .error .distance) ∧
          (near → ∀ self : Option Handle, (∀ h, e.client = .booking h → self = some h) →
            ((∀ h, e.client ≠ .booking h) → self = none) →
            (s.blocker r self e.inputs.startMin e.inputs.endMin ≠ none → s.roomTests e needs row r = .error .span) ∧
            (s.blocker r self e.inputs.startMin e.inputs.endMin = none →
              (e.inputs.catering = .none_ → s.roomTests e needs row r = .ok none) ∧
              (∀ k, e.inputs.catering = .fixed k →
                ((s.kitchen k).reach.getD (s.room r).building none = none → s.roomTests e needs row r = .error .catering) ∧
                (∀ y, (s.kitchen k).reach.getD (s.room r).building none = some y →
                  s.roomTests e needs row r = .ok (some ⟨k, y, none, none⟩))) ∧
              (∀ covers, e.inputs.catering = .trial covers →
                (s.beyond (e.inputs.startMin / 1440) = true →
                  ((∀ k, k < 8 → s.serves k (s.room r).building = none) →
                    s.roomTests e needs row r = .error .catering) ∧
                  (∀ k y, k < 8 → s.serves k (s.room r).building = some y →
                    (∀ j z, j < 8 → s.serves j (s.room r).building = some z → y < z ∨ y = z ∧ k ≤ j) →
                    s.roomTests e needs row r = .ok (some ⟨k, y, none, some false⟩))) ∧
                (s.beyond (e.inputs.startMin / 1440) = false →
                  (s.planAt s.clock.minute covers e.inputs.startMin (s.room r).building = none →
                    s.roomTests e needs row r = .error .catering) ∧
                  (∀ a y, s.planAt s.clock.minute covers e.inputs.startMin (s.room r).building = some a →
                    s.serves a.kitchen (s.room r).building = some y →
                    s.roomTests e needs row r = .ok (some ⟨a.kitchen, y, some a.window, some (decide
                      (s.capacity a.kitchen a.window.win < s.load a.kitchen a.window + 2 * covers))⟩)))))))))) ∧
  ∀ (s : State) (x : Search) (e : QueueEntry), s.placement.search = some x → s.runningEntry x = some e →
    x.complete = false → ∃ z y : Search,
      exec .placementWalkStep s = .next ({ s with placement := { s.placement with search := some y } }).followAttn ∧
      z = { x with eligible := z.eligible, rejects := z.rejects, candidates := z.candidates } ∧
      ((s.room x.cursor).inTable = false → z = x) ∧
      (∀ reason, (s.room x.cursor).inTable = true → s.roomTests e x.needs x.row x.cursor = .error reason →
        z = { x with rejects := x.rejects.modify reason.code (· + 1) }) ∧
      (∀ t, (s.room x.cursor).inTable = true → s.roomTests e x.needs x.row x.cursor = .ok t →
        z = { x with eligible := x.eligible + 1, candidates := rankIn (s.scored e x x.cursor t) x.candidates }) ∧
      (x.cursor < 511 → y = { z with cursor := x.cursor + 1 }) ∧
      (511 ≤ x.cursor →
        (z.candidates ≠ [] ∨ e.inputs.relax = false ∨
            (∀ i, i < 16 → x.needs.getLsbD i = true → i = 0 ∨ i = 1 ∧ e.inputs.catering ≠ .none_) →
          y = { z with complete := true }) ∧
        (∀ i, z.candidates = [] → e.inputs.relax = true → i < 16 → i ≠ 0 → (i = 1 → e.inputs.catering = .none_) →
          x.needs.getLsbD i = true → (∀ j, i < j → x.needs.getLsbD j = false) →
          y.level = x.level + 1 ∧ y.cursor = 0 ∧ y.complete = false ∧ y.dropped = x.dropped ++ [i] ∧ y.eligible = 0 ∧
          y.rejects = [0, 0, 0, 0, 0, 0] ∧ y.candidates = [] ∧ y.weights = x.weights ∧ y.row = x.row ∧
          y.needs.getLsbD i = false ∧ y.wants.getLsbD i = true ∧
          (∀ j, j < 16 → j ≠ i → y.needs.getLsbD j = x.needs.getLsbD j ∧ y.wants.getLsbD j = x.wants.getLsbD j)))

/-- R75, R76: a room's score is the weighted sum of its fit, its distance, its missing wants and its reach, each as the table
computes it; its entry holds the trial's kitchen, window and TIGHT, and the free-until minute for FIND_NEARBY. With weights of
at most 15, distances and reaches of at most 63, and a head count of 1 up to the seats, every score lies between 0 and 3,075.
Ranking a scored room into a list of at most four, ranked by score, then seats, then room index, keeps it so: the room goes to
its place, a fourth entry that it ranks before leaves the list, and it stays out only when four entries rank before it. -/
def Obligations.CandidatesRankedAndScored : Prop :=
  (∀ (c : Candidate) (l : List Candidate),
      l.Pairwise (fun a b => a.score < b.score ∨ a.score = b.score ∧ (a.seats < b.seats ∨ a.seats = b.seats ∧ a.room < b.room)) →
      (∀ x ∈ l, x.room ≠ c.room) → l.length ≤ 4 →
        (rankIn c l).Pairwise
          (fun a b => a.score < b.score ∨ a.score = b.score ∧ (a.seats < b.seats ∨ a.seats = b.seats ∧ a.room < b.room)) ∧
        (rankIn c l).length = min (l.length + 1) 4 ∧ (∀ x ∈ rankIn c l, x = c ∨ x ∈ l) ∧
        (c ∉ rankIn c l → l.length = 4 ∧ ∀ x ∈ l, x.before c = true) ∧
        (∀ a b, l = a ++ b → (∀ x ∈ a, x.before c = true) → (∀ x ∈ b, c.before x = true) →
          (l.length < 4 → rankIn c l = a ++ c :: b) ∧
          (l.length = 4 → b = [] → rankIn c l = l) ∧
          (l.length = 4 → b ≠ [] → rankIn c l = a ++ c :: b.dropLast))) ∧
  (∀ a b : Candidate, a.before b = true ↔
      a.score < b.score ∨ a.score = b.score ∧ (a.seats < b.seats ∨ a.seats = b.seats ∧ a.room < b.room)) ∧
  (∀ (s : State) (e : QueueEntry) (x : Search) (r : Nat) (t : Option Trial), ∃ c : Candidate, c = s.scored e x r t ∧
      c.room = r ∧ c.building = (s.room r).building ∧ c.seats = (s.room r).seats ∧
      c.fit = 64 * ((s.room r).seats - e.inputs.headCount) / (s.room r).seats ∧
      (e.kind = .findNearby → c.dist = 0 ∧ c.freeUntil = s.freeUntil r s.clock.minute) ∧
      (e.kind ≠ .findNearby → c.dist = x.row.getD (s.room r).building 0 ∧ c.freeUntil = none) ∧
      c.miss = (List.range 16).countP (fun i => x.wants.getLsbD i && !(s.room r).caps.getLsbD i) ∧
      (t = none → c.reach = 0 ∧ c.kitchen = none ∧ c.window = none ∧ c.tight = none) ∧
      (∀ k, t = some k → c.reach = k.reach ∧ c.kitchen = some k.kitchen ∧ c.window = k.window ∧ c.tight = k.tight) ∧
      c.score = x.weights.wF * c.fit + x.weights.wD * c.dist + x.weights.wW * c.miss + x.weights.wR * c.reach) ∧
  (∀ (s : State) (e : QueueEntry) (x : Search) (r : Nat) (t : Option Trial),
      x.weights.wF ≤ 15 → x.weights.wD ≤ 15 → x.weights.wW ≤ 15 → x.weights.wR ≤ 15 → (∀ d ∈ x.row, d ≤ 63) →
      (∀ k, t = some k → k.reach ≤ 63) → 1 ≤ e.inputs.headCount → e.inputs.headCount ≤ (s.room r).seats →
      (s.room r).seats ≤ 400 →
        (s.scored e x r t).fit ≤ 63 ∧ (s.scored e x r t).dist ≤ 63 ∧ (s.scored e x r t).miss ≤ 16 ∧
        (s.scored e x r t).reach ≤ 63 ∧ (s.scored e x r t).score ≤ 3075)

/-- R78, R80, R81: a completed search is settled in one step, its place freed and the engine IDLE. PLACE answers OK or
NO_ROOM; FIND_NEARBY puts its result in the slot that still names it; a PLACE_AND_BOOK with an empty list, with a start now
before now, or whose candidates all fail the recheck, is refused with every timeline, the store and the directory as they
were. One without an order, of whose candidates in rank order the first that passes its recheck follows only ones that fail,
books that room in the step of its completion: the booking has the search's span and fields, stands on the room's timeline,
and no other booking changes. -/
def Obligations.CompletedSearchesAreSettled : Prop :=
  (∀ (s : State) (x : Search) (e : QueueEntry) (ref : HostRef) (f : BookFields) (pre cs : List Candidate) (c : Candidate)
    (t0 : Option Trial) (i : Nat) (rest : List Nat),
    s.placement.search = some x → s.runningEntry x = some e → x.complete = true → e.id = x.request →
    e.kind = .placeAndBook → e.client = .host ref → e.inputs.book = some f → f.order = none →
    x.candidates = pre ++ c :: cs → s.clock.minute ≤ e.inputs.startGiven →
    s.seriesScope (e.inputs.startMin / 1440) = false →
    (∀ k ∈ pre, (s.room k.room).inTable = false ∨ ∃ reason, s.roomTests e x.needs x.row k.room = .error reason) →
    (s.room c.room).inTable = true → s.roomTests e x.needs x.row c.room = .ok t0 → s.dir.fifo = i :: rest →
    i < s.dir.entries.length → c.room < s.rooms.length → 64 + (if f.note = [] then 1 else 2) ≤ s.store.freeCount →
      ∃ t body b, exec .placeAndBookCompletion s = .next t ∧ t.bookingAt i = some b ∧ b.room = c.room ∧
        b.startMin = e.inputs.startMin ∧ b.endMin = e.inputs.endMin ∧ b.headCount = e.inputs.headCount ∧
        b.organiser = f.organiser ∧ b.origin = e.inputs.origin ∧ b.needs = x.needs ∧ b.wants = x.wants ∧
        b.source = .host ∧ b.handle ∈ (t.room c.room).timeline ∧ t.dir.fifo = rest ∧
        (∀ j, j ≠ i → t.bookingAt j = s.bookingAt j) ∧ (∀ r, r ≠ c.room → t.room r = s.room r) ∧
        t.placement.search = none ∧ t.link = (s.answer ref .ok body).link) ∧
  ∀ (s : State) (x : Search) (e : QueueEntry), s.placement.search = some x → s.runningEntry x = some e → x.complete = true →
    e.id = x.request →
    (∀ ref, e.kind = .place → e.client = .host ref → exec .placeCompletion s = .next
      (({ s with placement := { s.placement with
          queue := s.placement.queue.filter fun q => q.id ≠ e.id, search := none } }).answered ref
        (if x.candidates = [] then .noRoom else .ok) (placeFields e.inputs x))) ∧
    (∀ p, e.kind = .findNearby → e.client = .panel p → p < s.panelBus.panels.length →
      ∃ t, exec .findNearbyCompletion s = .next t ∧ t.placement.search = none ∧
        t.placement.queue = s.placement.queue.filter (fun q => q.id ≠ e.id) ∧
        ((s.panel p).slot = .pending e.id → (t.panel p).slot = .result (nearbyResult x)) ∧
        ((s.panel p).slot ≠ .pending e.id → t.panel p = s.panel p) ∧
        t = { s with placement := t.placement, panelBus := { s.panelBus with panels := t.panelBus.panels }, attn := t.attn }) ∧
    (∀ ref f, e.kind = .placeAndBook → e.client = .host ref → e.inputs.book = some f → s.stackCounted = true →
      (∀ i, s.dir.fifo.head? = some i → s.bookingAt i = none ∧ (s.dir.entries.getD i ⟨0, none⟩).generation < 256) →
      ∃ t st body, exec .placeAndBookCompletion s = .next t ∧ t.placement.search = none ∧
        t.placement.queue = s.placement.queue.filter (fun q => q.id ≠ e.id) ∧ t.link = (s.answer ref st body).link ∧
        (st ≠ .ok → t = { s with placement := t.placement, notice := { s.notice with store := t.notice.store }
                                 link := t.link, attn := t.attn }) ∧
        (x.candidates = [] → st = .noRoom) ∧
        (x.candidates ≠ [] → e.inputs.startGiven < s.clock.minute → st = .tooLate) ∧
        (x.candidates ≠ [] → s.clock.minute ≤ e.inputs.startGiven → s.seriesScope (e.inputs.startMin / 1440) = true →
          st = .wait) ∧
        (x.candidates ≠ [] → s.clock.minute ≤ e.inputs.startGiven → s.seriesScope (e.inputs.startMin / 1440) = false →
          (f.order = none ∨ s.planningScope (e.inputs.startMin / 1440) = false) →
          (∀ c ∈ x.candidates, (s.room c.room).inTable = false ∨
            ∃ reason, s.roomTests e x.needs x.row c.room = .error reason) → st = .conflict) ∧
        (x.candidates ≠ [] → s.clock.minute ≤ e.inputs.startGiven → s.seriesScope (e.inputs.startMin / 1440) = false →
          f.order.isSome = true → s.planningScope (e.inputs.startMin / 1440) = true → st = .wait))

/-- R70, R81, R82: a FIND_NEARBY of a room panel takes a general place and its slot becomes PENDING naming the
search; with three general places held the result is WAIT, and a kitchen terminal gets BAD_STATE. A withdrawal takes
the panel's search out of the queue, and abandons it when it was running. A search's number is the model's own name
for it (log 26). -/
def Obligations.NearbySearchesAndWithdrawals : Prop :=
  ∀ (s : State) (src : PanelRef), src.panel < s.panelBus.panels.length →
    (s.running = true → s.catching = false → src.kind = .room → s.placement.general < 3 →
      ∃ t, exec (.findNearby src) s = .next t ∧ (t.panel src.panel).slot = .pending s.placement.nextId ∧
        (∃ q, t.placement.queue = s.placement.queue ++ [q] ∧ q.kind = .findNearby ∧ q.client = .panel src.panel ∧
          q.isRunning = false ∧ q.id = s.placement.nextId) ∧
        t = { s with handed := s.handed.erase (.findNearby src), placement := t.placement, panelBus := t.panelBus
                     attn := t.attn }) ∧
    (s.running = true → s.catching = false → src.kind = .room → 3 ≤ s.placement.general →
      ∃ t, exec (.findNearby src) s = .next t ∧ (t.panel src.panel).slot = .result ⟨5, .wait, []⟩ ∧
        t.placement = s.placement) ∧
    (s.running = true → s.catching = false → src.kind = .kitchen →
      ∃ t, exec (.findNearby src) s = .next t ∧ (t.panel src.panel).slot = .result ⟨5, .badState, []⟩ ∧
        t.placement = s.placement) ∧
    (∀ n q, s.placement.queue.find? (fun e => e.id = n && e.client = .panel src.panel) = some q →
      exec (.withdrawal src.panel n) s = .next
        ({ s with handed := s.handed.erase (.withdrawal src.panel n)
                  placement := { s.placement with
                    queue := s.placement.queue.filter fun e => e.id ≠ n
                    search := s.placement.search.filter fun x => x.request ≠ n } }).followAttn) ∧
    (∀ n, s.placement.queue.find? (fun e => e.id = n && e.client = .panel src.panel) = none →
      exec (.withdrawal src.panel n) s = .next
        ({ s with handed := s.handed.erase (.withdrawal src.panel n) }).followAttn)

/-! ### Chapter 6: attendance -/

/-- R87, R93, R96, R100: a second event takes one second from every RUNNING channel, and in its step each one that reaches 0
expires under its mode: a WINDOW releases its AWAITING booking as a no-show, marked, off the timeline, the channel freed and the
room's count one higher; a WATCH ends its IN_USE booking early at now, or at its start when now is before it. No other booking
and no other channel changes; the tables are sized and the channels and bookings agree (R24, R86). WINDOW_EXPIRY and
ABSENCE_EXPIRY name that second event at a remaining of 1, and the expiry of a RUNNING channel that stands at 0 (log 7: the
model's choice); at any other moment, and for the other mode, they do nothing. -/
def Obligations.ChannelsCountAndExpire : Prop :=
  (∀ s : State,
      (s.owed.seconds = 0 → exec .secondEvent s = .next s) ∧
      (s.owed.seconds ≠ 0 → (∀ c, (s.channel c).state = .running → 1 < (s.channel c).remaining) →
        ∃ t, exec .secondEvent s = .next t ∧
        (∀ c, (s.channel c).state = .running → t.channel c = { s.channel c with remaining := (s.channel c).remaining - 1 }) ∧
        (∀ c, (s.channel c).state ≠ .running → t.channel c = s.channel c) ∧
        t = { s with owed := { s.owed with seconds := s.owed.seconds - 1 }
                     bank := { s.bank with channels := t.bank.channels }, attn := t.attn }) ∧
      (s.owed.seconds ≠ 0 → s.shaped = true → s.handlesAgree → s.channelsRight →
        ∃ t, exec .secondEvent s = .next t ∧ t.owed = { s.owed with seconds := s.owed.seconds - 1 } ∧ t.clock = s.clock ∧
        t.link = s.link ∧
        (∀ c, (s.channel c).state = .running → 1 < (s.channel c).remaining →
          t.channel c = { s.channel c with remaining := (s.channel c).remaining - 1 }) ∧
        (∀ c, (s.channel c).state ≠ .running → t.channel c = s.channel c) ∧
        (∀ c h b, (s.channel c).state = .running → (s.channel c).remaining ≤ 1 → (s.channel c).booking = some h →
          s.lookup h = .found b →
          t.channel c = ⟨.free, (s.channel c).mode, none, 0⟩ ∧ ∃ x, t.bookingAt h.idx = some x ∧ x.timer = none ∧
            ((s.channel c).mode = .window → b.state = .awaiting → x.state = .released ∧ x.attendance = .noShow ∧
              x.mark = true ∧ h ∉ (t.room b.room).timeline) ∧
            ((s.channel c).mode = .watch → b.state = .inUse → x.state = .endedEarly ∧
              x.endMin = max s.clock.minute b.startMin ∧ x.mark = true ∧ x.attendance = b.attendance ∧
              h ∉ (t.room b.room).timeline)) ∧
        (∀ i b, s.bookingAt i = some b → (∀ c, b.timer = some c → (s.channel c).state = .running → 1 < (s.channel c).remaining) →
          t.bookingAt i = some b) ∧
        (∀ i, s.bookingAt i = none → t.bookingAt i = none))) ∧
  (∀ (s : State) (c : Nat),
      ((s.channel c).mode = .window → exec (.absenceExpiry c) s = .next s) ∧
      ((s.channel c).mode = .watch → exec (.windowExpiry c) s = .next s) ∧
      ((s.channel c).state ≠ .running ∨ 1 < (s.channel c).remaining ∨
          (s.channel c).remaining = 1 ∧ s.owed.seconds = 0 →
        exec (.windowExpiry c) s = .next s ∧ exec (.absenceExpiry c) s = .next s) ∧
      ((s.channel c).state = .running → (s.channel c).remaining = 1 → s.owed.seconds ≠ 0 →
        ((s.channel c).mode = .window → exec (.windowExpiry c) s = exec .secondEvent s) ∧
        ((s.channel c).mode = .watch → exec (.absenceExpiry c) s = exec .secondEvent s))) ∧
  (∀ (s : State) (c : Nat) (h : Handle) (b : Booking), c < s.bank.channels.length → (s.channel c).state = .running →
      (s.channel c).remaining = 0 → (s.channel c).booking = some h → s.lookup h = .found b → b.handle = h →
      b.timer = some c → h.idx < s.dir.entries.length → b.room < s.rooms.length →
      ((s.channel c).mode = .window → b.state = .awaiting → ∃ t x, exec (.windowExpiry c) s = .next t ∧
        t.bookingAt h.idx = some x ∧ x.state = .released ∧ x.attendance = .noShow ∧ x.mark = true ∧ x.timer = none ∧
        h ∉ (t.room b.room).timeline ∧ (t.room b.room).noShow = min ((s.room b.room).noShow + 1) 255 ∧
        t.channel c = ⟨.free, .window, none, 0⟩ ∧ t.notice.changed = ⟨true, false⟩ ∧
        (∀ j, j ≠ h.idx → t.bookingAt j = s.bookingAt j) ∧ (∀ d, d ≠ c → t.channel d = s.channel d)) ∧
      ((s.channel c).mode = .watch → b.state = .inUse → ∃ t x, exec (.absenceExpiry c) s = .next t ∧
        t.bookingAt h.idx = some x ∧ x.state = .endedEarly ∧ x.endMin = max s.clock.minute b.startMin ∧ x.mark = true ∧
        x.attendance = b.attendance ∧ x.timer = none ∧ h ∉ (t.room b.room).timeline ∧
        (t.room b.room).noShow = (s.room b.room).noShow ∧ t.channel c = ⟨.free, .watch, none, 0⟩ ∧
        t.notice.changed = ⟨true, false⟩ ∧ (∀ j, j ≠ h.idx → t.bookingAt j = s.bookingAt j) ∧
        (∀ d, d ≠ c → t.channel d = s.channel d)))

/-- R88, R89: opening a window of a BOOKED booking takes the lowest FREE channel for the seconds to its deadline; with none FREE
the TIMER count rises and the booking becomes EXEMPT, IN_USE when its start has come. WINDOW_OPENING takes the oldest minute
event owed to the bank: over timelines and tables that are right, it opens the window of every booking that is BOOKED and
REQUIRED with its opening minute at that minute in a room whose panel is available, rooms in ascending order, and changes no
other booking and no channel that was not FREE. That an event may be taken later than its minute, with now and second read
from the clock as they stand, is log 6 and log 8: the model's choices. -/
def Obligations.WindowsOpenAtTheirMinute : Prop :=
  (∀ (s : State) (m : Nat) (rest : List Nat), s.owed.openings = m :: rest → s.shaped = true → s.timelinesRight →
      ∃ t, exec .windowOpening s = .next t ∧ t.owed = { s.owed with openings := rest } ∧ t.clock = s.clock ∧
        t.rooms = s.rooms ∧ t.link = s.link ∧ t.store = s.store ∧
        (∀ i, s.bookingAt i = none → t.bookingAt i = none) ∧
        (∀ c, (s.channel c).state ≠ .free → t.channel c = s.channel c) ∧
        (∀ c d, (s.channel c).state = .free → (t.channel c).state ≠ .free → d < c → (t.channel d).state ≠ .free) ∧
        (∀ i b, s.bookingAt i = some b → b.handle.idx = i →
          (b.state ≠ .booked ∨ b.checkin ≠ .required ∨ b.startMin ≠ m + (s.room b.room).earlyOpen ∨
              s.panelAvailable b.room = false → t.bookingAt i = some b) ∧
          (b.state = .booked → b.checkin = .required → b.startMin = m + (s.room b.room).earlyOpen →
            s.panelAvailable b.room = true →
            (∃ c, c < 256 ∧ (s.channel c).state = .free ∧ t.bookingAt i = some { b with state := .awaiting, timer := some c } ∧
              t.channel c = ⟨.running, .window, some b.handle,
                (min b.endMin (max (b.startMin + (s.room b.room).grace) (s.clock.minute + 1)) - s.clock.minute) * 60 -
                  s.clock.second⟩) ∨
            (∀ c, c < 256 → (t.channel c).state ≠ .free) ∧
              (s.bank.timerCount < 255 → s.bank.timerCount < t.bank.timerCount) ∧
              (b.startMin ≤ s.clock.minute → t.bookingAt i =
                some { b with state := .inUse, checkin := .exempt, attendance := .none_ }) ∧
              (s.clock.minute < b.startMin → t.bookingAt i = some { b with checkin := .exempt }))) ∧
        (∀ i j a b x y c d, s.bookingAt i = some a → s.bookingAt j = some b → a.handle.idx = i → b.handle.idx = j →
          a.timer = none → b.timer = none → t.bookingAt i = some x → t.bookingAt j = some y → x.timer = some c →
          y.timer = some d → a.room < b.room → c < d)) ∧
  (∀ (s : State) (i : Nat) (b : Booking), s.bookingAt i = some b → b.handle.idx = i → b.state = .booked →
      (∀ c, c < s.bank.channels.length → (s.channel c).state = .free → (∀ d < c, (s.channel d).state ≠ .free) →
        (s.openWindow i).bookingAt i = some { b with state := .awaiting, timer := some c } ∧
        (s.openWindow i).channel c = ⟨.running, .window, some b.handle,
          (min b.endMin (max (b.startMin + (s.room b.room).grace) (s.clock.minute + 1)) - s.clock.minute) * 60 -
            s.clock.second⟩ ∧
        (∀ d, d ≠ c → (s.openWindow i).channel d = s.channel d) ∧ (s.openWindow i).bank.timerCount = s.bank.timerCount) ∧
      ((∀ c, c < s.bank.channels.length → (s.channel c).state ≠ .free) →
        (s.openWindow i).bank.channels = s.bank.channels ∧
        (s.openWindow i).bank.timerCount = min (s.bank.timerCount + 1) 255 ∧
        (b.startMin ≤ s.clock.minute → (s.openWindow i).bookingAt i =
          some { b with state := .inUse, checkin := .exempt, attendance := .none_ }) ∧
        (s.clock.minute < b.startMin → (s.openWindow i).bookingAt i = some { b with checkin := .exempt })) ∧
      (∀ j, j ≠ i → (s.openWindow i).bookingAt j = s.bookingAt j)) ∧
  (∀ (s : State) (m r : Nat) (rest : List Nat) (h : Handle) (b : Booking), s.owed.openings = m :: rest → r < 512 →
      s.bookingAt h.idx = some b → (s.room r).timeline = [h] → (∀ q, q ≠ r → (s.room q).timeline = []) →
      b.state = .booked → b.checkin = .required → b.startMin = m + (s.room r).earlyOpen →
      (s.panelAvailable r = true → ∃ t, exec .windowOpening s = .next t ∧
        t.owed = { s.owed with openings := rest } ∧
        t.bank = (({ s with owed := { s.owed with openings := rest } }).openWindow h.idx).bank ∧
        t.bookingAt h.idx = (s.openWindow h.idx).bookingAt h.idx ∧ (∀ j, j ≠ h.idx → t.bookingAt j = s.bookingAt j)) ∧
      (s.panelAvailable r = false →
        exec .windowOpening s = .next ({ s with owed := { s.owed with openings := rest } }).followAttn))

/-- R91, R92: the result of a CHECK_IN by the state of the booking it names; only an AWAITING first booking with a
good badge changes: it enters IN_USE, CHECKED, and its channel is freed, or turned to WATCH. The payload of a result
is laid out by log 24. -/
def Obligations.CheckInsAreDecided : Prop :=
  ∀ (s : State) (src : PanelRef) (badge : Id32) (h : Handle) (b : Booking), s.running = true → s.catching = false →
    src.kind = .room → src.panel < s.panelBus.panels.length → s.lookup h = .found b → b.handle = h →
    h.idx < s.dir.entries.length → b.room = src.target →
    (b.state = .booked ∨ b.state = .awaiting ∧ (s.room b.room).timeline.head? ≠ some h →
      ∃ t, exec (.checkIn src badge (some h)) s = .next t ∧ t.dir = s.dir ∧ t.bank = s.bank ∧
        (t.panel src.panel).slot = .result ⟨1, .tooEarly, []⟩) ∧
    (b.state = .awaiting → (s.room b.room).timeline.head? = some h →
      ((s.room b.room).who = .organiser → badge ≠ b.organiser → ∃ t, exec (.checkIn src badge (some h)) s = .next t ∧
        t.dir = s.dir ∧ t.bank = s.bank ∧
        (t.panel src.panel).slot = .result ⟨1, .notOrganiser, []⟩) ∧
      ((s.room b.room).who = .anyone ∨ badge = b.organiser → ∃ t x, exec (.checkIn src badge (some h)) s = .next t ∧
        t.bookingAt h.idx = some x ∧ x.state = .inUse ∧ x.attendance = .checked ∧
        (∀ c, b.timer = some c → c < s.bank.channels.length →
          ((s.room b.room).absenceLimit = 0 → x.timer = none ∧ (t.channel c).state = .free) ∧
          ((s.room b.room).absenceLimit ≠ 0 → x.timer = some c ∧ (t.channel c).mode = .watch ∧
            (t.channel c).remaining = (s.room b.room).absenceLimit * 60 ∧
            (t.channel c).state = if s.panelAvailable b.room then .paused else .suspended)) ∧
        (∀ id y, b.series = some id → s.seriesAt id = some y → t.seriesAt id = some { y with noShows := 0 }) ∧
        (∀ j, j ≠ h.idx → t.bookingAt j = s.bookingAt j) ∧
        (t.panel src.panel).slot = .result ⟨1, .ok, []⟩)) ∧
    (b.state = .released → ∃ t, exec (.checkIn src badge (some h)) s = .next t ∧ t.dir = s.dir ∧
      (t.panel src.panel).slot = .result ⟨1, .tooLate, [.num 4 (s.freeUntil b.room s.clock.minute)]⟩)

/-- R94: an OCCUPIED reading of a room with auto_checkin checks in its first booking when that is AWAITING and none of the
room is IN_USE, as a CHECK_IN would (R92); a VACANT one, or one of a room without auto_checkin, then changes nothing. R95: a
reading of a room whose first booking is IN_USE on a RUNNING or PAUSED WATCH channel: OCCUPIED pauses it, VACANT sets it
running with the absence limit less the seconds since the change, and ends the booking when nothing remains; with an absence
limit of 0 the channel is freed. A reading of a room with no booking changes no booking and no channel. That the first is the
one reached should a second of the room be IN_USE is log 56: the model's choice. -/
def Obligations.ReadingsSetTheWatch : Prop :=
  ∀ (s : State) (r sec : Nat) (occupied : Bool),
    (s.timelineOf r = [] → exec (.occupancyReading r occupied sec) s = .next
      ({ s with handed := s.handed.erase (.occupancyReading r occupied sec) }).followAttn) ∧
    (∀ b tl, s.timelineOf r = b :: tl → b.state = .awaiting → (∀ y ∈ tl, y.state ≠ .inUse) →
      (occupied = false ∨ (s.room r).autoCheckin = false → exec (.occupancyReading r occupied sec) s = .next
        ({ s with handed := s.handed.erase (.occupancyReading r occupied sec) }).followAttn) ∧
      (occupied = true → (s.room r).autoCheckin = true → s.bookingAt b.handle.idx = some b → b.room = r →
        b.handle.idx < s.dir.entries.length → ∃ t x, exec (.occupancyReading r occupied sec) s = .next t ∧
          t.bookingAt b.handle.idx = some x ∧ x.state = .inUse ∧ x.attendance = .checked ∧
          (∀ c, b.timer = some c → c < s.bank.channels.length →
            ((s.room r).absenceLimit = 0 → x.timer = none ∧ (t.channel c).state = .free) ∧
            ((s.room r).absenceLimit ≠ 0 → x.timer = some c ∧ t.channel c = { s.channel c with
              mode := .watch, state := if s.panelAvailable r then .paused else .suspended
              remaining := (s.room r).absenceLimit * 60 })) ∧
          (∀ id y, b.series = some id → s.seriesAt id = some y → t.seriesAt id = some { y with noShows := 0 }) ∧
          (∀ j, j ≠ b.handle.idx → t.bookingAt j = s.bookingAt j))) ∧
    (∀ b c tl, s.timelineOf r = b :: tl → b.state = .inUse → b.timer = some c → c < s.bank.channels.length →
      (s.channel c).mode = .watch → (s.channel c).state = .running ∨ (s.channel c).state = .paused →
      (s.room r).absenceLimit = 0 → s.bookingAt b.handle.idx = some b → b.handle.idx < s.dir.entries.length →
      ∃ t, exec (.occupancyReading r occupied sec) s = .next t ∧ t.bookingAt b.handle.idx = some { b with timer := none } ∧
        t.channel c = ⟨.free, .watch, none, 0⟩ ∧ (∀ d, d ≠ c → t.channel d = s.channel d) ∧
        (∀ j, j ≠ b.handle.idx → t.bookingAt j = s.bookingAt j)) ∧
    (∀ b c tl, s.timelineOf r = b :: tl → b.state = .inUse → b.timer = some c → c < s.bank.channels.length →
      (s.channel c).mode = .watch → (s.channel c).state = .running ∨ (s.channel c).state = .paused →
      (s.room r).absenceLimit ≠ 0 →
      (occupied = true → ∃ t, exec (.occupancyReading r occupied sec) s = .next t ∧ t.dir = s.dir ∧
        t.channel c = { s.channel c with state := .paused } ∧ (∀ d, d ≠ c → t.channel d = s.channel d)) ∧
      (occupied = false → sec < (s.room r).absenceLimit * 60 →
        ∃ t, exec (.occupancyReading r occupied sec) s = .next t ∧ t.dir = s.dir ∧
          t.channel c = { s.channel c with state := .running, remaining := (s.room r).absenceLimit * 60 - sec } ∧
          (∀ d, d ≠ c → t.channel d = s.channel d)) ∧
      (occupied = false → (s.room r).absenceLimit * 60 ≤ sec → (s.channel c).booking = some b.handle →
        s.lookup b.handle = .found b → ∃ t x, exec (.occupancyReading r occupied sec) s = .next t ∧
          t.bookingAt b.handle.idx = some x ∧ x.state = .endedEarly ∧ x.mark = true ∧
          (t.channel c).state = .free))

/-- R97, R98: when a room's panel stops being available every RUNNING or PAUSED channel of a booking of that room becomes
SUSPENDED with its remaining kept, and no other channel changes; when it becomes available a SUSPENDED WATCH of the room is
PAUSED and a SUSPENDED WINDOW with time left is RUNNING for the lesser of the kept time and the time to the end. -/
def Obligations.ChannelsFollowThePanel : Prop :=
  ∀ (s : State) (r : Nat), s.bank.channels.length = 256 →
    (∃ t, exec (.panelUnavailable r) s = .next t ∧ t.dir = s.dir ∧ t.rooms = s.rooms ∧
      ∀ c, c < 256 →
        ((∃ b, s.channelBookingIn c r = some b) → (s.channel c).state = .running ∨ (s.channel c).state = .paused →
          t.channel c = { s.channel c with state := .suspended }) ∧
        (s.channelBookingIn c r = none ∨ (s.channel c).state = .free ∨ (s.channel c).state = .suspended →
          t.channel c = s.channel c)) ∧
    ((∀ c b, c < 256 → s.channelBookingIn c r = some b → (s.channel c).state = .suspended → (s.channel c).mode = .window →
        0 < (s.channel c).remaining ∧ 0 < s.secondsTo b.endMin) →
      ∃ t, exec (.panelAvailable r) s = .next t ∧ t.dir = s.dir ∧ t.rooms = s.rooms ∧
        ∀ c b, c < 256 → s.channelBookingIn c r = some b → (s.channel c).state = .suspended →
          ((s.channel c).mode = .watch → t.channel c = { s.channel c with state := .paused }) ∧
          ((s.channel c).mode = .window → t.channel c = { s.channel c with
            state := .running, remaining := min (s.channel c).remaining ((b.endMin - s.clock.minute) * 60 - s.clock.second) }))


/-! ### Readings -/

/-- R5, R9, R18, R25, R31, R46, R47, R68, R84, R101, R107, R153, R167, R187: the readings answer what their rules list and
change no state, in every run state and during the catch-up walk. An index out of range is BAD_FIELD; a room or kitchen out
of its table and a day not held are NO_SUCH. READ_BOOKING gives the four outcomes of the lookup; READ_SERIES answers a live
series with its reference count and where its cancel pass stands; LIST_ROOM answers the first entries whose end is after the
from minute, up to 12 or the count asked, and whether more follow. Encodings as R188 gives them, and by log 23 where it
leaves one open. That READ_BOOKING and LIST_ROOM answer the rounding and TIGHT marks as no is log 25, pass_owed given once is
log 45, which missed days READ_RETENTION gives is log 52, and that it gives them all, however long the answer, with its position in 2
bytes is log 57: the model's choices. -/
def Obligations.ReadingsAnswerAndChangeNothing : Prop :=
  ∀ (s s1 : State) (ref : HostRef) (tag : Byte),
    (s.taken (.readTime tag) = some (s1, ref) → exec (.readTime tag) s = .next (s1.answered ref .ok
      [.num 4 (some s1.clock.minute), .num 1 (some s1.clock.second), .num 1 (some s1.clock.state.code),
        .num 1 (some (if s1.clock.state = .stopped then 0 else 1)), .num 1 (some s1.clock.timeSet.toNat),
        .num 4 s1.clock.dayRaised, .num 4 (some s1.clock.timeFloor)])) ∧
    (s.taken (.readStore tag) = some (s1, ref) →
      ∃ entry series : Option Nat,
        exec (.readStore tag) s = .next (s1.answered ref .ok
          [.num 2 (some s1.store.freeCount), .signed 4 ((s1.store.freeCount : Int) - 64), .num 2 (some s1.dir.fifo.length),
            .num 2 (some (s1.dir.entries.filter fun e => e.booking.isSome).length), .num 2 (some s1.store.heldHead),
            .num 2 (some s1.store.heldNote), .num 2 (some s1.store.heldOrder), .num 2 (some s1.store.heldSeries),
            .num 1 (some (if s1.store.freeCount < 512 then 1 else 0)), .num 1 (some s1.store.walk.isSome.toNat),
            .num 4 (s1.store.walk.map RetirementWalk.day), .num 2 entry, .num 2 series, .num 4 s1.store.pendingDay,
            .num 4 s1.store.lastDay]) ∧
        (∀ w, s1.store.walk = some w → (∀ n, w.pos = .entry n ↔ entry = some n) ∧ (∀ n, w.pos = .series n ↔ series = some n)) ∧
        (s1.store.walk = none → entry = none ∧ series = none)) ∧
    (∀ h, s.taken (.readBooking tag h) = some (s1, ref) →
      (8191 < h.idx → exec (.readBooking tag h) s = .next (s1.answered ref .badField [])) ∧
      (h.idx ≤ 8191 → s1.bookingAt h.idx = none → exec (.readBooking tag h) s = .next (s1.answered ref .noSuch [])) ∧
      (∀ b, h.idx ≤ 8191 → s1.bookingAt h.idx = some b →
        ((s1.dir.entries.getD h.idx ⟨0, none⟩).generation ≠ h.gen →
          exec (.readBooking tag h) s = .next (s1.answered ref .stale [])) ∧
        ((s1.dir.entries.getD h.idx ⟨0, none⟩).generation = h.gen →
          exec (.readBooking tag h) s = .next (s1.answered ref .ok (s1.bookingFields b false false false))))) ∧
    (∀ id, s.taken (.readSeries tag id) = some (s1, ref) →
      (1023 < id → exec (.readSeries tag id) s = .next (s1.answered ref .badField [])) ∧
      (id ≤ 1023 → s1.seriesAt id = none → exec (.readSeries tag id) s = .next (s1.answered ref .noSuch [])) ∧
      (∀ x, id ≤ 1023 → s1.seriesAt id = some x → ∃ head note : List Field,
        head = [.num 2 (some id), .num 2 (some x.room), .num 4 (some x.firstStart), .num 2 (some x.length),
          .num 1 (some x.period), .num 1 (some x.count), .num 2 (some x.headCount), .num 4 (some x.organiser.toNat)] ∧
        (∀ n, x.note = some n → note = [.text n.text]) ∧ (x.note = none → note = [.num 1 none]) ∧
        exec (.readSeries tag id) s = .next (s1.answered ref .ok (head ++ templateFields x.template ++ (note ++
          [.num 4 (some x.nextStart), .num 1 (some x.state.code), .num 1 (some x.noShows), .num 1 (some x.threshold),
            .num 1 (some x.skipCount), .num 1 (some x.mark.toNat), .num 1 (some x.passOwed.toNat),
            .num 2 (some (s1.dir.refs.getD id 0)),
            .num 2 (s1.series.pass.bind fun p => if p.series = id then some p.entry else none),
            .num 2 (s1.series.passQueue.findIdx? (· = id))]))))) ∧
    (∀ r fromMin count, s.taken (.listRoom tag r fromMin count) = some (s1, ref) →
      (511 < r → exec (.listRoom tag r fromMin count) s = .next (s1.answered ref .badField [])) ∧
      (r ≤ 511 → (s1.room r).inTable = false →
        exec (.listRoom tag r fromMin count) s = .next (s1.answered ref .noSuch [])) ∧
      (r ≤ 511 → (s1.room r).inTable = true → ∃ (n : Nat) (shown rest : List Booking),
        shown ++ rest = (s1.timelineOf r).filter (fun b => fromMin.getD s1.clock.minute < b.endMin) ∧
        shown.length ≤ n ∧ (rest ≠ [] → shown.length = n) ∧ n ≤ 12 ∧
        (count = none ∨ count = some 0 → n = 12) ∧ (∀ k, count = some k → 1 ≤ k → k ≤ 12 → n = k) ∧
        (∀ k, count = some k → 12 ≤ k → n = 12) ∧
        exec (.listRoom tag r fromMin count) s = .next (s1.answered ref .ok
          ([.num 1 (some (s1.room r).service.code)] ++ closureFields (s1.room r).closure ++
            [.num 1 (some (s1.room r).turnover), .num 2 (some (s1.room r).timeline.length)] ++
            listField (fun b => bookingHead b false false ++ [orderStateField b.order]) shown ++
            [.num 1 (some (if rest = [] then 0 else 1))])))) ∧
    (∀ r, s.taken (.readRoom tag r) = some (s1, ref) →
      (511 < r → exec (.readRoom tag r) s = .next (s1.answered ref .badField [])) ∧
      (r ≤ 511 → (s1.room r).inTable = false → exec (.readRoom tag r) s = .next (s1.answered ref .noSuch [])) ∧
      (r ≤ 511 → (s1.room r).inTable = true →
        exec (.readRoom tag r) s = .next (s1.answered ref .ok (s1.room r).fields))) ∧
    (∀ k, s.taken (.readKitchen tag k) = some (s1, ref) →
      (7 < k → exec (.readKitchen tag k) s = .next (s1.answered ref .badField [])) ∧
      (k ≤ 7 → (s1.kitchen k).inTable = false → exec (.readKitchen tag k) s = .next (s1.answered ref .noSuch [])) ∧
      (k ≤ 7 → (s1.kitchen k).inTable = true →
        exec (.readKitchen tag k) s = .next (s1.answered ref .ok (s1.kitchen k).fields))) ∧
    (∀ p, s.taken (.readPanel tag p) = some (s1, ref) →
      (127 < p → exec (.readPanel tag p) s = .next (s1.answered ref .badField [])) ∧
      (p ≤ 127 → exec (.readPanel tag p) s = .next (s1.answered ref .ok (s1.panelFields p)))) ∧
    (∀ k day w count, s.taken (.readLoad tag k day w count) = some (s1, ref) →
      (7 < k ∨ 95 < w → exec (.readLoad tag k day w count) s = .next (s1.answered ref .badField [])) ∧
      (k ≤ 7 → w ≤ 95 → s1.held day = false →
        exec (.readLoad tag k day w count) s = .next (s1.answered ref .noSuch [])) ∧
      (k ≤ 7 → w ≤ 95 → s1.held day = true → ∃ n, n ≤ 96 - w ∧ (count = none ∨ count = some 0 → n = 96 - w) ∧
        (∀ c, count = some c → 1 ≤ c → n = min c (96 - w)) ∧
        exec (.readLoad tag k day w count) s = .next (s1.answered ref .ok
          (listField (fun v => [u16 (s1.load k ⟨day, v⟩), u16 (s1.capacity k v)]) (upFrom w n) ++
            [.num 4 s1.catering.horizon, u16 s1.catering.requestList.length, u16 s1.catering.commitQueue.length])))) ∧
    (s.taken (.readTimers tag) = some (s1, ref) → exec (.readTimers tag) s = .next (s1.answered ref .ok
      ([u16 (s1.bank.channels.countP fun c => c.state = .free), u16 (s1.bank.channels.countP fun c => c.state = .running),
        u16 (s1.bank.channels.countP fun c => c.state = .paused),
        u16 (s1.bank.channels.countP fun c => c.state = .suspended), u8 s1.bank.timerCount] ++
        listField (fun c => [.num 1 (some c), .num 1 (some (s1.channel c).mode.code), .num 1 (some (s1.channel c).state.code),
          .handle (s1.channel c).booking, .num 4 (some (s1.channel c).remaining),
          .num 2 (((s1.channel c).booking.bind s1.find).map Booking.room)]) ((upFrom 0 256).filter fun c => (s1.channel c).state ≠ .free)))) ∧
    (s.taken (.readRetention tag) = some (s1, ref) →
      ∃ walk : List Field, exec (.readRetention tag) s = .next (s1.answered ref .ok
        ([u8 (if s1.retention = .good then 0 else 1), flagField s1.catchUpOwed, .num 4 s1.missedDayStart] ++ walk)) ∧
        (s1.catchUp = none → walk = [.num 1 none, .num 2 none, .num 4 none, .num 2 none]) ∧
        (∀ c, s1.catchUp = some c → walk = [u8 c.stage.code, u16 c.pos, minuteField c.minute, u16 c.missed.length] ++
          c.missed.map minuteField)) ∧
    (s.taken (.readPlacement tag) = some (s1, ref) →
      ∃ engine : List Field, exec (.readPlacement tag) s = .next (s1.answered ref .ok
        ([u8 s1.placement.general, u8 (s1.placement.queue.countP fun e => e.kind = .sweep)] ++
          listField (fun e => [u8 e.kind.code, clientField e.client, flagField e.isRunning]) s1.placement.queue ++ engine)) ∧
        (s1.placement.search = none → engine = [flagField false, .num 1 none, .num 2 none, .num 2 none, .num 1 none,
          .num 2 none]) ∧
        (∀ x, s1.placement.search = some x → engine = [flagField true, u8 x.level] ++ listField (fun i => [u8 i]) x.dropped ++
          [u16 x.cursor, u8 x.candidates.length, u16 x.eligible])) ∧
    (s.taken (.readSweep tag) = some (s1, ref) →
      ∃ context closure : List Field, exec (.readSweep tag) s = .next (s1.answered ref .ok (context ++
        [.handle (s1.sweep.current.map Prod.fst), .num 1 (s1.sweep.current.map fun p => p.2.code), u16 s1.sweep.relocated,
          u16 s1.sweep.displaced, u16 s1.sweep.left, .handle s1.sweep.clamp] ++ closure)) ∧
        (s1.sweep.sweeping = false → context = [flagField false, .num 2 none, .num 1 none, .num 1 none] ∧
          closure = closureFields none ++ [.num 2 none]) ∧
        (s1.sweep.sweeping = true →
          (∀ r, s1.sweep.origin = .host r → context = [flagField true, u16 s1.sweep.room, u8 0, u8 r.tag.toNat]) ∧
          (s1.sweep.origin = .resumed → context = [flagField true, u16 s1.sweep.room, u8 1, .num 1 none]) ∧
          (∀ c, (s1.room s1.sweep.room).closure = some c → closure = closureFields (some c) ++
            [u16 ((s1.timelineOf s1.sweep.room).countP fun b => b.startMin < c.toMin && c.fromMin < b.endMin)])))

/-! ### Chapter 7: panel buses -/

/-- R103 to R106: binding, unbinding, barring and unbarring a panel and setting its poll exponent, each by the
conditions of its rule: a refusal changes nothing; a bound panel is BOUND, due at once and holds its room's view or
its kitchen's list; an UNBIND during the panel's own transaction and a BAR during any transaction of its port wait as
a hold with the answer place kept, and the hold takes effect, with its answer, when the port is IDLE. That WAIT is tested
before the panel index is log 40, and that BAR leaves a slot its result is log 59: the model's choices. -/
def Obligations.PanelsBoundUnboundAndBarred : Prop :=
  (∀ (s s1 : State) (ref : HostRef) (tag : Byte) (p kind target : Nat),
      s.taken (.bindPanel tag p kind target) = some (s1, ref) →
      (s1.catching = true → exec (.bindPanel tag p kind target) s = .next (s1.answered ref .wait [])) ∧
      (s1.catching = false →
        (127 < p ∨ 1 < kind ∨ kind = 0 ∧ 511 < target ∨ kind = 1 ∧ 7 < target →
          exec (.bindPanel tag p kind target) s = .next (s1.answered ref .badField [])) ∧
        (p ≤ 127 → kind = 0 → target ≤ 511 →
          ((s1.room target).inTable = false → exec (.bindPanel tag p kind target) s = .next (s1.answered ref .noSuch [])) ∧
          ((s1.room target).inTable = true → (s1.panel p).state ≠ .unbound ∨ (s1.room target).panel ≠ none →
            exec (.bindPanel tag p kind target) s = .next (s1.answered ref .badState [])) ∧
          ((s1.room target).inTable = true → (s1.panel p).state = .unbound → (s1.room target).panel = none →
            p < s1.panelBus.panels.length → target < s1.rooms.length →
            ∃ t, exec (.bindPanel tag p kind target) s = .next t ∧ (t.panel p).kind = some .room ∧
              (t.panel p).boundTo = some target ∧ (t.panel p).state = .bound ∧ (t.panel p).misses = 0 ∧
              (t.panel p).sincePoll = (s1.panel p).interval ∧ (t.panel p).ackedSeq = none ∧ (t.panel p).slot = .empty ∧
              (t.panel p).pollExp = (s1.panel p).pollExp ∧ (t.panel p).active = some (.view (s1.buildView target)) ∧
              ((s1.panel p).active = none → (t.panel p).viewSeq = ((s1.panel p).viewSeq + 1) % 256) ∧
              t.room target = { s1.room target with panel := some p } ∧ (∀ r, r ≠ target → t.room r = s1.room r) ∧
              (∀ q, q ≠ p → t.panel q = s1.panel q) ∧ t.link = (s1.answer ref .ok []).link)) ∧
        (p ≤ 127 → kind = 1 → target ≤ 7 → (s1.kitchen target).inTable = true → (s1.panel p).state = .unbound →
          (2 ≤ (s1.kitchen target).terminals.length →
            exec (.bindPanel tag p kind target) s = .next (s1.answered ref .badState [])) ∧
          ((s1.kitchen target).terminals.length < 2 → p < s1.panelBus.panels.length → target < s1.kitchens.length →
            ∃ t, exec (.bindPanel tag p kind target) s = .next t ∧ (t.panel p).kind = some .kitchen ∧
              (t.panel p).boundTo = some target ∧ (t.panel p).state = .bound ∧
              (t.panel p).active = some (.list (s1.kitchenList target)) ∧
              (t.panel p).viewSeq = (s1.kitchen target).listSeq ∧
              t.kitchen target = { s1.kitchen target with terminals := (s1.kitchen target).terminals ++ [p] } ∧
              (∀ q, q ≠ p → t.panel q = s1.panel q) ∧ t.link = (s1.answer ref .ok []).link)))) ∧
  (∀ (s s1 : State) (ref : HostRef) (tag : Byte) (p : Nat), p < s1.panelBus.panels.length → p ≤ 127 →
      (s.taken (.unbind tag p) = some (s1, ref) →
        (s1.catching = true → exec (.unbind tag p) s = .next (s1.answered ref .wait [])) ∧
        (s1.catching = false →
          ((s1.panel p).state = .unbound → exec (.unbind tag p) s = .next (s1.answered ref .already [])) ∧
          ((s1.panel p).state ≠ .unbound →
            ((s1.panel p).hold.isSome = true → exec (.unbind tag p) s = .next (s1.answered ref .busy [])) ∧
            ((s1.panel p).hold = none →
              ((s1.port (p / 32)).phase ≠ .idle → (s1.port (p / 32)).panel = p → exec (.unbind tag p) s = .next
                (s1.modPanel p fun x => { x with hold := some ⟨.unbind, ref⟩ }).followAttn) ∧
              ((s1.port (p / 32)).phase = .idle ∨ (s1.port (p / 32)).panel ≠ p →
                ∃ t, exec (.unbind tag p) s = .next t ∧ (t.panel p).kind = none ∧ (t.panel p).boundTo = none ∧
                  (t.panel p).state = .unbound ∧ (t.panel p).active = none ∧ (t.panel p).staging = none ∧
                  (t.panel p).slot = .empty ∧ (t.panel p).hold = none ∧ (t.panel p).misses = 0 ∧
                  (t.panel p).missed = (s1.panel p).missed ∧ (t.panel p).mark = (s1.panel p).mark ∧
                  (∀ r, (s1.panel p).kind = some .room → (s1.panel p).boundTo = some r →
                    (t.room r).panel = none ∧ .panelUnavailable r ∈ t.handed) ∧
                  (∀ k, (s1.panel p).kind = some .kitchen → (s1.panel p).boundTo = some k →
                    (t.kitchen k).terminals = (s1.kitchen k).terminals.filter fun q => q ≠ p) ∧
                  (∀ n, (s1.panel p).slot = .pending n → .withdrawal p n ∈ t.handed) ∧
                  (∀ q, q ≠ p → t.panel q = s1.panel q) ∧ t.link = (s1.answer ref .ok []).link))))) ∧
      (s.taken (.bar tag p) = some (s1, ref) →
        ((s1.panel p).state = .unbound → exec (.bar tag p) s = .next (s1.answered ref .badState [])) ∧
        ((s1.panel p).state = .barred → exec (.bar tag p) s = .next (s1.answered ref .already [])) ∧
        ((s1.panel p).state ≠ .unbound → (s1.panel p).state ≠ .barred →
          ((s1.panel p).hold.isSome = true → exec (.bar tag p) s = .next (s1.answered ref .busy [])) ∧
          ((s1.panel p).hold = none →
            ((s1.port (p / 32)).phase ≠ .idle → exec (.bar tag p) s = .next
              (s1.modPanel p fun x => { x with hold := some ⟨.bar, ref⟩ }).followAttn) ∧
            ((s1.port (p / 32)).phase = .idle → ∃ t, exec (.bar tag p) s = .next t ∧
              t.panel p = { s1.panel p with
                state := .barred, misses := 0, ackedSeq := none, hold := none, slot := (t.panel p).slot } ∧
              (∀ n, (s1.panel p).slot = .pending n → (t.panel p).slot = .empty ∧ .withdrawal p n ∈ t.handed) ∧
              ((∀ n, (s1.panel p).slot ≠ .pending n) → (t.panel p).slot = (s1.panel p).slot) ∧
              (∀ r, (s1.panel p).kind = some .room → (s1.panel p).boundTo = some r → .panelUnavailable r ∈ t.handed) ∧
              (∀ q, q ≠ p → t.panel q = s1.panel q) ∧ t.rooms = s1.rooms ∧ t.link = (s1.answer ref .ok []).link)))) ∧
      (s.taken (.unbar tag p) = some (s1, ref) → s1.catching = false →
        ((s1.panel p).state ≠ .barred → exec (.unbar tag p) s = .next (s1.answered ref .badState [])) ∧
        ((s1.panel p).state = .barred → exec (.unbar tag p) s = .next
          ((s1.modPanel p fun x => { x with state := .bound, misses := 0, sincePoll := x.interval }).answered ref .ok []))) ∧
      (∀ e, s.taken (.setPoll tag p e) = some (s1, ref) → s1.catching = false →
        ∃ n, exec (.setPoll tag p e) s = .next
          ((s1.modPanel p fun x => { x with pollExp := min e 5 }).answered ref .ok
            [u8 (min e 5), flagField (5 < e), u8 n]) ∧
          ((s1.panel p).power = .normal → n = 2 ^ min e 5) ∧
          ((s1.panel p).power ≠ .normal → n = 2 ^ max (min e 5) 4))) ∧
  (∀ (s : State) (p : Nat) (h : Hold), (s.panel p).hold = some h → p < s.panelBus.panels.length →
      ((s.port (p / 32)).phase ≠ .idle → exec (.holdTakesEffect p) s = .next s) ∧
      ((s.port (p / 32)).phase = .idle → ∃ t, exec (.holdTakesEffect p) s = .next t ∧ (t.panel p).hold = none ∧
        (h.kind = .unbind → (t.panel p).state = .unbound ∧ (t.panel p).boundTo = none) ∧
        (h.kind = .bar → (t.panel p).state = .barred ∧ (t.panel p).boundTo = (s.panel p).boundTo) ∧
        (∀ q, q ≠ p → t.panel q = s.panel q) ∧ t.link = (s.answer h.ref .ok []).link))

/-- R102, R108 to R112: a second raises since_poll and since_view of every panel. A POLL goes out on an idle port with no hold,
to the due panel furthest behind, a tie to the lower index, and restarts its since_poll. A valid REPLY makes its panel ONLINE,
takes its acknowledgement, battery, reading and request; without a request the follow-up is decided, and a follow-up's REPLY
ends the transaction, one with a request when its owner has answered (R111). A REPLY to a POLL that finds acked_seq UNKNOWN is
followed by the view whatever sequence it reports (R105, R112, R117, R121); the REPLY to a follow-up ends what UNKNOWN forces,
and a timeout does not. A timeout is a miss: the panel grows LATE and, at the third, LOST. A discarded frame changes nothing.
The model's choices: that no POLL begins on a port while a panel of it has a hold (log 29), that UNKNOWN outweighs R110 step 3
where the report is view_seq (log 60), and that a request's follow-up leaves in its owner's step with the contents that stand
there (log 61). -/
def Obligations.PanelsPolledAndAnswered : Prop :=
  (∀ s : State, ∃ t, exec .panelSecond s = .next t ∧
      (∀ p, p < s.panelBus.panels.length → t.panel p = { s.panel p with
        sincePoll := min ((s.panel p).sincePoll + 1) 65535, sinceView := min ((s.panel p).sinceView + 1) 65535 }) ∧
      t = { s with panelBus := { s.panelBus with panels := t.panelBus.panels }, attn := t.attn }) ∧
  (∀ (s : State) (port : Nat), port < 4 → port < s.panelBus.ports.length → (s.port port).phase = .idle →
      ((∀ q, q / 32 = port → (s.panel q).due = false) → exec (.poll port) s = .next s) ∧
      ((∃ q, q / 32 = port ∧ (s.panel q).hold ≠ none) → exec (.poll port) s = .next s) ∧
      (∀ p, p / 32 = port → p < s.panelBus.panels.length → (∀ q, q / 32 = port → (s.panel q).hold = none) →
        (s.panel p).due = true →
        (∀ q, q / 32 = port → (s.panel q).due = true → q ≠ p →
          (s.panel q).sincePoll - (s.panel q).interval < (s.panel p).sincePoll - (s.panel p).interval ∨
          (s.panel q).sincePoll - (s.panel q).interval = (s.panel p).sincePoll - (s.panel p).interval ∧ p < q) →
        ∃ t, exec (.poll port) s = .next t ∧ t.panel p = { s.panel p with sincePoll := 0 } ∧
          t.port port =
            ⟨.polling, p, (s.panel p).result.isSome, false, pollFrame p (s.panel p).viewSeq (s.panel p).result⟩ ∧
          (∀ q, q ≠ p → t.panel q = s.panel q) ∧ (∀ q, q ≠ port → t.port q = s.port q) ∧
          t = { s with panelBus := { s.panelBus with panels := t.panelBus.panels, ports := t.panelBus.ports }
                       attn := t.attn })) ∧
  (∀ (s : State) (port p : Nat) (frame : List Byte), port < s.panelBus.ports.length → p < s.panelBus.panels.length →
      (s.port port).panel = p →
      (∀ r, validReply p frame = some r → ∀ c, c = .reply port frame ∧ (s.port port).phase = .polling ∨
          c = .followUpReply port frame ∧ (s.port port).phase = .following →
        ∃ t, exec c s = .next t ∧ (t.panel p).state = .online ∧ (t.panel p).misses = 0 ∧ (t.panel p).sincePoll = 0 ∧
          (t.panel p).ackedSeq = some r.acked ∧ (t.panel p).battery = min r.battery 100 ∧
          ((s.port port).phase = .following → (t.panel p).viewForced = false) ∧
          ((s.port port).phase = .polling → (s.panel p).ackedSeq = none ∨ (s.panel p).viewForced = true →
            (t.panel p).viewForced = true ∧
            (r.code = 0 → (s.panel p).active ≠ none → (t.port port).phase = .following ∧ (t.port port).panel = p ∧
              ∃ c, (t.panel p).active = some c ∧
                (t.port port).sent = contentFrame p (t.panel p).viewSeq c (t.panel p).result)) ∧
          ((s.port port).phase = .polling → (s.panel p).ackedSeq ≠ none → (s.panel p).viewForced = false →
            (t.panel p).viewForced = false) ∧
          ((s.port port).carried = true → r.code = 0 → (t.panel p).slot = .empty) ∧
          (∀ room, (s.panel p).kind = some .room → (s.panel p).boundTo = some room →
            (r.occupancy = 0 → .occupancyReading room false r.seconds ∈ t.handed) ∧
            (r.occupancy = 1 → .occupancyReading room true r.seconds ∈ t.handed) ∧
            ((s.panel p).state = .lost ∨ (s.panel p).state = .bound → .panelAvailable room ∈ t.handed)) ∧
          ((s.panel p).state = .lost → (t.panel p).mark = true ∧ t.notice.panel = ⟨true, false⟩) ∧
          (r.code = 0 → ((s.port port).phase = .following → (t.port port).phase = .idle) ∧
            ((s.port port).phase = .polling → (t.port port).phase =
              if (t.panel p).active.isSome = true ∧ (t.panel p).owesFollowUp = true then .following else .idle)) ∧
          (∀ q, r.code ≠ 0 → panelCommand ⟨p, ((s.panel p).kind).getD .room, ((s.panel p).boundTo).getD 0⟩ r.code r.fields =
            some q → q ∈ t.handed ∧ (t.panel p).slot = .empty ∧ (t.port port).phase = .serving ∧ (t.port port).panel = p ∧
              ((s.port port).phase = .following → (t.port port).followed = true) ∧
              ((s.port port).phase = .polling → (t.port port).followed = (s.port port).followed)) ∧
          (r.code ≠ 0 → panelCommand ⟨p, ((s.panel p).kind).getD .room, ((s.panel p).boundTo).getD 0⟩ r.code r.fields =
            none → (t.panel p).slot = .result ⟨r.code, .badField, []⟩ ∧
              ((s.port port).phase = .following → (t.port port).phase = .idle)) ∧
          (∀ q, q ≠ p → t.panel q = s.panel q) ∧ t.rooms = s.rooms ∧ t.dir = s.dir ∧ t.link = s.link) ∧
      ((s.port port).phase = .polling ∨ (s.port port).phase = .following →
        ∃ t, exec (.replyTimeout port) s = .next t ∧ (t.port port).phase = .idle ∧
          (t.panel p).missed = min ((s.panel p).missed + 1) 255 ∧ (t.panel p).viewForced = (s.panel p).viewForced ∧
          ((s.panel p).state = .online → (t.panel p).state = .late ∧ (t.panel p).misses = 1) ∧
          ((s.panel p).state = .bound ∨ (s.panel p).state = .late →
            ((s.panel p).misses + 1 < 3 → (t.panel p).state = (s.panel p).state ∧
              (t.panel p).misses = (s.panel p).misses + 1) ∧
            (3 ≤ (s.panel p).misses + 1 → (t.panel p).state = .lost ∧ (t.panel p).misses = 3 ∧ (t.panel p).ackedSeq = none ∧
              (t.panel p).mark = true ∧ t.notice.panel = ⟨true, false⟩)) ∧
          (∀ room, (s.panel p).state = .late → 3 ≤ (s.panel p).misses + 1 → (s.panel p).kind = some .room →
            (s.panel p).boundTo = some room → .panelUnavailable room ∈ t.handed) ∧
          ((s.panel p).state = .lost → (t.panel p).state = .lost) ∧ (∀ q, q ≠ p → t.panel q = s.panel q)) ∧
      exec (.frameDiscarded port frame) s = .next s) ∧
  (∀ (s : State) (p code : Nat) (a : PanelAnswer), p < s.panelBus.panels.length → p / 32 < s.panelBus.ports.length →
      (s.port (p / 32)).phase = .serving → (s.port (p / 32)).panel = p →
      ((∃ c ∈ s.handed, isRequestOf p c = true) → ((s.answerPanel p code a).port (p / 32)).phase = .serving) ∧
      ((∀ c ∈ s.handed, isRequestOf p c = false) →
        ((s.port (p / 32)).followed = true → ((s.answerPanel p code a).port (p / 32)).phase = .idle) ∧
        ((s.port (p / 32)).followed = false → ((s.answerPanel p code a).port (p / 32)).phase =
          if ((s.answerPanel p code a).panel p).active.isSome = true ∧
            ((s.answerPanel p code a).panel p).owesFollowUp = true then .following else .idle) ∧
        (∀ c, (s.port (p / 32)).followed = false → (s.panel p).active = some c →
          (s.panel p).ackedSeq ≠ some (s.panel p).viewSeq ∨ (s.panel p).viewForced = true →
          ((s.answerPanel p code a).port (p / 32)).phase = .following ∧
          ((s.answerPanel p code a).port (p / 32)).sent =
            contentFrame p (s.panel p).viewSeq c ((s.answerPanel p code a).panel p).result)))

/-- R116, R118, R120, R144: a view holds the room's service and closure, the first timeline entry when it is AWAITING or IN_USE
as current, the up to three entries after it, and without a current one in an IN_SERVICE room the free-until minute of R81. A
room's report builds its panel's view anew unless it equals the active one; in SAVING a change of
the later entries alone waits, in CRITICAL every change but that of the current entry waits, and a waiting view in SAVING is
built after 900 seconds. A kitchen's report puts its list with its list_seq into each of its terminals. A step that changed
a kitchen's list raises its list_seq once and reports it. A next start less the turnover below minute 0 is minute 0 by log 47:
the model's choice. -/
def Obligations.ViewsAndListsBuilt : Prop :=
  (∀ (s : State) (r p : Nat) (v : View), v = s.buildView r →
      v.service = (s.room r).service ∧ v.closure = (s.room r).closure ∧
      (∀ entry : Booking → ViewEntry,
        (∀ b, entry b = ⟨b.handle, b.startMin, b.endMin, b.state, (b.note.map Note.text).getD []⟩) →
        (s.timelineOf r = [] → v.current = none ∧ v.following = []) ∧
        (∀ b tl, s.timelineOf r = b :: tl →
          (b.state = .awaiting ∨ b.state = .inUse → v.current = some (entry b) ∧ v.following = (tl.take 3).map entry) ∧
          (b.state ≠ .awaiting → b.state ≠ .inUse → v.current = none ∧ v.following = ((b :: tl).take 3).map entry))) ∧
      (v.current ≠ none ∨ (s.room r).service ≠ .inService → v.freeUntil = none) ∧
      (∀ later ahead : Option Nat, v.current = none → (s.room r).service = .inService →
        later = ((s.timelineOf r).find? fun b => s.clock.minute < b.startMin).map (fun b =>
          b.startMin - (s.room r).turnover) →
        (∀ m, ahead = some m ↔ ∃ c, (s.room r).closure = some c ∧ s.clock.minute < c.fromMin ∧ m = c.fromMin) →
        (later = none → v.freeUntil = ahead) ∧ (ahead = none → v.freeUntil = later) ∧
        (∀ x y, later = some x → ahead = some y → v.freeUntil = some (min x y))) ∧
      ((s.room r).panel = none → exec (.viewBuild r) s = .next
        ({ s with panelBus := { s.panelBus with viewReports := s.panelBus.viewReports.erase r } }).followAttn) ∧
      ((s.room r).panel = some p → p < s.panelBus.panels.length → ∃ t, exec (.viewBuild r) s = .next t ∧
        t.panelBus.viewReports = s.panelBus.viewReports.erase r ∧ (∀ q, q ≠ p → t.panel q = s.panel q) ∧
        t = { s with panelBus := { s.panelBus with panels := t.panelBus.panels, viewReports := t.panelBus.viewReports }
                     attn := t.attn } ∧
        ((s.panel p).active = some (.view v) → t.panel p = { s.panel p with staging := none }) ∧
        ((s.panel p).active ≠ some (.view v) →
          ((s.panel p).power = .normal ∨ (∀ old, (s.panel p).active ≠ some (.view old)) ∨
              (∃ old, (s.panel p).active = some (.view old) ∧ old.current ≠ v.current) ∨
              ((s.panel p).power = .saving ∧ ∃ old, (s.panel p).active = some (.view old) ∧
                (old.service ≠ v.service ∨ old.closure ≠ v.closure ∨ old.freeUntil ≠ v.freeUntil ∨
                  old.following.head? ≠ v.following.head?)) →
            t.panel p = { s.panel p with
              active := some (.view v), staging := (s.panel p).active, viewSeq := ((s.panel p).viewSeq + 1) % 256
              sinceView := 0, viewDeferred := false }) ∧
          (∀ old, (s.panel p).active = some (.view old) → old.current = v.current →
            (s.panel p).power = .critical ∨ (s.panel p).power = .saving ∧ old.service = v.service ∧
              old.closure = v.closure ∧ old.freeUntil = v.freeUntil ∧ old.following.head? = v.following.head? →
            t.panel p = { s.panel p with staging := none, viewDeferred := true })))) ∧
  (∀ (s : State) (p r : Nat), p < s.panelBus.panels.length → (s.panel p).kind = some .room → (s.panel p).boundTo = some r →
      (s.panel p).power = .saving → (s.panel p).viewDeferred = true →
      ((s.panel p).sinceView < 900 → exec (.deferredViewBuild p) s = .next s) ∧
      (900 ≤ (s.panel p).sinceView → (s.panel p).active ≠ some (.view (s.buildView r)) →
        exec (.deferredViewBuild p) s = .next (s.modPanel p fun x => { x with
          active := some (.view (s.buildView r)), staging := x.active, viewSeq := (x.viewSeq + 1) % 256, sinceView := 0
          viewDeferred := false }).followAttn)) ∧
  (∀ (s : State) (k : Nat), ∃ t, exec (.listBuild k) s = .next t ∧
      t.panelBus.listReports = s.panelBus.listReports.erase k ∧
      (∀ p ∈ (s.kitchen k).terminals, p < s.panelBus.panels.length →
        (t.panel p).active = some (.list (s.kitchenList k)) ∧ (t.panel p).viewSeq = (s.kitchen k).listSeq ∧
        (t.panel p).sinceView = 0) ∧
      (∀ p, p ∉ (s.kitchen k).terminals → t.panel p = s.panel p) ∧
      t = { s with panelBus := { s.panelBus with panels := t.panelBus.panels, listReports := t.panelBus.listReports }
                   attn := t.attn }) ∧
  (∀ (before s : State) (k : Nat), k < 8 → k < s.kitchens.length → (s.kitchenList k).length ≤ 8 ∧
      (before.kitchenList k = s.kitchenList k → (s.relist before).kitchen k = s.kitchen k) ∧
      (before.kitchenList k ≠ s.kitchenList k →
        (s.relist before).kitchen k = { s.kitchen k with listSeq := ((s.kitchen k).listSeq + 1) % 256 } ∧
        k ∈ (s.relist before).panelBus.listReports))

/-! ### Chapter 8: services at the room -/

/-- R122, R124 to R126: a WALK_UP of a room panel that no condition refuses makes a booking of one head from now to
the grid minute at or before the least of now + wanted, the next start less the turnover, and the from of a closure
ahead; it is EXEMPT, IN_USE, CHECKED, of source WALKUP, and stands on its room's timeline. A closed room answers
CLOSED, a booking in the way CONFLICT, a turnover that still runs and an end less than 15 minutes away NO_TIME, with
no booking changed. The model's choices here: the payloads of the results are laid out by log 24; a CONFLICT names the first
in timeline order of several bookings in the way (log 46); and a next start less the turnover below minute 0 is minute 0
(log 47). -/
def Obligations.WalkUpsMade : Prop :=
  ∀ (s : State) (src : PanelRef) (wanted : Nat) (badge : Id32), s.running = true → s.catching = false → src.kind = .room →
    src.panel < s.panelBus.panels.length → 15 ≤ wanted → wanted ≤ 120 → (s.room src.target).inTable = true →
    ((s.room src.target).closedNow s.clock.minute = true →
      ∃ t, exec (.walkUp src wanted badge) s = .next t ∧ t.dir = s.dir ∧ t.store = s.store ∧
        (t.panel src.panel).slot = .result ⟨2, .closed, [.num 4 ((s.room src.target).closure.map Closure.toMin)]⟩) ∧
    ((s.room src.target).closedNow s.clock.minute = false →
      (∀ b, s.inTheWay src.target s.clock.minute = some b →
        ∃ t, exec (.walkUp src wanted badge) s = .next t ∧ t.dir = s.dir ∧ t.store = s.store ∧
          (t.panel src.panel).slot = .result ⟨2, .conflict, [.handle (some b.handle), .num 4 (some b.endMin)]⟩) ∧
      (∀ m, s.inTheWay src.target s.clock.minute = none → s.turnoverUntil src.target s.clock.minute = some m →
        ∃ t, exec (.walkUp src wanted badge) s = .next t ∧ t.dir = s.dir ∧ t.store = s.store ∧
          (t.panel src.panel).slot = .result ⟨2, .noTime, [.num 4 (some m)]⟩) ∧
      (∀ (i least e : Nat) (rest : List Nat), s.inTheWay src.target s.clock.minute = none →
        s.turnoverUntil src.target s.clock.minute = none → s.dir.fifo = i :: rest → i < s.dir.entries.length →
        src.target < s.rooms.length → 66 ≤ s.store.freeCount → e = least - least % 5 →
        least ≤ s.clock.minute + wanted →
        (∀ b, (s.timelineOf src.target).find? (fun b => s.clock.minute < b.startMin) = some b →
          least ≤ b.startMin - (s.room src.target).turnover) →
        (∀ c, (s.room src.target).closure = some c → s.clock.minute < c.fromMin → least ≤ c.fromMin) →
        (least = s.clock.minute + wanted ∨
          (∃ b, (s.timelineOf src.target).find? (fun b => s.clock.minute < b.startMin) = some b ∧
            least = b.startMin - (s.room src.target).turnover) ∨
          ∃ c, (s.room src.target).closure = some c ∧ s.clock.minute < c.fromMin ∧ least = c.fromMin) →
        (e < s.clock.minute + 15 → ∃ t, exec (.walkUp src wanted badge) s = .next t ∧ t.dir = s.dir ∧ t.store = s.store ∧
          (t.panel src.panel).slot = .result ⟨2, .noTime, [.num 4 (some e)]⟩) ∧
        (s.clock.minute + 15 ≤ e → ∃ t b code, exec (.walkUp src wanted badge) s = .next t ∧ t.bookingAt i = some b ∧
          b.handle = ⟨i, ((s.dir.entries.getD i ⟨0, none⟩).generation + 1) % 256⟩ ∧ b.room = src.target ∧
          b.startMin = s.clock.minute ∧ b.endMin = e ∧ b.headCount = 1 ∧ b.organiser = badge ∧
          b.origin = (s.room src.target).building ∧ b.checkin = .exempt ∧ b.state = .inUse ∧ b.attendance = .checked ∧
          b.source = .walkup ∧ b.series = none ∧ b.order = none ∧ b.note = none ∧ b.mark = false ∧ b.timer = none ∧
          b.handle ∈ (t.room src.target).timeline ∧ t.dir.fifo = rest ∧ t.store.freeCount + 1 = s.store.freeCount ∧
          (∀ j, j ≠ i → t.bookingAt j = s.bookingAt j) ∧ (∀ r, r ≠ src.target → t.room r = s.room r) ∧
          (t.panel src.panel).slot = .result ⟨2, .ok, [.handle (some b.handle), .num 4 (some s.clock.minute),
            .num 4 (some e), .num 1 (some code), .num 1 (some (if e = least then 0 else 1))]⟩)))

/-- R123, R128 to R131: EXTEND gives an IN_USE booking of the panel's room the grid minute at or before the least of
its end with the ask, the next start less the turnover, the from of a closure after its start, and 1,440 minutes from
its start, when that gains 5 minutes or more; END_NOW ends it early at now or at its start. Every other state is
refused as their tables say; only the named booking changes. The model's choices here: the payloads of the results are laid
out by log 24, and a next start less the turnover below minute 0 is minute 0 (log 47). -/
def Obligations.MeetingsExtendAndEndNow : Prop :=
  ∀ (s : State) (src : PanelRef) (h : Handle) (b : Booking), s.running = true → s.catching = false → src.kind = .room →
    src.panel < s.panelBus.panels.length → s.lookup h = .found b → b.handle = h → h.idx < s.dir.entries.length →
    b.room = src.target → b.room < s.rooms.length →
    (∀ ask least e : Nat, ask = 15 ∨ ask = 30 → e = least - least % 5 →
      (b.state = .inUse → least ≤ b.endMin + ask → least ≤ b.startMin + 1440 →
        (∀ x, (s.timelineOf b.room).find? (fun x => b.startMin < x.startMin) = some x →
          least ≤ x.startMin - (s.room b.room).turnover) →
        (∀ c, (s.room b.room).closure = some c → b.startMin ≤ c.fromMin → least ≤ c.fromMin) →
        (least = b.endMin + ask ∨ least = b.startMin + 1440 ∨
          (∃ x, (s.timelineOf b.room).find? (fun x => b.startMin < x.startMin) = some x ∧
            least = x.startMin - (s.room b.room).turnover) ∨
          ∃ c, (s.room b.room).closure = some c ∧ b.startMin ≤ c.fromMin ∧ least = c.fromMin) →
        (e < b.endMin + 5 → ∃ t, exec (.extend src ask (some h)) s = .next t ∧ t.dir = s.dir ∧
          (t.panel src.panel).slot = .result ⟨3, .noTime, [.num 4 (some b.endMin)]⟩) ∧
        (b.endMin + 5 ≤ e → ∃ t code, exec (.extend src ask (some h)) s = .next t ∧
          t.bookingAt h.idx = some { b with endMin := e } ∧ h ∈ (t.room b.room).timeline ∧
          (∀ j, j ≠ h.idx → t.bookingAt j = s.bookingAt j) ∧ t.bank = s.bank ∧ t.store = s.store ∧
          (t.panel src.panel).slot = .result ⟨3, .ok, [.num 4 (some e), .num 1 (some (e - b.endMin)), .num 1 (some code),
            .num 1 (some (if e - b.endMin < ask then 1 else 0))]⟩)) ∧
      (b.state ≠ .inUse → ∃ t st, exec (.extend src ask (some h)) s = .next t ∧ t.dir = s.dir ∧
        (t.panel src.panel).slot = .result ⟨3, st, []⟩ ∧
        (b.state = .booked ∨ b.state = .awaiting → st = .badState) ∧
        (b.state = .ended ∨ b.state = .endedEarly → st = .tooLate) ∧
        (b.state = .released ∨ b.state = .cancelled ∨ b.state = .displaced → st = .noSuch))) ∧
    (b.state = .inUse → ∃ t x, exec (.endNow src (some h)) s = .next t ∧ t.bookingAt h.idx = some x ∧
      x.state = .endedEarly ∧ x.endMin = max s.clock.minute b.startMin ∧ x.startMin = b.startMin ∧ x.mark = true ∧
      x.attendance = b.attendance ∧ x.timer = none ∧ h ∉ (t.room b.room).timeline ∧
      (∀ c, b.timer = some c → c < s.bank.channels.length → (t.channel c).state = .free) ∧
      t.notice.changed = ⟨true, false⟩ ∧ (∀ j, j ≠ h.idx → t.bookingAt j = s.bookingAt j) ∧
      (t.panel src.panel).slot = .result ⟨4, .ok, [.num 4 (some (max s.clock.minute b.startMin))]⟩) ∧
    (b.state ≠ .inUse → ∃ t st, exec (.endNow src (some h)) s = .next t ∧ t.dir = s.dir ∧
      (t.panel src.panel).slot = .result ⟨4, st, []⟩ ∧
      (b.state = .ended ∨ b.state = .endedEarly → st = .already) ∧
      (b.state = .booked ∨ b.state = .awaiting → st = .badState) ∧
      (b.state = .released ∨ b.state = .cancelled ∨ b.state = .displaced → st = .noSuch))

/-! ### Chapter 9: catering -/

/-- R137: an acceptance of the planning computation names a configured kitchen that serves the building, a held window in which
the covers fit the capacity, a ready minute that leaves the reach and the setup time before the start, and a commit minute
that is its lead before and not before now. For a start within the horizon it is the first that fits, kitchens in ascending
reach with ties to the lower index, and in a kitchen the natural window and then the earlier ones up to its spill; there is none
only when no candidate fits. R134, R140: an ORDER of a BOOKED booking without an order takes a block and is
PLANNED there, counted and queued; REQUESTED beyond the horizon; refused CATERING_FULL, NOT_ALLOWED or TOO_LATE with nothing
changed but the STORE flag. -/
def Obligations.OrdersArePlaced : Prop :=
  (∀ (s : State) (now covers start building : Nat) (a : Accept), s.planAt now covers start building = some a →
      ∃ reach, s.serves a.kitchen building = some reach ∧ a.kitchen < 8 ∧ s.held a.window.day = true ∧ a.window.win < 96 ∧
        s.load a.kitchen a.window + covers ≤ s.capacity a.kitchen a.window.win ∧ a.ready + reach + 5 ≤ start ∧
        a.ready / 15 = a.window.day * 96 + a.window.win ∧ a.commit + (s.kitchen a.kitchen).lead = a.ready ∧ now ≤ a.commit) ∧
  (∀ (s : State) (now covers start building : Nat), s.beyond (start / 1440) = false →
      (s.planAt now covers start building = none ↔ ∀ k j, ¬ s.fits now covers start building k j) ∧
      (∀ a, s.planAt now covers start building = some a → ∃ j reach, s.fits now covers start building a.kitchen j ∧
        s.serves a.kitchen building = some reach ∧ a.window = candidateWindow start reach j ∧
        a.ready = candidateReady start reach j ∧ (∀ i < j, ¬ s.fits now covers start building a.kitchen i) ∧
        (∀ k y i, s.serves k building = some y → y < reach ∨ y = reach ∧ k < a.kitchen →
          ¬ s.fits now covers start building k i))) ∧
  (∀ (s s1 : State) (ref : HostRef) (tag : Byte) (h : Handle) (f : OrderForm) (b : Booking),
      s.taken (.order tag h f) = some (s1, ref) → s1.running = true → s1.catching = false → s1.lookup h = .found b →
      b.handle = h → h.idx < s1.dir.entries.length → orderOk f = true → b.order = none →
      (b.state = .awaiting ∨ b.state = .inUse → exec (.order tag h f) s = .next (s1.answered ref .tooLate [])) ∧
      (b.state = .booked → s1.planningScope (b.startMin / 1440) = true →
        exec (.order tag h f) s = .next (s1.answered ref .wait [])) ∧
      (b.state = .booked → s1.planningScope (b.startMin / 1440) = false →
        (s1.store.freeCount < 65 → exec (.order tag h f) s = .next (s1.answered ref .noSpace [])) ∧
        (∀ block rest, s1.store.free = block :: rest → 65 ≤ s1.store.freeCount →
          ((s1.room b.room).foodAllowed = false ∨ s1.beyond (b.startMin / 1440) = false ∧
              s1.planAt s1.clock.minute f.covers b.startMin (s1.room b.room).building = none →
            ∃ t st, exec (.order tag h f) s = .next t ∧ t.link = (s1.answer ref st []).link ∧
              t = { s1 with notice := { s1.notice with store := t.notice.store }, link := t.link, attn := t.attn } ∧
              st = if (s1.room b.room).foodAllowed = true then .cateringFull else .notAllowed) ∧
          ((s1.room b.room).foodAllowed = true → s1.beyond (b.startMin / 1440) = true →
            ∃ t body, exec (.order tag h f) s = .next t ∧ t.bookingAt h.idx = some { b with
                order := some ⟨block, f.covers, f.lines, .requested, none, none, none, none⟩ } ∧
              h ∈ t.catering.requestList ∧ t.catering.loads = s1.catering.loads ∧ t.store.free = rest ∧
              (∀ j, j ≠ h.idx → t.bookingAt j = s1.bookingAt j) ∧ t.link = (s1.answer ref .ok body).link) ∧
          (∀ a, (s1.room b.room).foodAllowed = true → s1.beyond (b.startMin / 1440) = false →
            s1.planAt s1.clock.minute f.covers b.startMin (s1.room b.room).building = some a → s1.loadsShaped = true →
            a.kitchen < s1.kitchens.length →
            ∃ t body, exec (.order tag h f) s = .next t ∧ t.bookingAt h.idx = some { b with
                order := some ⟨block, f.covers, f.lines, .planned, some a.kitchen, some a.window, some a.ready,
                  some a.commit⟩ } ∧
              h ∈ (t.kitchen a.kitchen).dispatch ∧ h ∈ t.catering.commitQueue ∧
              t.load a.kitchen a.window = s1.load a.kitchen a.window + f.covers ∧
              (∀ k w, k ≠ a.kitchen ∨ w ≠ a.window → w.win < 96 → t.load k w = s1.load k w) ∧
              t.store.free = rest ∧ t.store.freeCount + 1 = s1.store.freeCount ∧
              t.store.heldOrder = s1.store.heldOrder + 1 ∧ (∀ j, j ≠ h.idx → t.bookingAt j = s1.bookingAt j) ∧
              t.link = (s1.answer ref .ok body).link))))

/-- R141, R142, R134: CHANGE_ORDER and VOID_ORDER by the state of the order. New contents of a REQUESTED order, and new lines of
a PLANNED one, are stored in place; a re-plan on a day that the planning walk is adding, in a room without food, or for which
no window is found, is refused with nothing changed, and otherwise the order is placed afresh with its new contents; a void
takes the order out of its window and of every queue; later states are TOO_LATE. R149: an AMEND that changes the start or room
of a BOOKED booking plans its REQUESTED, UNPLACED or PLANNED order afresh, or is refused with nothing changed, or with
DROP_CATERING voids it; a COMMITTED or DISPATCHED one refuses the AMEND, or is stranded; any other stays as it is. -/
def Obligations.OrdersChangeAndAreVoided : Prop :=
  (∀ (s s1 : State) (ref : HostRef) (tag : Byte) (f : AmendForm) (b : Booking) (o : Order) (target : Nat) (sp : SpanOut),
    s.taken (.amend tag f) = some (s1, ref) → s1.running = true → s1.catching = false → s1.lookup f.handle = .found b →
    b.handle = f.handle → b.state = .booked → amendFormOk f = true → f.note = none → b.order = some o →
    target = f.room.getD b.room → target < s1.rooms.length → f.handle.idx < s1.dir.entries.length →
    f.startMin.isSome = true ∨ target ≠ b.room → (∀ m, f.startMin = some m → s1.clock.minute ≤ m) →
    amendSpan s1.clock.minute f b = some sp → sp.startMin ≠ b.startMin ∨ target ≠ b.room →
    (s1.room target).inTable = true → (s1.room target).service ≠ .closing →
    (s1.room target).closedFor sp.startMin sp.endMin = false →
    s1.blocker target (some b.handle) sp.startMin sp.endMin = none →
    (sp.startMin ≠ b.startMin → s1.seriesScope (sp.startMin / 1440) = false) →
      (o.state = .committed ∨ o.state = .dispatched → f.dropCatering = false →
        exec (.amend tag f) s = .next (s1.answered ref .tooLate [])) ∧
      (o.state = .requested ∨ o.state = .unplaced ∨ o.state = .planned →
        s1.planningScope (b.startMin / 1440) = true ∨ s1.planningScope (sp.startMin / 1440) = true →
          exec (.amend tag f) s = .next (s1.answered ref .wait [])) ∧
      (∀ fails : Prop,
        (fails ↔ (s1.room target).foodAllowed = false ∨ s1.beyond (sp.startMin / 1440) = false ∧
          (s1.setUncounted b.handle .unplaced none).planAt s1.clock.minute o.covers sp.startMin (s1.room target).building =
            none) →
        (o.state = .requested ∨ o.state = .unplaced ∨ o.state = .planned →
          s1.planningScope (b.startMin / 1440) = false → s1.planningScope (sp.startMin / 1440) = false → fails →
            f.dropCatering = false → exec (.amend tag f) s = .next (s1.answered ref .cateringFull [])) ∧
        (∀ after : Order,
          ((o.state = .voided ∨ o.state = .delivered ∨ o.state = .stranded ∨ o.state = .discarded) ∧ after = o ∨
            (o.state = .committed ∨ o.state = .dispatched) ∧ f.dropCatering = true ∧
              after = { o with state := .stranded } ∨
            (o.state = .requested ∨ o.state = .unplaced ∨ o.state = .planned) ∧
              s1.planningScope (b.startMin / 1440) = false ∧ s1.planningScope (sp.startMin / 1440) = false ∧
              (fails ∧ f.dropCatering = true ∧
                  after = { o with state := .voided, kitchen := none, window := none, ready := none, commit := none } ∨
                ¬ fails ∧ s1.beyond (sp.startMin / 1440) = true ∧
                  after = { o with state := .requested, kitchen := none, window := none, ready := none, commit := none } ∨
                ∃ a, ¬ fails ∧ s1.beyond (sp.startMin / 1440) = false ∧
                  (s1.setUncounted b.handle .unplaced none).planAt s1.clock.minute o.covers sp.startMin
                    (s1.room target).building = some a ∧
                  after = { o with state := .planned, kitchen := some a.kitchen, window := some a.window
                                   ready := some a.ready, commit := some a.commit })) →
          ∃ t body x, exec (.amend tag f) s = .next t ∧ t.bookingAt f.handle.idx = some x ∧ x.order = some after ∧
            x.room = target ∧ x.startMin = sp.startMin ∧ x.endMin = sp.endMin ∧ x.mark = b.mark ∧ x.handle = b.handle ∧
            b.handle ∈ (t.room target).timeline ∧ t.store = s1.store ∧
            (after.state = .requested → b.handle ∈ t.catering.requestList) ∧
            (after.state = .planned → b.handle ∈ t.catering.commitQueue) ∧
            (∀ j, j ≠ f.handle.idx → t.bookingAt j = s1.bookingAt j) ∧ t.link = (s1.answer ref .ok body).link))) ∧
  ∀ (s s1 : State) (ref : HostRef) (tag : Byte) (h : Handle) (b : Booking), s1.running = true → s1.catching = false →
    s1.lookup h = .found b → b.handle = h → h.idx < s1.dir.entries.length →
    (∀ f : OrderForm, s.taken (.changeOrder tag h f) = some (s1, ref) → orderOk f = true →
      (b.order = none → exec (.changeOrder tag h f) s = .next (s1.answered ref .noSuch [])) ∧
      (∀ o, b.order = some o →
        (o.state = .voided → exec (.changeOrder tag h f) s = .next (s1.answered ref .badState [])) ∧
        (o.state = .committed ∨ o.state = .dispatched ∨ o.state = .delivered ∨ o.state = .stranded ∨ o.state = .discarded →
          exec (.changeOrder tag h f) s = .next (s1.answered ref .tooLate [])) ∧
        (o.state = .requested ∨ o.state = .planned ∧ f.covers = o.covers →
          ∃ t body, exec (.changeOrder tag h f) s = .next t ∧
            t.bookingAt h.idx = some { b with order := some { o with covers := f.covers, lines := f.lines } } ∧
            (∀ j, j ≠ h.idx → t.bookingAt j = s1.bookingAt j) ∧ t.catering = s1.catering ∧ t.store = s1.store ∧
            t.link = (s1.answer ref .ok body).link) ∧
        (o.state = .unplaced ∨ o.state = .planned ∧ f.covers ≠ o.covers →
          (s1.planningScope (b.startMin / 1440) = true →
            exec (.changeOrder tag h f) s = .next (s1.answered ref .wait [])) ∧
          (s1.planningScope (b.startMin / 1440) = false →
            ((s1.room b.room).foodAllowed = false →
              exec (.changeOrder tag h f) s = .next (s1.answered ref .notAllowed [])) ∧
            (∀ p : Option Accept,
              p = (s1.setUncounted h .unplaced none).planAt s1.clock.minute f.covers b.startMin (s1.room b.room).building →
              (s1.room b.room).foodAllowed = true →
              (s1.beyond (b.startMin / 1440) = true → ∃ t body, exec (.changeOrder tag h f) s = .next t ∧
                t.bookingAt h.idx = some { b with order := some ⟨o.block, f.covers, f.lines, .requested, none, none, none,
                  none⟩ } ∧ h ∈ t.catering.requestList ∧ (∀ j, j ≠ h.idx → t.bookingAt j = s1.bookingAt j) ∧
                t.store = s1.store ∧ t.link = (s1.answer ref .ok body).link) ∧
              (s1.beyond (b.startMin / 1440) = false → p = none →
                exec (.changeOrder tag h f) s = .next (s1.answered ref .cateringFull [])) ∧
              (∀ a, s1.beyond (b.startMin / 1440) = false → p = some a → s1.loadsShaped = true →
                a.kitchen < s1.kitchens.length → ∃ t body, exec (.changeOrder tag h f) s = .next t ∧
                t.bookingAt h.idx = some { b with order := some ⟨o.block, f.covers, f.lines, .planned, some a.kitchen,
                  some a.window, some a.ready, some a.commit⟩ } ∧ h ∈ (t.kitchen a.kitchen).dispatch ∧
                h ∈ t.catering.commitQueue ∧
                t.load a.kitchen a.window = (s1.setUncounted h .unplaced none).load a.kitchen a.window + f.covers ∧
                (∀ j, j ≠ h.idx → t.bookingAt j = s1.bookingAt j) ∧ t.store = s1.store ∧
                t.link = (s1.answer ref .ok body).link)))))) ∧
    (s.taken (.voidOrder tag h) = some (s1, ref) →
      (b.order = none → exec (.voidOrder tag h) s = .next (s1.answered ref .noSuch [])) ∧
      (∀ o, b.order = some o →
        (o.state = .voided → exec (.voidOrder tag h) s = .next (s1.answered ref .already [])) ∧
        (o.state = .committed ∨ o.state = .dispatched ∨ o.state = .delivered ∨ o.state = .stranded ∨ o.state = .discarded →
          exec (.voidOrder tag h) s = .next (s1.answered ref .tooLate [])) ∧
        (o.state = .requested ∨ o.state = .unplaced ∨ o.state = .planned →
          ∃ t body, exec (.voidOrder tag h) s = .next t ∧ t.bookingAt h.idx = some { b with
              order := some { o with state := .voided, kitchen := none, window := none, ready := none, commit := none } } ∧
            (∀ k, h ∉ (t.kitchen k).dispatch) ∧ h ∉ t.catering.commitQueue ∧ h ∉ t.catering.requestList ∧
            (o.state ≠ .planned → t.catering.loads = s1.catering.loads) ∧
            (∀ k w, o.state = .planned → o.kitchen = some k → o.window = some w → s1.loadsShaped = true →
              t.load k w = s1.load k w - o.covers) ∧
            (∀ j, j ≠ h.idx → t.bookingAt j = s1.bookingAt j) ∧ t.store = s1.store ∧
            t.link = (s1.answer ref .ok body).link)))

/-- R145 to R147: OUT, HANDED and DISCARD of a kitchen terminal for an order of its kitchen, and RECEIVED of a room panel for
the order of an AWAITING or IN_USE booking of its room, change the state of that order alone, in the one state that their
rule admits; a DELIVERED or DISCARDED order leaves the dispatch queue; every other state is refused with nothing changed. -/
def Obligations.TerminalsHandleOrders : Prop :=
  ∀ (s : State) (src : PanelRef) (h : Handle) (b : Booking) (o : Order), s.running = true → s.catching = false →
    src.panel < s.panelBus.panels.length → s.lookup h = .found b → b.handle = h → h.idx < s.dir.entries.length →
    b.order = some o →
    (src.kind = .kitchen → s.planningScope (b.startMin / 1440) = false → o.kitchen = some src.target →
      ∀ (c : Instr) (code : Nat) (needed after : OrderState) (already : Bool),
        (c = .out src (some h) ∧ code = 7 ∧ needed = .committed ∧ after = .dispatched ∧
            already = decide (o.state = .dispatched ∨ o.state = .delivered)) ∨
          (c = .handed src (some h) ∧ code = 8 ∧ needed = .dispatched ∧ after = .delivered ∧
            already = decide (o.state = .delivered)) ∨
          (c = .discard src (some h) ∧ code = 9 ∧ needed = .stranded ∧ after = .discarded ∧
            already = decide (o.state = .discarded)) →
        (o.state = needed → ∃ t, exec c s = .next t ∧
          t.bookingAt h.idx = some { b with order := some { o with state := after } } ∧
          (after ≠ .dispatched → ∀ k, h ∉ (t.kitchen k).dispatch) ∧
          (∀ j, j ≠ h.idx → t.bookingAt j = s.bookingAt j) ∧ t.catering = s.catering ∧ t.rooms = s.rooms ∧
          (t.panel src.panel).slot = .result ⟨code, .ok, []⟩) ∧
        (o.state ≠ needed → ∃ t, exec c s = .next t ∧ t.dir = s.dir ∧ t.kitchens = s.kitchens ∧
          (t.panel src.panel).slot = .result ⟨code, if already = true then .already else .badState, []⟩)) ∧
    (src.kind = .room → ∃ t, exec (.out src (some h)) s = .next t ∧ t.dir = s.dir ∧
      (t.panel src.panel).slot = .result ⟨7, .badState, []⟩) ∧
    (src.kind = .room → b.room = src.target → b.state = .awaiting ∨ b.state = .inUse →
      (o.state = .dispatched → ∃ t, exec (.received src (some h)) s = .next t ∧
        t.bookingAt h.idx = some { b with order := some { o with state := .delivered } } ∧
        (∀ k, h ∉ (t.kitchen k).dispatch) ∧ (∀ j, j ≠ h.idx → t.bookingAt j = s.bookingAt j) ∧
        (t.panel src.panel).slot = .result ⟨6, .ok, []⟩) ∧
      (o.state ≠ .dispatched → ∃ t, exec (.received src (some h)) s = .next t ∧ t.dir = s.dir ∧
        (t.panel src.panel).slot = .result ⟨6, if o.state = .delivered then .already else .badState, []⟩))

/-- R143: a minute event commits a due PLANNED order at the head of the commit queue and voids a due UNPLACED one, with its
booking marked and CATERING set, and leaves no due order at the head. R151, R152: a day event begins the planning walk, in
which the rows before its day are given over and no other load changes, or becomes the pending day; each step plans the head
of the request list when its start's day has a row, and otherwise the walk ends with its last walk day. A walk day at or
before the first day of the horizon, and one more than 14 days after it, are log 16, and the end of the walk as a step of its
own is log 48: the model's choices. -/
def Obligations.OrdersCommitAndArePlanned : Prop :=
  (∀ (s : State) (h : Handle) (b : Booking) (o : Order), s.bookingAt h.idx = some b → b.order = some o →
      h.idx < s.dir.entries.length →
      (o.state = .planned → (s.commitHead h).bookingAt h.idx = some { b with order := some { o with state := .committed } } ∧
        h ∉ (s.commitHead h).catering.commitQueue ∧ (s.commitHead h).kitchens = s.kitchens ∧
        (s.commitHead h).catering.loads = s.catering.loads) ∧
      (o.state = .unplaced → (s.commitHead h).bookingAt h.idx = some { b with mark := true, order := some { o with
          state := .voided, kitchen := none, window := none, ready := none, commit := none } } ∧
        h ∉ (s.commitHead h).catering.commitQueue ∧ (s.commitHead h).notice.changed = ⟨true, false⟩ ∧
        (s.commitHead h).notice.catering = ⟨true, false⟩)) ∧
  (∀ (s : State) (m : Nat) (rest : List Nat), s.owed.commits = m :: rest →
      ∃ t, exec .commit s = .next t ∧ t.owed = { s.owed with commits := rest } ∧ t.clock = s.clock ∧ t.rooms = s.rooms ∧
        t.store = s.store ∧ (∀ h q, t.catering.commitQueue = h :: q → m < t.commitOf h) ∧
        ((∀ h q, s.catering.commitQueue = h :: q → m < s.commitOf h) → t.dir = s.dir ∧ t.catering = s.catering)) ∧
  (∀ (s : State) (d : Nat) (rest : List Nat), s.owed.plannings = d :: rest →
      (s.catering.walk ≠ none → exec .planningWalk s = .next
        ({ s with owed := { s.owed with plannings := rest }
                  catering := { s.catering with pendingDay := some d } }).followAttn) ∧
      (∀ f, s.catering.walk = none → s.catering.horizon = some f → s.loadsShaped = true →
        ∃ t w, exec .planningWalk s = .next t ∧ t.catering.walk = some w ∧ w.day = d ∧
          t.catering.horizon = some (max f d) ∧ (∀ x, x ∈ w.added ↔ d ≤ x ∧ f + 14 ≤ x ∧ x < d + 14) ∧
          (∀ k x v, max f d ≤ x → t.load k ⟨x, v⟩ = s.load k ⟨x, v⟩) ∧
          (∀ k x v, x < max f d → t.load k ⟨x, v⟩ = 0) ∧
          t = { s with owed := { s.owed with plannings := rest }, catering := t.catering, attn := t.attn })) ∧
  (∀ (s : State) (w : PlanningWalk), s.catering.walk = some w →
      (s.catchUp = none → s.catering.pendingDay = none → s.catering.requestList = [] ∨
          (∃ h q, s.catering.requestList = h :: q ∧ w.day + 14 ≤ s.startOf h / 1440) →
        exec .planningWalkStep s = .next
          ({ s with catering := { s.catering with walk := none, lastDay := some w.day } }).followAttn) ∧
      (∀ h q b o, s.catering.requestList = h :: q → s.bookingAt h.idx = some b → b.handle = h → b.order = some o →
        h.idx < s.dir.entries.length → b.startMin / 1440 < w.day + 14 → o.state = .requested →
        s.beyond (b.startMin / 1440) = false → ∃ t x, exec .planningWalkStep s = .next t ∧ t.catering.walk = some w ∧
          h ∉ t.catering.requestList ∧ h ∈ t.catering.commitQueue ∧ t.bookingAt h.idx = some x ∧
          (∀ j, j ≠ h.idx → t.bookingAt j = s.bookingAt j) ∧ t.store = s.store ∧
          (∀ a, (s.room b.room).foodAllowed = true →
            s.planAt s.walkNow o.covers b.startMin (s.room b.room).building = some a →
            x = { b with order := some { o with state := .planned, kitchen := some a.kitchen, window := some a.window
                                                ready := some a.ready, commit := some a.commit } }) ∧
          ((s.room b.room).foodAllowed = false ∨
            s.planAt s.walkNow o.covers b.startMin (s.room b.room).building = none →
            x.order.map Order.state = some .unplaced ∧ x.mark = true ∧ t.notice.catering = ⟨true, false⟩ ∧
            ∃ m, x.order.bind Order.commit = some m ∧ s.walkNow ≤ m)))

/-! ### Chapter 10: closures -/

/-- R156, R157: CLOSE_ROOM is refused in the order of its table with nothing changed; taken, the closure is recorded unswept with
its from clamped to the end of an IN_USE booking that outlasts it, the room is CLOSING, the sweep begins with the request's
place held, and no booking changes. R164: REOPEN_ROOM clears a recorded closure and answers it, in service. R163, R165: at a
minute event swept closures come and go by their minutes, unswept ones are left, and an idle sweep resumes the lowest
unswept room. That the clamp is the first on the timeline, should two IN_USE bookings outlast the from, is log 56: the model's
choice. -/
def Obligations.RoomsCloseAndReopen : Prop :=
  (∀ (s s1 : State) (ref : HostRef) (tag : Byte) (f : CloseForm), s.taken (.closeRoom tag f) = some (s1, ref) →
      (s1.running = false → exec (.closeRoom tag f) s = .next (s1.answered ref .notStarted [])) ∧
      (s1.running = true → s1.catching = true → exec (.closeRoom tag f) s = .next (s1.answered ref .wait [])) ∧
      (s1.running = true → s1.catching = false →
        (511 < f.room ∨ 1 < f.mode ∨ f.toMin ≤ f.fromMin →
          exec (.closeRoom tag f) s = .next (s1.answered ref .badField [])) ∧
        (f.room ≤ 511 → f.mode ≤ 1 → f.fromMin < f.toMin →
          ((s1.room f.room).inTable = false → exec (.closeRoom tag f) s = .next (s1.answered ref .noSuch [])) ∧
          ((s1.room f.room).inTable = true →
            (f.fromMin < s1.clock.minute → exec (.closeRoom tag f) s = .next (s1.answered ref .tooLate [])) ∧
            (s1.clock.minute + 259200 < f.fromMin → exec (.closeRoom tag f) s = .next (s1.answered ref .badField [])) ∧
            (s1.clock.minute ≤ f.fromMin → f.fromMin ≤ s1.clock.minute + 259200 →
              (s1.sweep.sweeping = true → exec (.closeRoom tag f) s = .next (s1.answered ref .busy [])) ∧
              (s1.sweep.sweeping = false →
                (∀ b, s1.inUseAfter f.room f.fromMin = some b → f.toMin ≤ b.endMin →
                  exec (.closeRoom tag f) s = .next (s1.answered ref .conflict [.handle (some b.handle)])) ∧
                (∀ clamp, s1.inUseAfter f.room f.fromMin = clamp → (∀ b, clamp = some b → b.endMin < f.toMin) →
                  f.room < s1.rooms.length →
                  ∃ t, exec (.closeRoom tag f) s = .next t ∧ t.room f.room = { s1.room f.room with
                      service := .closing
                      closure := some ⟨(clamp.map Booking.endMin).getD f.fromMin, f.toMin,
                        if f.mode = 0 then .relocate else .displace, false⟩ } ∧
                    (∀ r, r ≠ f.room → t.room r = s1.room r) ∧
                    t.sweep = ⟨true, f.room, .host ref, none, 0, 0, 0, clamp.map Booking.handle, none⟩ ∧
                    f.room ∈ t.panelBus.viewReports ∧ t.dir = s1.dir ∧ t.link = s1.link))))))) ∧
  (∀ (s s1 : State) (ref : HostRef) (tag : Byte) (r : Nat), s.taken (.reopenRoom tag r) = some (s1, ref) →
      s1.running = true → s1.catching = false → r ≤ 511 → (s1.room r).inTable = true →
      (s1.sweep.sweeping = true → s1.sweep.room = r → exec (.reopenRoom tag r) s = .next (s1.answered ref .busy [])) ∧
      (s1.sweep.sweeping = false ∨ s1.sweep.room ≠ r →
        ((s1.room r).closure = none → exec (.reopenRoom tag r) s = .next (s1.answered ref .already [])) ∧
        (∀ c, (s1.room r).closure = some c → r < s1.rooms.length → ∃ t, exec (.reopenRoom tag r) s = .next t ∧
          t.room r = { s1.room r with service := .inService, closure := none } ∧
          (∀ q, q ≠ r → t.room q = s1.room q) ∧ r ∈ t.panelBus.viewReports ∧ t.dir = s1.dir ∧ t.sweep = s1.sweep ∧
          t.link = (s1.answer ref .ok [.num 4 (some c.fromMin), .num 4 (some c.toMin), .num 1 (some c.mode.code),
            .num 1 (some c.swept.toNat)]).link))) ∧
  (∀ (s : State) (m : Nat) (rest : List Nat), s.owed.closures = m :: rest → s.rooms.length = 512 →
      ∃ t, exec .closureTimes s = .next t ∧ t.owed = { s.owed with closures := rest } ∧ t.dir = s.dir ∧ t.link = s.link ∧
        (∀ r, r < 512 → (s.room r).inTable = false ∨ (s.room r).closure = none → t.room r = s.room r) ∧
        (∀ r c, r < 512 → (s.room r).inTable = true → (s.room r).closure = some c → c.swept = true →
          ((s.room r).service = .closing → t.room r = s.room r) ∧
          ((s.room r).service ≠ .closing →
            (c.toMin ≤ m → t.room r = { s.room r with service := .inService, closure := none }) ∧
            (c.fromMin ≤ m → m < c.toMin → t.room r = { s.room r with service := .closed }) ∧
            (m < c.fromMin → m < c.toMin → t.room r = s.room r))) ∧
        (s.sweep.sweeping = true → t.sweep = s.sweep ∧ ∀ r c, r < 512 → (s.room r).closure = some c → c.swept = false →
          t.room r = s.room r) ∧
        (∀ r c, s.sweep.sweeping = false → r < 512 → (s.room r).inTable = true → (s.room r).closure = some c →
          c.swept = false → (∀ q < r, (s.room q).inTable = true → ∀ d, (s.room q).closure = some d → d.swept = true) →
          t.sweep = ⟨true, r, .resumed, none, 0, 0, 0, none, none⟩ ∧ t.room r = { s.room r with service := .closing }))

/-- R158 to R162, R83: a step of the sweep ends it when no booking of the room lies in the closure, with the room's
service by the present minute, the answer of a HOST sweep and the context IDLE; else it displaces the first one that
does, in DISPLACE mode or IN_USE, or sends its search, with the catering form of its order's state. A settled search relocates
the booking to the first candidate in rank order that still passes, an AWAITING one giving up its channel and opening its window
afresh in the new room, or reports that there is none, with each candidate's failing reason; the sweep takes the report, counts
it, and displaces where it must.
The answer's layout follows R162 and R188 with log 23; a displacement is asked and decided in one step (log 41). -/
def Obligations.SweepDealsWithEachBooking : Prop :=
  (∀ (s : State) (c : Closure), s.sweep.sweeping = true → s.sweep.current = none → (s.room s.sweep.room).closure = some c →
      s.sweep.room < s.rooms.length →
      ((∀ b ∈ s.timelineOf s.sweep.room, ¬ (b.startMin < c.toMin ∧ c.fromMin < b.endMin)) →
        ∃ t, exec .sweepStep s = .next t ∧ t.sweep = ⟨false, 0, .resumed, none, 0, 0, 0, none, none⟩ ∧ t.dir = s.dir ∧
          (c.toMin ≤ s.clock.minute →
            t.room s.sweep.room = { s.room s.sweep.room with service := .inService, closure := none }) ∧
          (s.clock.minute < c.toMin → t.room s.sweep.room = { s.room s.sweep.room with
            service := if c.fromMin ≤ s.clock.minute then .closed else .inService
            closure := some { c with swept := true } }) ∧
          (s.sweep.origin = .resumed → t.link = s.link) ∧
          (∀ ref, s.sweep.origin = .host ref → t.link = (s.answer ref .ok [.num 2 (some s.sweep.room),
            .num 4 (some c.fromMin), .num 1 (some s.sweep.clamp.isSome.toNat), .handle s.sweep.clamp, .num 4 (some c.toMin),
            .num 1 (some c.mode.code), .num 2 (some s.sweep.relocated), .num 2 (some s.sweep.displaced),
            .num 2 (some s.sweep.left), .num 1 (some (t.room s.sweep.room).service.code)]).link)) ∧
      (∀ b, (s.timelineOf s.sweep.room).find? (fun b => b.startMin < c.toMin && c.fromMin < b.endMin) = some b →
        s.lookup b.handle = .found b → b.handle.idx < s.dir.entries.length → b.room = s.sweep.room →
        b.handle ∈ (s.room s.sweep.room).timeline →
        (c.mode = .displace ∧ (b.state = .booked ∨ b.state = .awaiting) ∨ b.state = .inUse →
          ∃ t x, exec .sweepStep s = .next t ∧ t.bookingAt b.handle.idx = some x ∧ x.state = .displaced ∧ x.mark = true ∧
            x.timer = none ∧ x.room = b.room ∧ b.handle ∉ (t.room b.room).timeline ∧
            t.sweep = { s.sweep with displaced := s.sweep.displaced + 1 } ∧
            (∀ j, j ≠ b.handle.idx → t.bookingAt j = s.bookingAt j)) ∧
        (c.mode = .relocate → b.state = .booked ∨ b.state = .awaiting → ∃ q, exec .sweepStep s = .next
          ({ s with
              placement := { s.placement with
                queue := s.placement.queue ++ [q], nextId := s.placement.nextId + 1 }
              sweep := { s.sweep with current := some (b.handle, .searching) } }).followAttn ∧
          q.kind = .sweep ∧ q.client = .booking b.handle ∧ q.isRunning = false ∧ q.inputs.headCount = b.headCount ∧
          q.inputs.needs = b.needs ∧ q.inputs.wants = b.wants ∧ q.inputs.origin = b.origin ∧ q.inputs.dmax = 63 ∧
          q.inputs.relax = false ∧ q.inputs.startMin = b.startMin ∧ q.inputs.endMin = b.endMin ∧
          (b.order = none → q.inputs.catering = .none_) ∧
          (∀ o, b.order = some o →
            (o.state = .requested ∨ o.state = .unplaced ∨ o.state = .planned → q.inputs.catering = .trial o.covers) ∧
            (∀ k, o.state = .committed ∨ o.state = .dispatched → o.kitchen = some k → q.inputs.catering = .fixed k) ∧
            (o.state = .voided ∨ o.state = .stranded ∨ o.state = .delivered ∨ o.state = .discarded →
              q.inputs.catering = .none_))))) ∧
  (∀ (s : State) (x : Search) (e : QueueEntry) (h : Handle), s.placement.search = some x → s.runningEntry x = some e →
      x.complete = true → e.id = x.request → e.kind = .sweep → e.client = .booking h →
      (x.candidates = [] → exec .sweepSearchCompletion s = .next
        ({ s with
            placement := { s.placement with queue := s.placement.queue.filter fun q => q.id ≠ e.id, search := none }
            sweep := { s.sweep with report := some (.noRoom []) } }).followAttn) ∧
      (∀ reasons : List Reason, List.Forall₂ (fun (c : Candidate) reason =>
            (s.room c.room).inTable = true ∧ s.roomTests e x.needs x.row c.room = .error reason) x.candidates reasons →
        exec .sweepSearchCompletion s = .next
          ({ s with
              placement := { s.placement with queue := s.placement.queue.filter fun q => q.id ≠ e.id, search := none }
              sweep := { s.sweep with report := some (.noRoom reasons) } }).followAttn) ∧
      (∀ pre c cs t0 b cl, x.candidates = pre ++ c :: cs →
        (∀ k ∈ pre, (s.room k.room).inTable = false ∨ ∃ reason, s.roomTests e x.needs x.row k.room = .error reason) →
        (s.room c.room).inTable = true → s.roomTests e x.needs x.row c.room = .ok t0 → s.lookup h = .found b →
        b.handle = h → h.idx < s.dir.entries.length → b.room = s.sweep.room → h ∈ (s.room b.room).timeline →
        (s.room b.room).closure = some cl → b.startMin < cl.toMin → cl.fromMin < b.endMin → c.room < s.rooms.length →
        c.room ≠ b.room → b.state = .awaiting → b.checkin = .required → s.catching = false →
        ∃ t y, exec .sweepSearchCompletion s = .next t ∧ t.bookingAt h.idx = some y ∧ y.room = c.room ∧ y.mark = true ∧
          y.startMin = b.startMin ∧ y.endMin = b.endMin ∧ y.series = b.series ∧ y.note = b.note ∧
          h ∈ (t.room c.room).timeline ∧ h ∉ (t.room b.room).timeline ∧
          t.sweep = { s.sweep with report := some (.moved c.room) } ∧ t.placement.search = none ∧
          (∀ j, j ≠ h.idx → t.bookingAt j = s.bookingAt j) ∧
          (∀ old, b.timer = some old → old < s.bank.channels.length →
            (s.clock.minute + (s.room c.room).earlyOpen < b.startMin ∨ s.panelAvailable c.room = false →
              y.state = .booked ∧ y.timer = none ∧ (t.channel old).state = .free) ∧
            (b.startMin ≤ s.clock.minute + (s.room c.room).earlyOpen → s.panelAvailable c.room = true →
              y.state = .awaiting ∧ ∃ d, y.timer = some d ∧ d ≤ old ∧ t.channel d = ⟨.running, .window, some h,
                (min b.endMin (max (b.startMin + (s.room c.room).grace) (s.clock.minute + 1)) - s.clock.minute) * 60 -
                  s.clock.second⟩ ∧ (d ≠ old → (t.channel old).state = .free)))) ∧
      (∀ pre c cs t0 b cl, x.candidates = pre ++ c :: cs →
        (∀ k ∈ pre, (s.room k.room).inTable = false ∨ ∃ reason, s.roomTests e x.needs x.row k.room = .error reason) →
        (s.room c.room).inTable = true →
        s.roomTests e x.needs x.row c.room = .ok t0 → s.lookup h = .found b → b.handle = h →
        h.idx < s.dir.entries.length → b.room = s.sweep.room → h ∈ (s.room b.room).timeline →
        (s.room b.room).closure = some cl → b.startMin < cl.toMin → cl.fromMin < b.endMin → c.room < s.rooms.length →
        c.room ≠ b.room → b.state = .booked →
        ∃ t y, exec .sweepSearchCompletion s = .next t ∧ t.bookingAt h.idx = some y ∧ y.room = c.room ∧ y.state = .booked ∧
          y.mark = true ∧ y.startMin = b.startMin ∧ y.endMin = b.endMin ∧ y.checkin = b.checkin ∧
          y.attendance = b.attendance ∧ y.series = b.series ∧ y.note = b.note ∧ h ∈ (t.room c.room).timeline ∧
          h ∉ (t.room b.room).timeline ∧ t.sweep = { s.sweep with report := some (.moved c.room) } ∧
          t.placement.search = none ∧ (∀ j, j ≠ h.idx → t.bookingAt j = s.bookingAt j))) ∧
  (∀ (s : State) (h : Handle) (r : SweepReport), s.sweep.report = some r → s.sweep.current = some (h, .searching) →
      (∀ room, r = .moved room → exec .sweepReport s = .next
        ({ s with sweep := { s.sweep with
            report := none, relocated := s.sweep.relocated + 1, current := none } }).followAttn) ∧
      (∀ found onRoom, r = .refused found onRoom → found ≠ some .inUse ∨ onRoom = false → exec .sweepReport s = .next
        ({ s with sweep := { s.sweep with report := none, left := s.sweep.left + 1, current := none } }).followAttn) ∧
      (∀ b, (∃ reasons, r = .noRoom reasons) ∨ r = .refused (some .inUse) true → s.lookup h = .found b → b.handle = h →
        h.idx < s.dir.entries.length → b.room = s.sweep.room →
        b.state = .booked ∨ b.state = .awaiting ∨ b.state = .inUse →
        (h ∈ (s.room s.sweep.room).timeline → ∃ t x, exec .sweepReport s = .next t ∧ t.bookingAt h.idx = some x ∧
          x.state = .displaced ∧ x.mark = true ∧ h ∉ (t.room b.room).timeline ∧
          t.sweep = { s.sweep with report := none, displaced := s.sweep.displaced + 1, current := none }) ∧
        (h ∉ (s.room s.sweep.room).timeline → exec .sweepReport s = .next
          ({ s with sweep := { s.sweep with report := none, left := s.sweep.left + 1, current := none } }).followAttn)))

/-! ### Chapter 11: the host link and the notices -/

/-- R168 to R172: every transfer shifts out the link status as sampled and clears FULL_SEEN. SEND puts a frame with a
whole header at the tail of the request queue, or sets FULL_SEEN when it is full; FETCH shifts out the answer at the
head, which leaves only when every byte of it went out; LINK_RESET empties both queues and marks every request in
execution dropped. The Host Link takes the frame at the head while an answer place is free, reserving one, and passes
it on or answers it BAD_FIELD. A transfer is one command from the assertion of its chip select to its end (the
model's choice, log 27). -/
def Obligations.TransfersMoveFramesAndAnswers : Prop :=
  (∀ (s : State) (status : List Byte), status =
        [BitVec.ofNat 8 (s.link.filled.length + 16 * (8 - s.link.requests.length)),
          BitVec.ofNat 8 ((if s.link.fullSeen then 1 else 0) + if s.notice.changed.isSet || s.notice.series.isSet ||
            s.notice.panel.isSet || s.notice.catering.isSet || s.notice.store || s.notice.clock then 2 else 0)] →
      exec .status s = .next ({ s with link := { s.link with miso := status, fullSeen := false } }).followAttn ∧
      (∀ code, exec (.otherTransferCommand code) s =
        .next ({ s with link := { s.link with miso := status, fullSeen := false } }).followAttn) ∧
      (∀ bytes, bytes.length < 3 → exec (.send bytes) s =
        .next ({ s with link := { s.link with miso := status, fullSeen := false } }).followAttn) ∧
      (∀ tag kind len body, 8 ≤ s.link.requests.length → exec (.send (tag :: kind :: len :: body)) s =
        .next ({ s with link := { s.link with miso := status, fullSeen := true } }).followAttn) ∧
      (∀ (tag kind len : Byte) (body : List Byte), s.link.requests.length < 8 → ∃ f : Frame,
        exec (.send (tag :: kind :: len :: body)) s = .next ({ s with link := { s.link with
          requests := s.link.requests ++ [f], miso := status, fullSeen := false } }).followAttn ∧
        f.tag = tag ∧ f.kind = kind.toNat ∧ f.body = body.take 240 ∧
        (f.malformed = true ↔ 240 < len.toNat ∨ body.length ≠ len.toNat)) ∧
      (∀ n, s.link.filled = [] → exec (.fetch n) s = .next ({ s with link := { s.link with
          miso := status ++ ([0x00, 0x00, 0xFF, 0x00, 0x00] : List Byte).take n, fullSeen := false } }).followAttn) ∧
      (∀ n a rest, s.link.filled = a :: rest → exec (.fetch n) s = .next ({ s with link := { s.link with
          miso := status ++ a.bytes.take n, fullSeen := false
          filled := if a.bytes.length ≤ n then rest else a :: rest } }).followAttn) ∧
      (∃ t, exec .linkReset s = .next t ∧ t.link.requests = [] ∧ t.link.filled = [] ∧ t.link.reserved = [] ∧
        t.link.fullSeen = false ∧ t.link.miso = status ∧ t.link.passed.length = s.link.passed.length ∧
        (∀ p ∈ t.link.passed, p.ref.dropped = true) ∧
        (∀ e ∈ t.placement.queue, ∀ r, e.client = .host r → r.dropped = true) ∧
        (∀ r, t.sweep.origin = .host r → r.dropped = true) ∧ (∀ p h, (t.panel p).hold = some h → h.ref.dropped = true) ∧
        t.notice = s.notice ∧ t.dir = s.dir ∧ t.rooms = s.rooms)) ∧
  (∀ (s : State) (f : Frame) (rest : List Frame), s.link.requests = f :: rest →
      (8 ≤ s.link.used → exec .takeRequestFrame s = .next s) ∧
      (s.link.used < 8 →
        (∀ cmd, f.malformed = false → decodeRequest f.tag f.kind f.body = some cmd → exec .takeRequestFrame s = .next
          ({ s with link := { s.link with
              requests := rest, reserved := s.link.reserved ++ [(f.tag, f.kind)]
              passed := s.link.passed ++ [Passed.mk ⟨f.tag, f.kind, false⟩ cmd] } }).followAttn) ∧
        (f.malformed = true ∨ decodeRequest f.tag f.kind f.body = none → ∃ t, exec .takeRequestFrame s = .next t ∧
          t.link.requests = rest ∧ t.link.filled = s.link.filled ++ [⟨f.tag, f.kind, .badField, []⟩] ∧
          t.link.used = s.link.used + 1 ∧ t.link.passed = s.link.passed ∧ t.attn = true ∧
          t = { s with link := t.link, attn := t.attn })))

/-- R176 to R180: SET_NOTICE_ENABLES stores the seven enables. READ_NOTICES makes each set mark-kind flag READ and
clears a condition-kind flag whose condition has gone; it answers the flags, the conditions, the set of condition-kind flags
that it cleared (STORE bit 0, CLOCK bit 1), the enables and the master enable. NEXT_CHANGED takes the lowest marked record of its category
and clears its mark alone, or, with none left, clears the flags of its category that are set and READ. READ_COUNTS
answers every count and clears it. Encodings as R188 gives them, and by log 23 where it leaves one open. -/
def Obligations.NoticesReadAndDrained : Prop :=
  ∀ (s s1 : State) (ref : HostRef) (tag : Byte),
    (∀ master e, s.taken (.setNoticeEnables tag master e) = some (s1, ref) → ∃ body,
      exec (.setNoticeEnables tag master e) s = .next
        (({ s1 with notice := { s1.notice with master := master, enables := e } }).answered ref .ok body)) ∧
    (s.taken (.readNotices tag) = some (s1, ref) → ∃ n : Notice,
      exec (.readNotices tag) s = .next (({ s1 with notice := n }).answered ref .ok
        ([flagField s1.notice.changed.isSet, flagField s1.notice.series.isSet, flagField s1.notice.panel.isSet,
          flagField s1.notice.catering.isSet, flagField s1.notice.store, flagField s1.notice.clock,
          flagField (s1.store.freeCount < 512), flagField (s1.clock.state = ClockState.holdover),
          .num 2 (some ((if s1.notice.store = true ∧ 512 ≤ s1.store.freeCount then 1 else 0) +
            if s1.notice.clock = true ∧ s1.clock.state ≠ ClockState.holdover then 2 else 0)),
          flagField s1.notice.enables.changed, flagField s1.notice.enables.series, flagField s1.notice.enables.panel,
          flagField s1.notice.enables.catering, flagField s1.notice.enables.store, flagField s1.notice.enables.clock,
          flagField s1.notice.master])) ∧
      n.changed.isSet = s1.notice.changed.isSet ∧ (n.changed.isSet = true → n.changed.read = true) ∧
      n.series.isSet = s1.notice.series.isSet ∧ (n.series.isSet = true → n.series.read = true) ∧
      n.panel.isSet = s1.notice.panel.isSet ∧ (n.panel.isSet = true → n.panel.read = true) ∧
      n.catering.isSet = s1.notice.catering.isSet ∧ (n.catering.isSet = true → n.catering.read = true) ∧
      (n.store = true ↔ s1.notice.store = true ∧ s1.store.freeCount < 512) ∧
      (n.clock = true ↔ s1.notice.clock = true ∧ s1.clock.state = .holdover) ∧
      n.enables = s1.notice.enables ∧ n.master = s1.notice.master) ∧
    (∀ category, s.taken (.nextChanged tag category) = some (s1, ref) →
      (2 < category → exec (.nextChanged tag category) s = .next (s1.answered ref .badField [])) ∧
      (category = 0 →
        (∀ i b, s1.bookingAt i = some b → b.mark = true → (∀ j < i, ∀ x, s1.bookingAt j = some x → x.mark = false) →
          ∃ t body, exec (.nextChanged tag category) s = .next t ∧ t.bookingAt i = some { b with mark := false } ∧
            (∀ j, j ≠ i → t.bookingAt j = s1.bookingAt j) ∧ t.notice = s1.notice ∧
            t.link = (s1.answer ref .ok (.num 1 (some 0) :: .handle (some b.handle) :: body)).link ∧
            t = { s1 with dir := { s1.dir with entries := t.dir.entries }, link := t.link, attn := t.attn }) ∧
        ((∀ j x, s1.bookingAt j = some x → x.mark = false) → exec (.nextChanged tag category) s = .next
          (({ s1 with notice := { s1.notice with
              changed := if s1.notice.changed = MarkFlag.mk true true then ⟨false, false⟩ else s1.notice.changed
              catering := if s1.notice.catering = MarkFlag.mk true true then ⟨false, false⟩ else s1.notice.catering } }).answered
            ref .ok [.num 1 (some 1), flagField (s1.notice.changed = MarkFlag.mk true true),
              flagField (s1.notice.catering = MarkFlag.mk true true)]))) ∧
      (category = 1 →
        (∀ i x, s1.seriesAt i = some x → x.mark = true → (∀ j < i, ∀ y, s1.seriesAt j = some y → y.mark = false) →
          ∃ t body, exec (.nextChanged tag category) s = .next t ∧ t.seriesAt i = some { x with mark := false } ∧
            (∀ j, j ≠ i → t.seriesAt j = s1.seriesAt j) ∧ t.notice = s1.notice ∧
            t.link = (s1.answer ref .ok (.num 1 (some 0) :: .num 2 (some i) :: body)).link) ∧
        ((∀ j y, s1.seriesAt j = some y → y.mark = false) → exec (.nextChanged tag category) s = .next
          (({ s1 with notice := { s1.notice with
              series := if s1.notice.series = MarkFlag.mk true true then ⟨false, false⟩ else s1.notice.series } }).answered
            ref .ok [.num 1 (some 1), flagField (s1.notice.series = MarkFlag.mk true true)]))) ∧
      (category = 2 →
        (∀ p, p < s1.panelBus.panels.length → (s1.panel p).mark = true → (∀ q < p, (s1.panel q).mark = false) →
          ∃ t body, exec (.nextChanged tag category) s = .next t ∧ t.panel p = { s1.panel p with mark := false } ∧
            (∀ q, q ≠ p → t.panel q = s1.panel q) ∧ t.notice = s1.notice ∧
            t.link = (s1.answer ref .ok (.num 1 (some 0) :: .num 1 (some p) :: body)).link) ∧
        ((∀ q, (s1.panel q).mark = false) → exec (.nextChanged tag category) s = .next
          (({ s1 with notice := { s1.notice with
              panel := if s1.notice.panel = MarkFlag.mk true true then ⟨false, false⟩ else s1.notice.panel } }).answered
            ref .ok [.num 1 (some 1), flagField (s1.notice.panel = MarkFlag.mk true true)])))) ∧
    (s.taken (.readCounts tag) = some (s1, ref) → ∃ (t : State) (counts : List Nat),
      counts = s1.rooms.map Room.noShow ++ s1.panelBus.panels.map Panel.missed ++ [s1.bank.timerCount] ∧
      exec (.readCounts tag) s = .next t ∧ t.link = (s1.answer ref .ok
        ((counts.map fun n => .num 1 (some n)) ++ counts.map fun n => flagField (n = 255))).link ∧
      (∀ r, t.room r = { s1.room r with noShow := 0 }) ∧ (∀ p, t.panel p = { s1.panel p with missed := 0 }) ∧
      t.bank = { s1.bank with timerCount := 0 } ∧ t.notice = s1.notice ∧ t.dir = s1.dir)

/-! ### Chapter 12: resets and the warm start -/

/-- R13, R55, R69, R85, R86, R121, R154, R166, R174, R181, R182: a retention loss makes the next reset a power-on
reset; a warm reset of a part without holds keeps its records, closures, loads, queues of orders and enables, and
stops the clock with the minute as its floor; it drops the timers, walks, passes and searches, both host queues and
what was owed or handed, takes a swept room back into service, and derives the six flags anew from the kept marks, the
free count and the clock. Each owner's pending day is then the latest of the pending day, the day of the walk abandoned and,
by log 15, the day events not yet taken. The model's choices here: log 15; the sender's queue survives (log 14); and the
idle sweep's room and origin and a FREE channel's mode are log 30. -/
def Obligations.WarmResetKeepsTheRecords : Prop :=
  (∀ s : State, exec .retentionLoss s = .next ({ s with retention := .lost }).followAttn) ∧
  (∀ s : State, s.retention = .lost → exec .warmReset s = exec .powerOnReset s) ∧
  (∀ s : State, s.retention = .good → (∀ p, (s.panel p).hold = none) → ∃ t, exec .warmReset s = .next t ∧
      t.pending = s.pending ∧
      t.clock = ⟨s.clock.minute, 0, .stopped, false, s.clock.minute, s.clock.dayRaised, 0, []⟩ ∧
      t.owed = ⟨0, [], [], [], [], [], [], []⟩ ∧ t.handed = [] ∧ t.distance = s.distance ∧ t.kitchens = s.kitchens ∧
      t.weights = s.weights ∧ t.policyRec = s.policyRec ∧
      (∀ r, (s.sweep.sweeping = true → s.sweep.room = r → r < s.rooms.length →
          t.room r = { s.room r with service := .inService }) ∧
        (s.sweep.sweeping = false ∨ s.sweep.room ≠ r → t.room r = s.room r)) ∧
      (∀ i, t.bookingAt i = (s.bookingAt i).map fun b => { b with timer := none }) ∧
      t.dir.fifo = s.dir.fifo ∧ t.dir.refs = s.dir.refs ∧ t.store.free = s.store.free ∧
      t.store.freeCount = s.store.freeCount ∧ t.store.walk = none ∧
      t.store.pendingDay = (s.store.pendingDay.toList ++ (s.store.walk.map RetirementWalk.day).toList ++
        s.owed.retirements).max? ∧ t.store.lastDay = s.store.lastDay ∧
      t.series.list = s.series.list ∧ t.series.passQueue = [] ∧ t.series.pass = none ∧ t.series.walk = none ∧
      t.series.pendingDay = (s.series.pendingDay.toList ++ (s.series.walk.map SeriesWalk.day).toList ++
        s.owed.materialisations).max? ∧ t.series.lastDay = s.series.lastDay ∧
      t.placement.queue = [] ∧ t.placement.search = none ∧
      (∀ c, c < 256 → t.channel c = ⟨.free, .window, none, 0⟩) ∧ t.bank.timerCount = s.bank.timerCount ∧
      t.catering.loads = s.catering.loads ∧ t.catering.horizon = s.catering.horizon ∧
      t.catering.requestList = s.catering.requestList ∧ t.catering.commitQueue = s.catering.commitQueue ∧
      t.catering.walk = none ∧ t.catering.pendingDay = (s.catering.pendingDay.toList ++
        (s.catering.walk.map PlanningWalk.day).toList ++ s.owed.plannings).max? ∧ t.catering.lastDay = s.catering.lastDay ∧
      t.sweep = ⟨false, 0, .resumed, none, 0, 0, 0, none, none⟩ ∧
      t.link = ⟨[], [], [], [], false, []⟩ ∧ t.notice.enables = s.notice.enables ∧ t.notice.master = s.notice.master ∧
      (t.notice.changed.isSet = true ↔ ∃ i b, s.bookingAt i = some b ∧ b.mark = true) ∧ t.notice.changed.read = false ∧
      (t.notice.series.isSet = true ↔ ∃ id x, s.seriesAt id = some x ∧ x.mark = true) ∧ t.notice.series.read = false ∧
      (t.notice.panel.isSet = true ↔ ∃ p, (s.panel p).mark = true) ∧ t.notice.panel.read = false ∧
      (t.notice.catering.isSet = true ↔
        s.notice.catering.isSet = true ∧ ∃ i b, s.bookingAt i = some b ∧ b.mark = true) ∧ t.notice.catering.read = false ∧
      (t.notice.store = true ↔ s.store.freeCount < 512) ∧ t.notice.clock = false ∧ t.catchUpOwed = true ∧
      t.catchUp = none ∧ (s.catchUp = none → t.missedDayStart = s.missedDayStart) ∧
      (∀ c, s.catchUp = some c → t.missedDayStart = c.missed.head?) ∧
      (∀ p, (t.panel p).kind = (s.panel p).kind ∧ (t.panel p).boundTo = (s.panel p).boundTo ∧
        (t.panel p).missed = (s.panel p).missed ∧ (t.panel p).mark = (s.panel p).mark ∧ (t.panel p).power = (s.panel p).power ∧
        (t.panel p).slot = .empty ∧ (t.panel p).ackedSeq = none) ∧
      t.retention = .good)

/-- R184 to R186: each step of the catch-up walk deals with one record by the table of its stage: a due order at the
head of the commit queue, committed when PLANNED and voided with the booking marked when UNPLACED; a room with a closure, a directory entry; a stage with none left gives way to the next; and
the stage DAYS passes over a walk for a missed day that its owner has walked, begins the next of the three kinds of day
walk, a pending one leaving its owner no pending day, or ends the catch-up walk, with the owed passes queued and the held
minutes raised. How a stage gives way to the next, and the order kept in `todo`, are the model's choice (log 35). -/
def Obligations.CatchUpDealsWithEachRecord : Prop :=
  (∀ (s : State) (c : CatchUp), s.catchUp = some c → c.stage = .commits →
      (s.catering.commitQueue = [] ∨ (∃ h q, s.catering.commitQueue = h :: q ∧ c.minute < s.commitOf h) →
        exec .catchUpCommitStep s = .next ({ s with catchUp := some { c with stage := .closures, pos := 0 } }).followAttn) ∧
      (∀ h q b o, s.catering.commitQueue = h :: q → s.commitOf h ≤ c.minute → s.bookingAt h.idx = some b →
        b.order = some o → h.idx < s.dir.entries.length → o.state = .planned →
        ∃ t, exec .catchUpCommitStep s = .next t ∧ t.catchUp = some { c with pos := c.pos + 1 } ∧
          t.bookingAt h.idx = some { b with order := some { o with state := .committed } } ∧
          h ∉ t.catering.commitQueue ∧ (∀ j, j ≠ h.idx → t.bookingAt j = s.bookingAt j)) ∧
      (∀ h q b o, s.catering.commitQueue = h :: q → s.commitOf h ≤ c.minute → s.bookingAt h.idx = some b →
        b.order = some o → h.idx < s.dir.entries.length → o.state = .unplaced →
        ∃ t, exec .catchUpCommitStep s = .next t ∧ t.catchUp = some { c with pos := c.pos + 1 } ∧
          t.bookingAt h.idx = some { b with mark := true, order := some { o with
            state := .voided, kitchen := none, window := none, ready := none, commit := none } } ∧
          t.notice = { s.notice with changed := ⟨true, false⟩, catering := ⟨true, false⟩ } ∧
          t.catering.loads = s.catering.loads ∧
          h ∉ t.catering.commitQueue ∧ (∀ j, j ≠ h.idx → t.bookingAt j = s.bookingAt j))) ∧
  (∀ (s : State) (c : CatchUp), s.catchUp = some c → c.stage = .closures →
      ((∀ r, c.pos ≤ r → r < 512 → (s.room r).inTable = false ∨ (s.room r).closure = none) →
        exec .catchUpClosureStep s = .next ({ s with catchUp := some { c with stage := .bookings, pos := 0 } }).followAttn) ∧
      (∀ r cl, c.pos ≤ r → r < 512 → r < s.rooms.length → (s.room r).inTable = true → (s.room r).closure = some cl →
        (∀ q, c.pos ≤ q → q < r → (s.room q).inTable = false ∨ (s.room q).closure = none) →
        ∃ t, exec .catchUpClosureStep s = .next t ∧ t.catchUp = some { c with pos := r + 1 } ∧
          (∀ q, q ≠ r → t.room q = s.room q) ∧
          (cl.toMin ≤ c.minute → t.room r = { s.room r with service := .inService, closure := none }) ∧
          (c.minute < cl.toMin →
            (cl.swept = true → cl.fromMin ≤ c.minute → t.room r = { s.room r with service := .closed }) ∧
            (cl.swept = true → c.minute < cl.fromMin → t.room r = s.room r) ∧
            (cl.swept = false → t.room r = { s.room r with service := .inService })))) ∧
  (∀ (s : State) (c : CatchUp), s.catchUp = some c → c.stage = .bookings →
      ∃ t, exec .catchUpBookingStep s = .next t ∧
        (c.pos < 8191 → t.catchUp = some { c with pos := c.pos + 1 }) ∧
        (8191 ≤ c.pos → ∃ todo, t.catchUp = some { c with stage := .days, pos := todo.length, todo := todo } ∧
          (s.store.pendingDay = none → s.series.pendingDay = none → s.catering.pendingDay = none →
            todo = c.missed.flatMap fun d =>
              [⟨.retirement, d, false⟩, ⟨.materialisation, d, false⟩, ⟨.planning, d, false⟩])) ∧
        ((∀ b, s.bookingAt c.pos = some b → b.handle.idx = c.pos) → ∀ j, j ≠ c.pos → t.bookingAt j = s.bookingAt j) ∧
        (s.bookingAt c.pos = none → t.bookingAt c.pos = none) ∧
        (∀ b, s.bookingAt c.pos = some b → b.handle.idx = c.pos → c.pos < s.dir.entries.length →
          ∃ x, t.bookingAt c.pos = some x ∧ x.handle = b.handle ∧ x.startMin = b.startMin ∧ x.endMin = b.endMin ∧
            (b.state = .booked → c.minute < b.startMin → x = b) ∧
            (b.state = .booked → b.startMin ≤ c.minute → c.minute < b.endMin →
              (b.checkin = .required → x = { b with state := .inUse, checkin := .exempt, attendance := .unknown }) ∧
              (b.checkin = .exempt → x = { b with state := .inUse })) ∧
            (b.state = .booked → b.startMin ≤ c.minute → b.endMin ≤ c.minute → x.state = .ended ∧
              (b.checkin = .required → x.attendance = .unknown) ∧ (b.checkin = .exempt → x.attendance = b.attendance)) ∧
            (b.state = .awaiting → c.minute < b.endMin →
              x = { b with state := .inUse, checkin := .exempt, attendance := .unknown }) ∧
            (b.state = .awaiting → b.endMin ≤ c.minute → x.state = .ended ∧ x.attendance = .unknown) ∧
            (b.state = .inUse → c.minute < b.endMin → x = b) ∧
            (b.state = .inUse → b.endMin ≤ c.minute → x.state = .ended ∧ x.attendance = b.attendance) ∧
            (b.state = .ended ∨ b.state = .endedEarly ∨ b.state = .released ∨ b.state = .cancelled ∨
              b.state = .displaced → x = b))) ∧
  (∀ (s : State) (c : CatchUp), s.catchUp = some c → c.stage = .days → s.store.walk = none → s.series.walk = none →
      s.catering.walk = none →
      (c.todo = [] → ∃ t, exec .catchUpDays s = .next t ∧ t.catchUp = none ∧ t.catchUpOwed = false ∧
        t.missedDayStart = none ∧ t.clock = { s.clock with held := [] } ∧
        t.owed.starts = s.owed.starts ++ s.clock.held.map HeldMinute.minute ∧
        t.owed.plannings = s.owed.plannings ++ s.clock.held.filterMap HeldMinute.day ∧
        (∀ id x, id < 1024 → s.seriesAt id = some x → x.passOwed = true → id ∈ t.series.passQueue) ∧
        t.series.list = s.series.list ∧ t.dir = s.dir ∧ t.rooms = s.rooms) ∧
      (∀ w d rest l, c.todo = ⟨w, d, false⟩ :: rest → d ≤ l →
        w = .retirement ∧ s.store.lastDay = some l ∨ w = .materialisation ∧ s.series.lastDay = some l ∨
          w = .planning ∧ s.catering.lastDay = some l →
        exec .catchUpDays s = exec .catchUpDays { s with catchUp := some { c with todo := rest } }) ∧
      (∀ w d waiting rest, c.todo = ⟨w, d, waiting⟩ :: rest →
        (waiting = false → ∀ l, (w = .retirement → s.store.lastDay = some l → l < d) ∧
          (w = .materialisation → s.series.lastDay = some l → l < d) ∧
          (w = .planning → s.catering.lastDay = some l → l < d)) →
        ∃ t k, exec .catchUpDays s = .next t ∧ t.catchUp = some k ∧ k.todo = rest ∧ k.pos = rest.length ∧
          k.stage = .days ∧ k.minute = c.minute ∧ t.dir = s.dir ∧
          (w = .retirement → t.series = s.series ∧ t.catering = s.catering ∧ t.store = { s.store with
            walk := some ⟨d, .entry 0⟩, pendingDay := if waiting then none else s.store.pendingDay }) ∧
          (w = .materialisation → t.store = s.store ∧ t.catering = s.catering ∧ t.series = { s.series with
            walk := some ⟨d, 0⟩, pendingDay := if waiting then none else s.series.pendingDay }) ∧
          (w = .planning → t.store = s.store ∧ t.series = s.series ∧
            t.catering.pendingDay = (if waiting then none else s.catering.pendingDay) ∧
            t.catering.walk.map PlanningWalk.day = some d ∧
            t.catering.horizon = some (max (s.catering.horizon.getD d) d) ∧ t.catering.lastDay = s.catering.lastDay ∧
            t.catering.requestList = s.catering.requestList ∧ t.catering.commitQueue = s.catering.commitQueue)))

/-! ### Invariants -/

/-- R182, R1, R10, R11, R19, R102, R181: power-on reset leaves the block as it is after reset, whatever it held, with the
sender's queue kept (log 14); that state meets every invariant of a safe run and of the records, and holds the values that the
manual gives. -/
def Obligations.ResetIsSafe : Prop :=
  (∀ s : State, exec .powerOnReset s = .next { State.reset with pending := s.pending }) ∧ State.reset.safe = true ∧
    State.reset.Sound ∧
    State.reset.clock = ⟨0, 0, .stopped, false, 0, none, 0, []⟩ ∧ State.reset.weights = ⟨1, 2, 8, 1⟩ ∧
    State.reset.store.freeCount = 16384 ∧ (∀ i, State.reset.bookingAt i = none) ∧ (∀ id, State.reset.seriesAt id = none) ∧
    (∀ r, (State.reset.room r).inTable = false) ∧ (∀ k, (State.reset.kitchen k).inTable = false) ∧
    (∀ p, (State.reset.panel p).state = .unbound ∧ (State.reset.panel p).battery = 100 ∧
      (State.reset.panel p).ackedSeq = none) ∧
    (∀ c, (State.reset.channel c).state = .free) ∧
    (∀ a b, a < 64 → b < 64 → (State.reset.distance.getD a []).getD b 0 = if a = b then 0 else 63) ∧
    State.reset.notice.anySet = false ∧ State.reset.notice.master = false ∧ State.reset.attn = false

/-- R13, R169, R171, R173, 01 section 1.6: every step keeps each of these: ATTN is asserted exactly when its terms say; the
request queue and the answer queue hold at most eight places; the clock's fields lie in their ranges, and the clock runs only
with its time set. -/
def Obligations.EveryStepKeepsTheLinkAndTheClockLegal : Prop :=
  ∀ s t : State, step s = .next t →
    (s.attnFollows = true → t.attnFollows = true) ∧ (s.linkFits = true → t.linkFits = true) ∧
      (s.clockLegal = true → t.clockLegal = true)

/-- R19, R24, and the table sizes of chapters 1, 2, 4, 6, 7 and 9: every step keeps the free count equal to the number of blocks
on the stack, and keeps the length of every fixed table and the shape of the load table. With the tables so sized and the
handles agreed, it keeps the FIFO holding each free index once and no other; and it keeps the free and held blocks at 16,384 in
all, none twice and none both, and each held block counted under its kind. -/
def Obligations.EveryStepKeepsTheStoreAndTheTables : Prop :=
  ∀ s t : State, step s = .next t →
    (s.stackCounted = true → t.stackCounted = true) ∧ (s.shaped = true → t.shaped = true) ∧
      (s.shaped = true → s.handlesAgree → s.fifoRight → t.fifoRight ∧ (s.blocksRight → t.blocksRight))

/-- R24, R25: every step keeps the agreement of the directory: a live entry's booking carries the handle made of the entry's
index and generation, so that a handle that the lookup finds is its booking's own. -/
def Obligations.EveryStepKeepsHandlesAgreed : Prop :=
  ∀ s t : State, step s = .next t → s.handlesAgree → t.handlesAgree ∧
    ∀ h b, t.lookup h = .found b → b.handle = h

/-- R34, R35, R37, R4, R70: every step keeps every room's timeline spaced by the room's turnover, holding no handle twice and
exactly the BOOKED, AWAITING and IN_USE bookings of that room. It starts from a state whose records agree (State.Sound), and
keeps with it what the timelines rest on: a booking's end after its start, a room with a timeline in the table, and the
placement queue's searches as the sweep and their clients left them. -/
def Obligations.EveryStepKeepsTheTimelines : Prop :=
  ∀ s t : State, step s = .next t → s.Sound →
    t.timelinesRight ∧ t.spansRight ∧ t.roomsRight ∧ t.searchesRight

/-- R86: every step keeps each channel that is not FREE belonging to one AWAITING or IN_USE booking whose timer field names it,
and each timer field naming a channel that is not FREE and belongs to its booking; so no booking holds two channels. -/
def Obligations.EveryStepKeepsTheChannels : Prop :=
  ∀ s t : State, step s = .next t → s.shaped = true → s.handlesAgree → s.fifoRight → s.channelsRight →
    t.channelsRight

/-- R135, R136, R152: every step keeps the load of every window within the catering horizon equal to the sum of the covers of
the orders counted in it, no order counted beyond the horizon, and the request list to REQUESTED orders. -/
def Obligations.EveryStepKeepsTheLoads : Prop :=
  ∀ s t : State, step s = .next t → s.shaped = true → s.handlesAgree → s.fifoRight → s.loadsRight → t.loadsRight
end

