-- ==== Sys2Proof/Laws/State.lean ====
section
/-! SUPPORT. What each update of the state leaves as it was: one lemma per field per update, true by `rfl`. -/

namespace Sys2Proof.Machine

variable (s : State)

/-! ### `modRoom` -/

@[simp] theorem State.modRoom_pending (r : Nat) (f : Room → Room) : (s.modRoom r f).pending = s.pending := rfl
@[simp] theorem State.modRoom_clock (r : Nat) (f : Room → Room) : (s.modRoom r f).clock = s.clock := rfl
@[simp] theorem State.modRoom_owed (r : Nat) (f : Room → Room) : (s.modRoom r f).owed = s.owed := rfl
@[simp] theorem State.modRoom_handed (r : Nat) (f : Room → Room) : (s.modRoom r f).handed = s.handed := rfl
@[simp] theorem State.modRoom_distance (r : Nat) (f : Room → Room) : (s.modRoom r f).distance = s.distance := rfl
@[simp] theorem State.modRoom_kitchens (r : Nat) (f : Room → Room) : (s.modRoom r f).kitchens = s.kitchens := rfl
@[simp] theorem State.modRoom_weights (r : Nat) (f : Room → Room) : (s.modRoom r f).weights = s.weights := rfl
@[simp] theorem State.modRoom_policyRec (r : Nat) (f : Room → Room) : (s.modRoom r f).policyRec = s.policyRec := rfl
@[simp] theorem State.modRoom_store (r : Nat) (f : Room → Room) : (s.modRoom r f).store = s.store := rfl
@[simp] theorem State.modRoom_dir (r : Nat) (f : Room → Room) : (s.modRoom r f).dir = s.dir := rfl
@[simp] theorem State.modRoom_series (r : Nat) (f : Room → Room) : (s.modRoom r f).series = s.series := rfl
@[simp] theorem State.modRoom_placement (r : Nat) (f : Room → Room) : (s.modRoom r f).placement = s.placement := rfl
@[simp] theorem State.modRoom_bank (r : Nat) (f : Room → Room) : (s.modRoom r f).bank = s.bank := rfl
@[simp] theorem State.modRoom_panelBus (r : Nat) (f : Room → Room) : (s.modRoom r f).panelBus = s.panelBus := rfl
@[simp] theorem State.modRoom_catering (r : Nat) (f : Room → Room) : (s.modRoom r f).catering = s.catering := rfl
@[simp] theorem State.modRoom_sweep (r : Nat) (f : Room → Room) : (s.modRoom r f).sweep = s.sweep := rfl
@[simp] theorem State.modRoom_link (r : Nat) (f : Room → Room) : (s.modRoom r f).link = s.link := rfl
@[simp] theorem State.modRoom_notice (r : Nat) (f : Room → Room) : (s.modRoom r f).notice = s.notice := rfl
@[simp] theorem State.modRoom_retention (r : Nat) (f : Room → Room) : (s.modRoom r f).retention = s.retention := rfl
@[simp] theorem State.modRoom_catchUpOwed (r : Nat) (f : Room → Room) : (s.modRoom r f).catchUpOwed = s.catchUpOwed := rfl
@[simp] theorem State.modRoom_missedDayStart (r : Nat) (f : Room → Room) : (s.modRoom r f).missedDayStart = s.missedDayStart := rfl
@[simp] theorem State.modRoom_catchUp (r : Nat) (f : Room → Room) : (s.modRoom r f).catchUp = s.catchUp := rfl
@[simp] theorem State.modRoom_attn (r : Nat) (f : Room → Room) : (s.modRoom r f).attn = s.attn := rfl

/-! ### `modKitchen` -/

@[simp] theorem State.modKitchen_pending (k : Nat) (f : Kitchen → Kitchen) : (s.modKitchen k f).pending = s.pending := rfl
@[simp] theorem State.modKitchen_clock (k : Nat) (f : Kitchen → Kitchen) : (s.modKitchen k f).clock = s.clock := rfl
@[simp] theorem State.modKitchen_owed (k : Nat) (f : Kitchen → Kitchen) : (s.modKitchen k f).owed = s.owed := rfl
@[simp] theorem State.modKitchen_handed (k : Nat) (f : Kitchen → Kitchen) : (s.modKitchen k f).handed = s.handed := rfl
@[simp] theorem State.modKitchen_distance (k : Nat) (f : Kitchen → Kitchen) : (s.modKitchen k f).distance = s.distance := rfl
@[simp] theorem State.modKitchen_rooms (k : Nat) (f : Kitchen → Kitchen) : (s.modKitchen k f).rooms = s.rooms := rfl
@[simp] theorem State.modKitchen_weights (k : Nat) (f : Kitchen → Kitchen) : (s.modKitchen k f).weights = s.weights := rfl
@[simp] theorem State.modKitchen_policyRec (k : Nat) (f : Kitchen → Kitchen) : (s.modKitchen k f).policyRec = s.policyRec := rfl
@[simp] theorem State.modKitchen_store (k : Nat) (f : Kitchen → Kitchen) : (s.modKitchen k f).store = s.store := rfl
@[simp] theorem State.modKitchen_dir (k : Nat) (f : Kitchen → Kitchen) : (s.modKitchen k f).dir = s.dir := rfl
@[simp] theorem State.modKitchen_series (k : Nat) (f : Kitchen → Kitchen) : (s.modKitchen k f).series = s.series := rfl
@[simp] theorem State.modKitchen_placement (k : Nat) (f : Kitchen → Kitchen) : (s.modKitchen k f).placement = s.placement := rfl
@[simp] theorem State.modKitchen_bank (k : Nat) (f : Kitchen → Kitchen) : (s.modKitchen k f).bank = s.bank := rfl
@[simp] theorem State.modKitchen_panelBus (k : Nat) (f : Kitchen → Kitchen) : (s.modKitchen k f).panelBus = s.panelBus := rfl
@[simp] theorem State.modKitchen_catering (k : Nat) (f : Kitchen → Kitchen) : (s.modKitchen k f).catering = s.catering := rfl
@[simp] theorem State.modKitchen_sweep (k : Nat) (f : Kitchen → Kitchen) : (s.modKitchen k f).sweep = s.sweep := rfl
@[simp] theorem State.modKitchen_link (k : Nat) (f : Kitchen → Kitchen) : (s.modKitchen k f).link = s.link := rfl
@[simp] theorem State.modKitchen_notice (k : Nat) (f : Kitchen → Kitchen) : (s.modKitchen k f).notice = s.notice := rfl
@[simp] theorem State.modKitchen_retention (k : Nat) (f : Kitchen → Kitchen) : (s.modKitchen k f).retention = s.retention := rfl
@[simp] theorem State.modKitchen_catchUpOwed (k : Nat) (f : Kitchen → Kitchen) : (s.modKitchen k f).catchUpOwed = s.catchUpOwed := rfl
@[simp] theorem State.modKitchen_missedDayStart (k : Nat) (f : Kitchen → Kitchen) : (s.modKitchen k f).missedDayStart = s.missedDayStart := rfl
@[simp] theorem State.modKitchen_catchUp (k : Nat) (f : Kitchen → Kitchen) : (s.modKitchen k f).catchUp = s.catchUp := rfl
@[simp] theorem State.modKitchen_attn (k : Nat) (f : Kitchen → Kitchen) : (s.modKitchen k f).attn = s.attn := rfl

/-! ### `modPanel` -/

@[simp] theorem State.modPanel_pending (p : Nat) (f : Panel → Panel) : (s.modPanel p f).pending = s.pending := rfl
@[simp] theorem State.modPanel_clock (p : Nat) (f : Panel → Panel) : (s.modPanel p f).clock = s.clock := rfl
@[simp] theorem State.modPanel_owed (p : Nat) (f : Panel → Panel) : (s.modPanel p f).owed = s.owed := rfl
@[simp] theorem State.modPanel_handed (p : Nat) (f : Panel → Panel) : (s.modPanel p f).handed = s.handed := rfl
@[simp] theorem State.modPanel_distance (p : Nat) (f : Panel → Panel) : (s.modPanel p f).distance = s.distance := rfl
@[simp] theorem State.modPanel_rooms (p : Nat) (f : Panel → Panel) : (s.modPanel p f).rooms = s.rooms := rfl
@[simp] theorem State.modPanel_kitchens (p : Nat) (f : Panel → Panel) : (s.modPanel p f).kitchens = s.kitchens := rfl
@[simp] theorem State.modPanel_weights (p : Nat) (f : Panel → Panel) : (s.modPanel p f).weights = s.weights := rfl
@[simp] theorem State.modPanel_policyRec (p : Nat) (f : Panel → Panel) : (s.modPanel p f).policyRec = s.policyRec := rfl
@[simp] theorem State.modPanel_store (p : Nat) (f : Panel → Panel) : (s.modPanel p f).store = s.store := rfl
@[simp] theorem State.modPanel_dir (p : Nat) (f : Panel → Panel) : (s.modPanel p f).dir = s.dir := rfl
@[simp] theorem State.modPanel_series (p : Nat) (f : Panel → Panel) : (s.modPanel p f).series = s.series := rfl
@[simp] theorem State.modPanel_placement (p : Nat) (f : Panel → Panel) : (s.modPanel p f).placement = s.placement := rfl
@[simp] theorem State.modPanel_bank (p : Nat) (f : Panel → Panel) : (s.modPanel p f).bank = s.bank := rfl
@[simp] theorem State.modPanel_panelBus_ports (p : Nat) (f : Panel → Panel) : (s.modPanel p f).panelBus.ports = s.panelBus.ports := rfl
@[simp] theorem State.modPanel_panelBus_viewReports (p : Nat) (f : Panel → Panel) : (s.modPanel p f).panelBus.viewReports = s.panelBus.viewReports := rfl
@[simp] theorem State.modPanel_panelBus_listReports (p : Nat) (f : Panel → Panel) : (s.modPanel p f).panelBus.listReports = s.panelBus.listReports := rfl
@[simp] theorem State.modPanel_catering (p : Nat) (f : Panel → Panel) : (s.modPanel p f).catering = s.catering := rfl
@[simp] theorem State.modPanel_sweep (p : Nat) (f : Panel → Panel) : (s.modPanel p f).sweep = s.sweep := rfl
@[simp] theorem State.modPanel_link (p : Nat) (f : Panel → Panel) : (s.modPanel p f).link = s.link := rfl
@[simp] theorem State.modPanel_notice (p : Nat) (f : Panel → Panel) : (s.modPanel p f).notice = s.notice := rfl
@[simp] theorem State.modPanel_retention (p : Nat) (f : Panel → Panel) : (s.modPanel p f).retention = s.retention := rfl
@[simp] theorem State.modPanel_catchUpOwed (p : Nat) (f : Panel → Panel) : (s.modPanel p f).catchUpOwed = s.catchUpOwed := rfl
@[simp] theorem State.modPanel_missedDayStart (p : Nat) (f : Panel → Panel) : (s.modPanel p f).missedDayStart = s.missedDayStart := rfl
@[simp] theorem State.modPanel_catchUp (p : Nat) (f : Panel → Panel) : (s.modPanel p f).catchUp = s.catchUp := rfl
@[simp] theorem State.modPanel_attn (p : Nat) (f : Panel → Panel) : (s.modPanel p f).attn = s.attn := rfl

/-! ### `modPort` -/

@[simp] theorem State.modPort_pending (p : Nat) (f : Port → Port) : (s.modPort p f).pending = s.pending := rfl
@[simp] theorem State.modPort_clock (p : Nat) (f : Port → Port) : (s.modPort p f).clock = s.clock := rfl
@[simp] theorem State.modPort_owed (p : Nat) (f : Port → Port) : (s.modPort p f).owed = s.owed := rfl
@[simp] theorem State.modPort_handed (p : Nat) (f : Port → Port) : (s.modPort p f).handed = s.handed := rfl
@[simp] theorem State.modPort_distance (p : Nat) (f : Port → Port) : (s.modPort p f).distance = s.distance := rfl
@[simp] theorem State.modPort_rooms (p : Nat) (f : Port → Port) : (s.modPort p f).rooms = s.rooms := rfl
@[simp] theorem State.modPort_kitchens (p : Nat) (f : Port → Port) : (s.modPort p f).kitchens = s.kitchens := rfl
@[simp] theorem State.modPort_weights (p : Nat) (f : Port → Port) : (s.modPort p f).weights = s.weights := rfl
@[simp] theorem State.modPort_policyRec (p : Nat) (f : Port → Port) : (s.modPort p f).policyRec = s.policyRec := rfl
@[simp] theorem State.modPort_store (p : Nat) (f : Port → Port) : (s.modPort p f).store = s.store := rfl
@[simp] theorem State.modPort_dir (p : Nat) (f : Port → Port) : (s.modPort p f).dir = s.dir := rfl
@[simp] theorem State.modPort_series (p : Nat) (f : Port → Port) : (s.modPort p f).series = s.series := rfl
@[simp] theorem State.modPort_placement (p : Nat) (f : Port → Port) : (s.modPort p f).placement = s.placement := rfl
@[simp] theorem State.modPort_bank (p : Nat) (f : Port → Port) : (s.modPort p f).bank = s.bank := rfl
@[simp] theorem State.modPort_panelBus_panels (p : Nat) (f : Port → Port) : (s.modPort p f).panelBus.panels = s.panelBus.panels := rfl
@[simp] theorem State.modPort_panelBus_viewReports (p : Nat) (f : Port → Port) : (s.modPort p f).panelBus.viewReports = s.panelBus.viewReports := rfl
@[simp] theorem State.modPort_panelBus_listReports (p : Nat) (f : Port → Port) : (s.modPort p f).panelBus.listReports = s.panelBus.listReports := rfl
@[simp] theorem State.modPort_catering (p : Nat) (f : Port → Port) : (s.modPort p f).catering = s.catering := rfl
@[simp] theorem State.modPort_sweep (p : Nat) (f : Port → Port) : (s.modPort p f).sweep = s.sweep := rfl
@[simp] theorem State.modPort_link (p : Nat) (f : Port → Port) : (s.modPort p f).link = s.link := rfl
@[simp] theorem State.modPort_notice (p : Nat) (f : Port → Port) : (s.modPort p f).notice = s.notice := rfl
@[simp] theorem State.modPort_retention (p : Nat) (f : Port → Port) : (s.modPort p f).retention = s.retention := rfl
@[simp] theorem State.modPort_catchUpOwed (p : Nat) (f : Port → Port) : (s.modPort p f).catchUpOwed = s.catchUpOwed := rfl
@[simp] theorem State.modPort_missedDayStart (p : Nat) (f : Port → Port) : (s.modPort p f).missedDayStart = s.missedDayStart := rfl
@[simp] theorem State.modPort_catchUp (p : Nat) (f : Port → Port) : (s.modPort p f).catchUp = s.catchUp := rfl
@[simp] theorem State.modPort_attn (p : Nat) (f : Port → Port) : (s.modPort p f).attn = s.attn := rfl

/-! ### `modChannel` -/

@[simp] theorem State.modChannel_pending (c : Nat) (f : Channel → Channel) : (s.modChannel c f).pending = s.pending := rfl
@[simp] theorem State.modChannel_clock (c : Nat) (f : Channel → Channel) : (s.modChannel c f).clock = s.clock := rfl
@[simp] theorem State.modChannel_owed (c : Nat) (f : Channel → Channel) : (s.modChannel c f).owed = s.owed := rfl
@[simp] theorem State.modChannel_handed (c : Nat) (f : Channel → Channel) : (s.modChannel c f).handed = s.handed := rfl
@[simp] theorem State.modChannel_distance (c : Nat) (f : Channel → Channel) : (s.modChannel c f).distance = s.distance := rfl
@[simp] theorem State.modChannel_rooms (c : Nat) (f : Channel → Channel) : (s.modChannel c f).rooms = s.rooms := rfl
@[simp] theorem State.modChannel_kitchens (c : Nat) (f : Channel → Channel) : (s.modChannel c f).kitchens = s.kitchens := rfl
@[simp] theorem State.modChannel_weights (c : Nat) (f : Channel → Channel) : (s.modChannel c f).weights = s.weights := rfl
@[simp] theorem State.modChannel_policyRec (c : Nat) (f : Channel → Channel) : (s.modChannel c f).policyRec = s.policyRec := rfl
@[simp] theorem State.modChannel_store (c : Nat) (f : Channel → Channel) : (s.modChannel c f).store = s.store := rfl
@[simp] theorem State.modChannel_dir (c : Nat) (f : Channel → Channel) : (s.modChannel c f).dir = s.dir := rfl
@[simp] theorem State.modChannel_series (c : Nat) (f : Channel → Channel) : (s.modChannel c f).series = s.series := rfl
@[simp] theorem State.modChannel_placement (c : Nat) (f : Channel → Channel) : (s.modChannel c f).placement = s.placement := rfl
@[simp] theorem State.modChannel_bank_timerCount (c : Nat) (f : Channel → Channel) : (s.modChannel c f).bank.timerCount = s.bank.timerCount := rfl
@[simp] theorem State.modChannel_panelBus (c : Nat) (f : Channel → Channel) : (s.modChannel c f).panelBus = s.panelBus := rfl
@[simp] theorem State.modChannel_catering (c : Nat) (f : Channel → Channel) : (s.modChannel c f).catering = s.catering := rfl
@[simp] theorem State.modChannel_sweep (c : Nat) (f : Channel → Channel) : (s.modChannel c f).sweep = s.sweep := rfl
@[simp] theorem State.modChannel_link (c : Nat) (f : Channel → Channel) : (s.modChannel c f).link = s.link := rfl
@[simp] theorem State.modChannel_notice (c : Nat) (f : Channel → Channel) : (s.modChannel c f).notice = s.notice := rfl
@[simp] theorem State.modChannel_retention (c : Nat) (f : Channel → Channel) : (s.modChannel c f).retention = s.retention := rfl
@[simp] theorem State.modChannel_catchUpOwed (c : Nat) (f : Channel → Channel) : (s.modChannel c f).catchUpOwed = s.catchUpOwed := rfl
@[simp] theorem State.modChannel_missedDayStart (c : Nat) (f : Channel → Channel) : (s.modChannel c f).missedDayStart = s.missedDayStart := rfl
@[simp] theorem State.modChannel_catchUp (c : Nat) (f : Channel → Channel) : (s.modChannel c f).catchUp = s.catchUp := rfl
@[simp] theorem State.modChannel_attn (c : Nat) (f : Channel → Channel) : (s.modChannel c f).attn = s.attn := rfl

/-! ### `modSeries` -/

@[simp] theorem State.modSeries_pending (i : Nat) (f : Series → Series) : (s.modSeries i f).pending = s.pending := rfl
@[simp] theorem State.modSeries_clock (i : Nat) (f : Series → Series) : (s.modSeries i f).clock = s.clock := rfl
@[simp] theorem State.modSeries_owed (i : Nat) (f : Series → Series) : (s.modSeries i f).owed = s.owed := rfl
@[simp] theorem State.modSeries_handed (i : Nat) (f : Series → Series) : (s.modSeries i f).handed = s.handed := rfl
@[simp] theorem State.modSeries_distance (i : Nat) (f : Series → Series) : (s.modSeries i f).distance = s.distance := rfl
@[simp] theorem State.modSeries_rooms (i : Nat) (f : Series → Series) : (s.modSeries i f).rooms = s.rooms := rfl
@[simp] theorem State.modSeries_kitchens (i : Nat) (f : Series → Series) : (s.modSeries i f).kitchens = s.kitchens := rfl
@[simp] theorem State.modSeries_weights (i : Nat) (f : Series → Series) : (s.modSeries i f).weights = s.weights := rfl
@[simp] theorem State.modSeries_policyRec (i : Nat) (f : Series → Series) : (s.modSeries i f).policyRec = s.policyRec := rfl
@[simp] theorem State.modSeries_store (i : Nat) (f : Series → Series) : (s.modSeries i f).store = s.store := rfl
@[simp] theorem State.modSeries_dir (i : Nat) (f : Series → Series) : (s.modSeries i f).dir = s.dir := rfl
@[simp] theorem State.modSeries_series_walk (i : Nat) (f : Series → Series) : (s.modSeries i f).series.walk = s.series.walk := rfl
@[simp] theorem State.modSeries_series_pendingDay (i : Nat) (f : Series → Series) : (s.modSeries i f).series.pendingDay = s.series.pendingDay := rfl
@[simp] theorem State.modSeries_series_lastDay (i : Nat) (f : Series → Series) : (s.modSeries i f).series.lastDay = s.series.lastDay := rfl
@[simp] theorem State.modSeries_series_passQueue (i : Nat) (f : Series → Series) : (s.modSeries i f).series.passQueue = s.series.passQueue := rfl
@[simp] theorem State.modSeries_series_pass (i : Nat) (f : Series → Series) : (s.modSeries i f).series.pass = s.series.pass := rfl
@[simp] theorem State.modSeries_placement (i : Nat) (f : Series → Series) : (s.modSeries i f).placement = s.placement := rfl
@[simp] theorem State.modSeries_bank (i : Nat) (f : Series → Series) : (s.modSeries i f).bank = s.bank := rfl
@[simp] theorem State.modSeries_panelBus (i : Nat) (f : Series → Series) : (s.modSeries i f).panelBus = s.panelBus := rfl
@[simp] theorem State.modSeries_catering (i : Nat) (f : Series → Series) : (s.modSeries i f).catering = s.catering := rfl
@[simp] theorem State.modSeries_sweep (i : Nat) (f : Series → Series) : (s.modSeries i f).sweep = s.sweep := rfl
@[simp] theorem State.modSeries_link (i : Nat) (f : Series → Series) : (s.modSeries i f).link = s.link := rfl
@[simp] theorem State.modSeries_notice (i : Nat) (f : Series → Series) : (s.modSeries i f).notice = s.notice := rfl
@[simp] theorem State.modSeries_retention (i : Nat) (f : Series → Series) : (s.modSeries i f).retention = s.retention := rfl
@[simp] theorem State.modSeries_catchUpOwed (i : Nat) (f : Series → Series) : (s.modSeries i f).catchUpOwed = s.catchUpOwed := rfl
@[simp] theorem State.modSeries_missedDayStart (i : Nat) (f : Series → Series) : (s.modSeries i f).missedDayStart = s.missedDayStart := rfl
@[simp] theorem State.modSeries_catchUp (i : Nat) (f : Series → Series) : (s.modSeries i f).catchUp = s.catchUp := rfl
@[simp] theorem State.modSeries_attn (i : Nat) (f : Series → Series) : (s.modSeries i f).attn = s.attn := rfl

/-! ### `modBooking` -/

@[simp] theorem State.modBooking_pending (i : Nat) (f : Booking → Booking) : (s.modBooking i f).pending = s.pending := rfl
@[simp] theorem State.modBooking_clock (i : Nat) (f : Booking → Booking) : (s.modBooking i f).clock = s.clock := rfl
@[simp] theorem State.modBooking_owed (i : Nat) (f : Booking → Booking) : (s.modBooking i f).owed = s.owed := rfl
@[simp] theorem State.modBooking_handed (i : Nat) (f : Booking → Booking) : (s.modBooking i f).handed = s.handed := rfl
@[simp] theorem State.modBooking_distance (i : Nat) (f : Booking → Booking) : (s.modBooking i f).distance = s.distance := rfl
@[simp] theorem State.modBooking_rooms (i : Nat) (f : Booking → Booking) : (s.modBooking i f).rooms = s.rooms := rfl
@[simp] theorem State.modBooking_kitchens (i : Nat) (f : Booking → Booking) : (s.modBooking i f).kitchens = s.kitchens := rfl
@[simp] theorem State.modBooking_weights (i : Nat) (f : Booking → Booking) : (s.modBooking i f).weights = s.weights := rfl
@[simp] theorem State.modBooking_policyRec (i : Nat) (f : Booking → Booking) : (s.modBooking i f).policyRec = s.policyRec := rfl
@[simp] theorem State.modBooking_store (i : Nat) (f : Booking → Booking) : (s.modBooking i f).store = s.store := rfl
@[simp] theorem State.modBooking_dir_fifo (i : Nat) (f : Booking → Booking) : (s.modBooking i f).dir.fifo = s.dir.fifo := rfl
@[simp] theorem State.modBooking_dir_refs (i : Nat) (f : Booking → Booking) : (s.modBooking i f).dir.refs = s.dir.refs := rfl
@[simp] theorem State.modBooking_series (i : Nat) (f : Booking → Booking) : (s.modBooking i f).series = s.series := rfl
@[simp] theorem State.modBooking_placement (i : Nat) (f : Booking → Booking) : (s.modBooking i f).placement = s.placement := rfl
@[simp] theorem State.modBooking_bank (i : Nat) (f : Booking → Booking) : (s.modBooking i f).bank = s.bank := rfl
@[simp] theorem State.modBooking_panelBus (i : Nat) (f : Booking → Booking) : (s.modBooking i f).panelBus = s.panelBus := rfl
@[simp] theorem State.modBooking_catering (i : Nat) (f : Booking → Booking) : (s.modBooking i f).catering = s.catering := rfl
@[simp] theorem State.modBooking_sweep (i : Nat) (f : Booking → Booking) : (s.modBooking i f).sweep = s.sweep := rfl
@[simp] theorem State.modBooking_link (i : Nat) (f : Booking → Booking) : (s.modBooking i f).link = s.link := rfl
@[simp] theorem State.modBooking_notice (i : Nat) (f : Booking → Booking) : (s.modBooking i f).notice = s.notice := rfl
@[simp] theorem State.modBooking_retention (i : Nat) (f : Booking → Booking) : (s.modBooking i f).retention = s.retention := rfl
@[simp] theorem State.modBooking_catchUpOwed (i : Nat) (f : Booking → Booking) : (s.modBooking i f).catchUpOwed = s.catchUpOwed := rfl
@[simp] theorem State.modBooking_missedDayStart (i : Nat) (f : Booking → Booking) : (s.modBooking i f).missedDayStart = s.missedDayStart := rfl
@[simp] theorem State.modBooking_catchUp (i : Nat) (f : Booking → Booking) : (s.modBooking i f).catchUp = s.catchUp := rfl
@[simp] theorem State.modBooking_attn (i : Nat) (f : Booking → Booking) : (s.modBooking i f).attn = s.attn := rfl

/-! ### `modOrder` -/

@[simp] theorem State.modOrder_pending (i : Nat) (f : Order → Order) : (s.modOrder i f).pending = s.pending := rfl
@[simp] theorem State.modOrder_clock (i : Nat) (f : Order → Order) : (s.modOrder i f).clock = s.clock := rfl
@[simp] theorem State.modOrder_owed (i : Nat) (f : Order → Order) : (s.modOrder i f).owed = s.owed := rfl
@[simp] theorem State.modOrder_handed (i : Nat) (f : Order → Order) : (s.modOrder i f).handed = s.handed := rfl
@[simp] theorem State.modOrder_distance (i : Nat) (f : Order → Order) : (s.modOrder i f).distance = s.distance := rfl
@[simp] theorem State.modOrder_rooms (i : Nat) (f : Order → Order) : (s.modOrder i f).rooms = s.rooms := rfl
@[simp] theorem State.modOrder_kitchens (i : Nat) (f : Order → Order) : (s.modOrder i f).kitchens = s.kitchens := rfl
@[simp] theorem State.modOrder_weights (i : Nat) (f : Order → Order) : (s.modOrder i f).weights = s.weights := rfl
@[simp] theorem State.modOrder_policyRec (i : Nat) (f : Order → Order) : (s.modOrder i f).policyRec = s.policyRec := rfl
@[simp] theorem State.modOrder_store (i : Nat) (f : Order → Order) : (s.modOrder i f).store = s.store := rfl
@[simp] theorem State.modOrder_dir_fifo (i : Nat) (f : Order → Order) : (s.modOrder i f).dir.fifo = s.dir.fifo := rfl
@[simp] theorem State.modOrder_dir_refs (i : Nat) (f : Order → Order) : (s.modOrder i f).dir.refs = s.dir.refs := rfl
@[simp] theorem State.modOrder_series (i : Nat) (f : Order → Order) : (s.modOrder i f).series = s.series := rfl
@[simp] theorem State.modOrder_placement (i : Nat) (f : Order → Order) : (s.modOrder i f).placement = s.placement := rfl
@[simp] theorem State.modOrder_bank (i : Nat) (f : Order → Order) : (s.modOrder i f).bank = s.bank := rfl
@[simp] theorem State.modOrder_panelBus (i : Nat) (f : Order → Order) : (s.modOrder i f).panelBus = s.panelBus := rfl
@[simp] theorem State.modOrder_catering (i : Nat) (f : Order → Order) : (s.modOrder i f).catering = s.catering := rfl
@[simp] theorem State.modOrder_sweep (i : Nat) (f : Order → Order) : (s.modOrder i f).sweep = s.sweep := rfl
@[simp] theorem State.modOrder_link (i : Nat) (f : Order → Order) : (s.modOrder i f).link = s.link := rfl
@[simp] theorem State.modOrder_notice (i : Nat) (f : Order → Order) : (s.modOrder i f).notice = s.notice := rfl
@[simp] theorem State.modOrder_retention (i : Nat) (f : Order → Order) : (s.modOrder i f).retention = s.retention := rfl
@[simp] theorem State.modOrder_catchUpOwed (i : Nat) (f : Order → Order) : (s.modOrder i f).catchUpOwed = s.catchUpOwed := rfl
@[simp] theorem State.modOrder_missedDayStart (i : Nat) (f : Order → Order) : (s.modOrder i f).missedDayStart = s.missedDayStart := rfl
@[simp] theorem State.modOrder_catchUp (i : Nat) (f : Order → Order) : (s.modOrder i f).catchUp = s.catchUp := rfl
@[simp] theorem State.modOrder_attn (i : Nat) (f : Order → Order) : (s.modOrder i f).attn = s.attn := rfl

/-! ### `enter` -/

@[simp] theorem State.enter_pending (b : Booking) : (s.enter b).pending = s.pending := rfl
@[simp] theorem State.enter_clock (b : Booking) : (s.enter b).clock = s.clock := rfl
@[simp] theorem State.enter_owed (b : Booking) : (s.enter b).owed = s.owed := rfl
@[simp] theorem State.enter_handed (b : Booking) : (s.enter b).handed = s.handed := rfl
@[simp] theorem State.enter_distance (b : Booking) : (s.enter b).distance = s.distance := rfl
@[simp] theorem State.enter_rooms (b : Booking) : (s.enter b).rooms = s.rooms := rfl
@[simp] theorem State.enter_kitchens (b : Booking) : (s.enter b).kitchens = s.kitchens := rfl
@[simp] theorem State.enter_weights (b : Booking) : (s.enter b).weights = s.weights := rfl
@[simp] theorem State.enter_policyRec (b : Booking) : (s.enter b).policyRec = s.policyRec := rfl
@[simp] theorem State.enter_store (b : Booking) : (s.enter b).store = s.store := rfl
@[simp] theorem State.enter_dir_fifo (b : Booking) : (s.enter b).dir.fifo = s.dir.fifo := rfl
@[simp] theorem State.enter_dir_refs (b : Booking) : (s.enter b).dir.refs = s.dir.refs := rfl
@[simp] theorem State.enter_series (b : Booking) : (s.enter b).series = s.series := rfl
@[simp] theorem State.enter_placement (b : Booking) : (s.enter b).placement = s.placement := rfl
@[simp] theorem State.enter_bank (b : Booking) : (s.enter b).bank = s.bank := rfl
@[simp] theorem State.enter_panelBus (b : Booking) : (s.enter b).panelBus = s.panelBus := rfl
@[simp] theorem State.enter_catering (b : Booking) : (s.enter b).catering = s.catering := rfl
@[simp] theorem State.enter_sweep (b : Booking) : (s.enter b).sweep = s.sweep := rfl
@[simp] theorem State.enter_link (b : Booking) : (s.enter b).link = s.link := rfl
@[simp] theorem State.enter_notice (b : Booking) : (s.enter b).notice = s.notice := rfl
@[simp] theorem State.enter_retention (b : Booking) : (s.enter b).retention = s.retention := rfl
@[simp] theorem State.enter_catchUpOwed (b : Booking) : (s.enter b).catchUpOwed = s.catchUpOwed := rfl
@[simp] theorem State.enter_missedDayStart (b : Booking) : (s.enter b).missedDayStart = s.missedDayStart := rfl
@[simp] theorem State.enter_catchUp (b : Booking) : (s.enter b).catchUp = s.catchUp := rfl
@[simp] theorem State.enter_attn (b : Booking) : (s.enter b).attn = s.attn := rfl

/-! ### `raiseChanged` -/

@[simp] theorem State.raiseChanged_pending : (s.raiseChanged).pending = s.pending := rfl
@[simp] theorem State.raiseChanged_clock : (s.raiseChanged).clock = s.clock := rfl
@[simp] theorem State.raiseChanged_owed : (s.raiseChanged).owed = s.owed := rfl
@[simp] theorem State.raiseChanged_handed : (s.raiseChanged).handed = s.handed := rfl
@[simp] theorem State.raiseChanged_distance : (s.raiseChanged).distance = s.distance := rfl
@[simp] theorem State.raiseChanged_rooms : (s.raiseChanged).rooms = s.rooms := rfl
@[simp] theorem State.raiseChanged_kitchens : (s.raiseChanged).kitchens = s.kitchens := rfl
@[simp] theorem State.raiseChanged_weights : (s.raiseChanged).weights = s.weights := rfl
@[simp] theorem State.raiseChanged_policyRec : (s.raiseChanged).policyRec = s.policyRec := rfl
@[simp] theorem State.raiseChanged_store : (s.raiseChanged).store = s.store := rfl
@[simp] theorem State.raiseChanged_dir : (s.raiseChanged).dir = s.dir := rfl
@[simp] theorem State.raiseChanged_series : (s.raiseChanged).series = s.series := rfl
@[simp] theorem State.raiseChanged_placement : (s.raiseChanged).placement = s.placement := rfl
@[simp] theorem State.raiseChanged_bank : (s.raiseChanged).bank = s.bank := rfl
@[simp] theorem State.raiseChanged_panelBus : (s.raiseChanged).panelBus = s.panelBus := rfl
@[simp] theorem State.raiseChanged_catering : (s.raiseChanged).catering = s.catering := rfl
@[simp] theorem State.raiseChanged_sweep : (s.raiseChanged).sweep = s.sweep := rfl
@[simp] theorem State.raiseChanged_link : (s.raiseChanged).link = s.link := rfl
@[simp] theorem State.raiseChanged_notice_series : (s.raiseChanged).notice.series = s.notice.series := rfl
@[simp] theorem State.raiseChanged_notice_panel : (s.raiseChanged).notice.panel = s.notice.panel := rfl
@[simp] theorem State.raiseChanged_notice_catering : (s.raiseChanged).notice.catering = s.notice.catering := rfl
@[simp] theorem State.raiseChanged_notice_store : (s.raiseChanged).notice.store = s.notice.store := rfl
@[simp] theorem State.raiseChanged_notice_clock : (s.raiseChanged).notice.clock = s.notice.clock := rfl
@[simp] theorem State.raiseChanged_notice_enables : (s.raiseChanged).notice.enables = s.notice.enables := rfl
@[simp] theorem State.raiseChanged_notice_master : (s.raiseChanged).notice.master = s.notice.master := rfl
@[simp] theorem State.raiseChanged_retention : (s.raiseChanged).retention = s.retention := rfl
@[simp] theorem State.raiseChanged_catchUpOwed : (s.raiseChanged).catchUpOwed = s.catchUpOwed := rfl
@[simp] theorem State.raiseChanged_missedDayStart : (s.raiseChanged).missedDayStart = s.missedDayStart := rfl
@[simp] theorem State.raiseChanged_catchUp : (s.raiseChanged).catchUp = s.catchUp := rfl
@[simp] theorem State.raiseChanged_attn : (s.raiseChanged).attn = s.attn := rfl

/-! ### `raiseSeries` -/

@[simp] theorem State.raiseSeries_pending : (s.raiseSeries).pending = s.pending := rfl
@[simp] theorem State.raiseSeries_clock : (s.raiseSeries).clock = s.clock := rfl
@[simp] theorem State.raiseSeries_owed : (s.raiseSeries).owed = s.owed := rfl
@[simp] theorem State.raiseSeries_handed : (s.raiseSeries).handed = s.handed := rfl
@[simp] theorem State.raiseSeries_distance : (s.raiseSeries).distance = s.distance := rfl
@[simp] theorem State.raiseSeries_rooms : (s.raiseSeries).rooms = s.rooms := rfl
@[simp] theorem State.raiseSeries_kitchens : (s.raiseSeries).kitchens = s.kitchens := rfl
@[simp] theorem State.raiseSeries_weights : (s.raiseSeries).weights = s.weights := rfl
@[simp] theorem State.raiseSeries_policyRec : (s.raiseSeries).policyRec = s.policyRec := rfl
@[simp] theorem State.raiseSeries_store : (s.raiseSeries).store = s.store := rfl
@[simp] theorem State.raiseSeries_dir : (s.raiseSeries).dir = s.dir := rfl
@[simp] theorem State.raiseSeries_series : (s.raiseSeries).series = s.series := rfl
@[simp] theorem State.raiseSeries_placement : (s.raiseSeries).placement = s.placement := rfl
@[simp] theorem State.raiseSeries_bank : (s.raiseSeries).bank = s.bank := rfl
@[simp] theorem State.raiseSeries_panelBus : (s.raiseSeries).panelBus = s.panelBus := rfl
@[simp] theorem State.raiseSeries_catering : (s.raiseSeries).catering = s.catering := rfl
@[simp] theorem State.raiseSeries_sweep : (s.raiseSeries).sweep = s.sweep := rfl
@[simp] theorem State.raiseSeries_link : (s.raiseSeries).link = s.link := rfl
@[simp] theorem State.raiseSeries_notice_changed : (s.raiseSeries).notice.changed = s.notice.changed := rfl
@[simp] theorem State.raiseSeries_notice_panel : (s.raiseSeries).notice.panel = s.notice.panel := rfl
@[simp] theorem State.raiseSeries_notice_catering : (s.raiseSeries).notice.catering = s.notice.catering := rfl
@[simp] theorem State.raiseSeries_notice_store : (s.raiseSeries).notice.store = s.notice.store := rfl
@[simp] theorem State.raiseSeries_notice_clock : (s.raiseSeries).notice.clock = s.notice.clock := rfl
@[simp] theorem State.raiseSeries_notice_enables : (s.raiseSeries).notice.enables = s.notice.enables := rfl
@[simp] theorem State.raiseSeries_notice_master : (s.raiseSeries).notice.master = s.notice.master := rfl
@[simp] theorem State.raiseSeries_retention : (s.raiseSeries).retention = s.retention := rfl
@[simp] theorem State.raiseSeries_catchUpOwed : (s.raiseSeries).catchUpOwed = s.catchUpOwed := rfl
@[simp] theorem State.raiseSeries_missedDayStart : (s.raiseSeries).missedDayStart = s.missedDayStart := rfl
@[simp] theorem State.raiseSeries_catchUp : (s.raiseSeries).catchUp = s.catchUp := rfl
@[simp] theorem State.raiseSeries_attn : (s.raiseSeries).attn = s.attn := rfl

/-! ### `raisePanel` -/

@[simp] theorem State.raisePanel_pending : (s.raisePanel).pending = s.pending := rfl
@[simp] theorem State.raisePanel_clock : (s.raisePanel).clock = s.clock := rfl
@[simp] theorem State.raisePanel_owed : (s.raisePanel).owed = s.owed := rfl
@[simp] theorem State.raisePanel_handed : (s.raisePanel).handed = s.handed := rfl
@[simp] theorem State.raisePanel_distance : (s.raisePanel).distance = s.distance := rfl
@[simp] theorem State.raisePanel_rooms : (s.raisePanel).rooms = s.rooms := rfl
@[simp] theorem State.raisePanel_kitchens : (s.raisePanel).kitchens = s.kitchens := rfl
@[simp] theorem State.raisePanel_weights : (s.raisePanel).weights = s.weights := rfl
@[simp] theorem State.raisePanel_policyRec : (s.raisePanel).policyRec = s.policyRec := rfl
@[simp] theorem State.raisePanel_store : (s.raisePanel).store = s.store := rfl
@[simp] theorem State.raisePanel_dir : (s.raisePanel).dir = s.dir := rfl
@[simp] theorem State.raisePanel_series : (s.raisePanel).series = s.series := rfl
@[simp] theorem State.raisePanel_placement : (s.raisePanel).placement = s.placement := rfl
@[simp] theorem State.raisePanel_bank : (s.raisePanel).bank = s.bank := rfl
@[simp] theorem State.raisePanel_panelBus : (s.raisePanel).panelBus = s.panelBus := rfl
@[simp] theorem State.raisePanel_catering : (s.raisePanel).catering = s.catering := rfl
@[simp] theorem State.raisePanel_sweep : (s.raisePanel).sweep = s.sweep := rfl
@[simp] theorem State.raisePanel_link : (s.raisePanel).link = s.link := rfl
@[simp] theorem State.raisePanel_notice_changed : (s.raisePanel).notice.changed = s.notice.changed := rfl
@[simp] theorem State.raisePanel_notice_series : (s.raisePanel).notice.series = s.notice.series := rfl
@[simp] theorem State.raisePanel_notice_catering : (s.raisePanel).notice.catering = s.notice.catering := rfl
@[simp] theorem State.raisePanel_notice_store : (s.raisePanel).notice.store = s.notice.store := rfl
@[simp] theorem State.raisePanel_notice_clock : (s.raisePanel).notice.clock = s.notice.clock := rfl
@[simp] theorem State.raisePanel_notice_enables : (s.raisePanel).notice.enables = s.notice.enables := rfl
@[simp] theorem State.raisePanel_notice_master : (s.raisePanel).notice.master = s.notice.master := rfl
@[simp] theorem State.raisePanel_retention : (s.raisePanel).retention = s.retention := rfl
@[simp] theorem State.raisePanel_catchUpOwed : (s.raisePanel).catchUpOwed = s.catchUpOwed := rfl
@[simp] theorem State.raisePanel_missedDayStart : (s.raisePanel).missedDayStart = s.missedDayStart := rfl
@[simp] theorem State.raisePanel_catchUp : (s.raisePanel).catchUp = s.catchUp := rfl
@[simp] theorem State.raisePanel_attn : (s.raisePanel).attn = s.attn := rfl

/-! ### `raiseCatering` -/

@[simp] theorem State.raiseCatering_pending : (s.raiseCatering).pending = s.pending := rfl
@[simp] theorem State.raiseCatering_clock : (s.raiseCatering).clock = s.clock := rfl
@[simp] theorem State.raiseCatering_owed : (s.raiseCatering).owed = s.owed := rfl
@[simp] theorem State.raiseCatering_handed : (s.raiseCatering).handed = s.handed := rfl
@[simp] theorem State.raiseCatering_distance : (s.raiseCatering).distance = s.distance := rfl
@[simp] theorem State.raiseCatering_rooms : (s.raiseCatering).rooms = s.rooms := rfl
@[simp] theorem State.raiseCatering_kitchens : (s.raiseCatering).kitchens = s.kitchens := rfl
@[simp] theorem State.raiseCatering_weights : (s.raiseCatering).weights = s.weights := rfl
@[simp] theorem State.raiseCatering_policyRec : (s.raiseCatering).policyRec = s.policyRec := rfl
@[simp] theorem State.raiseCatering_store : (s.raiseCatering).store = s.store := rfl
@[simp] theorem State.raiseCatering_dir : (s.raiseCatering).dir = s.dir := rfl
@[simp] theorem State.raiseCatering_series : (s.raiseCatering).series = s.series := rfl
@[simp] theorem State.raiseCatering_placement : (s.raiseCatering).placement = s.placement := rfl
@[simp] theorem State.raiseCatering_bank : (s.raiseCatering).bank = s.bank := rfl
@[simp] theorem State.raiseCatering_panelBus : (s.raiseCatering).panelBus = s.panelBus := rfl
@[simp] theorem State.raiseCatering_catering : (s.raiseCatering).catering = s.catering := rfl
@[simp] theorem State.raiseCatering_sweep : (s.raiseCatering).sweep = s.sweep := rfl
@[simp] theorem State.raiseCatering_link : (s.raiseCatering).link = s.link := rfl
@[simp] theorem State.raiseCatering_notice_changed : (s.raiseCatering).notice.changed = s.notice.changed := rfl
@[simp] theorem State.raiseCatering_notice_series : (s.raiseCatering).notice.series = s.notice.series := rfl
@[simp] theorem State.raiseCatering_notice_panel : (s.raiseCatering).notice.panel = s.notice.panel := rfl
@[simp] theorem State.raiseCatering_notice_store : (s.raiseCatering).notice.store = s.notice.store := rfl
@[simp] theorem State.raiseCatering_notice_clock : (s.raiseCatering).notice.clock = s.notice.clock := rfl
@[simp] theorem State.raiseCatering_notice_enables : (s.raiseCatering).notice.enables = s.notice.enables := rfl
@[simp] theorem State.raiseCatering_notice_master : (s.raiseCatering).notice.master = s.notice.master := rfl
@[simp] theorem State.raiseCatering_retention : (s.raiseCatering).retention = s.retention := rfl
@[simp] theorem State.raiseCatering_catchUpOwed : (s.raiseCatering).catchUpOwed = s.catchUpOwed := rfl
@[simp] theorem State.raiseCatering_missedDayStart : (s.raiseCatering).missedDayStart = s.missedDayStart := rfl
@[simp] theorem State.raiseCatering_catchUp : (s.raiseCatering).catchUp = s.catchUp := rfl
@[simp] theorem State.raiseCatering_attn : (s.raiseCatering).attn = s.attn := rfl

/-! ### `raiseClock` -/

@[simp] theorem State.raiseClock_pending : (s.raiseClock).pending = s.pending := rfl
@[simp] theorem State.raiseClock_clock : (s.raiseClock).clock = s.clock := rfl
@[simp] theorem State.raiseClock_owed : (s.raiseClock).owed = s.owed := rfl
@[simp] theorem State.raiseClock_handed : (s.raiseClock).handed = s.handed := rfl
@[simp] theorem State.raiseClock_distance : (s.raiseClock).distance = s.distance := rfl
@[simp] theorem State.raiseClock_rooms : (s.raiseClock).rooms = s.rooms := rfl
@[simp] theorem State.raiseClock_kitchens : (s.raiseClock).kitchens = s.kitchens := rfl
@[simp] theorem State.raiseClock_weights : (s.raiseClock).weights = s.weights := rfl
@[simp] theorem State.raiseClock_policyRec : (s.raiseClock).policyRec = s.policyRec := rfl
@[simp] theorem State.raiseClock_store : (s.raiseClock).store = s.store := rfl
@[simp] theorem State.raiseClock_dir : (s.raiseClock).dir = s.dir := rfl
@[simp] theorem State.raiseClock_series : (s.raiseClock).series = s.series := rfl
@[simp] theorem State.raiseClock_placement : (s.raiseClock).placement = s.placement := rfl
@[simp] theorem State.raiseClock_bank : (s.raiseClock).bank = s.bank := rfl
@[simp] theorem State.raiseClock_panelBus : (s.raiseClock).panelBus = s.panelBus := rfl
@[simp] theorem State.raiseClock_catering : (s.raiseClock).catering = s.catering := rfl
@[simp] theorem State.raiseClock_sweep : (s.raiseClock).sweep = s.sweep := rfl
@[simp] theorem State.raiseClock_link : (s.raiseClock).link = s.link := rfl
@[simp] theorem State.raiseClock_notice_changed : (s.raiseClock).notice.changed = s.notice.changed := rfl
@[simp] theorem State.raiseClock_notice_series : (s.raiseClock).notice.series = s.notice.series := rfl
@[simp] theorem State.raiseClock_notice_panel : (s.raiseClock).notice.panel = s.notice.panel := rfl
@[simp] theorem State.raiseClock_notice_catering : (s.raiseClock).notice.catering = s.notice.catering := rfl
@[simp] theorem State.raiseClock_notice_store : (s.raiseClock).notice.store = s.notice.store := rfl
@[simp] theorem State.raiseClock_notice_enables : (s.raiseClock).notice.enables = s.notice.enables := rfl
@[simp] theorem State.raiseClock_notice_master : (s.raiseClock).notice.master = s.notice.master := rfl
@[simp] theorem State.raiseClock_retention : (s.raiseClock).retention = s.retention := rfl
@[simp] theorem State.raiseClock_catchUpOwed : (s.raiseClock).catchUpOwed = s.catchUpOwed := rfl
@[simp] theorem State.raiseClock_missedDayStart : (s.raiseClock).missedDayStart = s.missedDayStart := rfl
@[simp] theorem State.raiseClock_catchUp : (s.raiseClock).catchUp = s.catchUp := rfl
@[simp] theorem State.raiseClock_attn : (s.raiseClock).attn = s.attn := rfl

/-! ### `reportRoom` -/

@[simp] theorem State.reportRoom_pending (r : Nat) : (s.reportRoom r).pending = s.pending := rfl
@[simp] theorem State.reportRoom_clock (r : Nat) : (s.reportRoom r).clock = s.clock := rfl
@[simp] theorem State.reportRoom_owed (r : Nat) : (s.reportRoom r).owed = s.owed := rfl
@[simp] theorem State.reportRoom_handed (r : Nat) : (s.reportRoom r).handed = s.handed := rfl
@[simp] theorem State.reportRoom_distance (r : Nat) : (s.reportRoom r).distance = s.distance := rfl
@[simp] theorem State.reportRoom_rooms (r : Nat) : (s.reportRoom r).rooms = s.rooms := rfl
@[simp] theorem State.reportRoom_kitchens (r : Nat) : (s.reportRoom r).kitchens = s.kitchens := rfl
@[simp] theorem State.reportRoom_weights (r : Nat) : (s.reportRoom r).weights = s.weights := rfl
@[simp] theorem State.reportRoom_policyRec (r : Nat) : (s.reportRoom r).policyRec = s.policyRec := rfl
@[simp] theorem State.reportRoom_store (r : Nat) : (s.reportRoom r).store = s.store := rfl
@[simp] theorem State.reportRoom_dir (r : Nat) : (s.reportRoom r).dir = s.dir := rfl
@[simp] theorem State.reportRoom_series (r : Nat) : (s.reportRoom r).series = s.series := rfl
@[simp] theorem State.reportRoom_placement (r : Nat) : (s.reportRoom r).placement = s.placement := rfl
@[simp] theorem State.reportRoom_bank (r : Nat) : (s.reportRoom r).bank = s.bank := rfl
@[simp] theorem State.reportRoom_panelBus_panels (r : Nat) : (s.reportRoom r).panelBus.panels = s.panelBus.panels := rfl
@[simp] theorem State.reportRoom_panelBus_ports (r : Nat) : (s.reportRoom r).panelBus.ports = s.panelBus.ports := rfl
@[simp] theorem State.reportRoom_panelBus_listReports (r : Nat) : (s.reportRoom r).panelBus.listReports = s.panelBus.listReports := rfl
@[simp] theorem State.reportRoom_catering (r : Nat) : (s.reportRoom r).catering = s.catering := rfl
@[simp] theorem State.reportRoom_sweep (r : Nat) : (s.reportRoom r).sweep = s.sweep := rfl
@[simp] theorem State.reportRoom_link (r : Nat) : (s.reportRoom r).link = s.link := rfl
@[simp] theorem State.reportRoom_notice (r : Nat) : (s.reportRoom r).notice = s.notice := rfl
@[simp] theorem State.reportRoom_retention (r : Nat) : (s.reportRoom r).retention = s.retention := rfl
@[simp] theorem State.reportRoom_catchUpOwed (r : Nat) : (s.reportRoom r).catchUpOwed = s.catchUpOwed := rfl
@[simp] theorem State.reportRoom_missedDayStart (r : Nat) : (s.reportRoom r).missedDayStart = s.missedDayStart := rfl
@[simp] theorem State.reportRoom_catchUp (r : Nat) : (s.reportRoom r).catchUp = s.catchUp := rfl
@[simp] theorem State.reportRoom_attn (r : Nat) : (s.reportRoom r).attn = s.attn := rfl

/-! ### `reportList` -/

@[simp] theorem State.reportList_pending (k : Nat) : (s.reportList k).pending = s.pending := rfl
@[simp] theorem State.reportList_clock (k : Nat) : (s.reportList k).clock = s.clock := rfl
@[simp] theorem State.reportList_owed (k : Nat) : (s.reportList k).owed = s.owed := rfl
@[simp] theorem State.reportList_handed (k : Nat) : (s.reportList k).handed = s.handed := rfl
@[simp] theorem State.reportList_distance (k : Nat) : (s.reportList k).distance = s.distance := rfl
@[simp] theorem State.reportList_rooms (k : Nat) : (s.reportList k).rooms = s.rooms := rfl
@[simp] theorem State.reportList_kitchens (k : Nat) : (s.reportList k).kitchens = s.kitchens := rfl
@[simp] theorem State.reportList_weights (k : Nat) : (s.reportList k).weights = s.weights := rfl
@[simp] theorem State.reportList_policyRec (k : Nat) : (s.reportList k).policyRec = s.policyRec := rfl
@[simp] theorem State.reportList_store (k : Nat) : (s.reportList k).store = s.store := rfl
@[simp] theorem State.reportList_dir (k : Nat) : (s.reportList k).dir = s.dir := rfl
@[simp] theorem State.reportList_series (k : Nat) : (s.reportList k).series = s.series := rfl
@[simp] theorem State.reportList_placement (k : Nat) : (s.reportList k).placement = s.placement := rfl
@[simp] theorem State.reportList_bank (k : Nat) : (s.reportList k).bank = s.bank := rfl
@[simp] theorem State.reportList_panelBus_panels (k : Nat) : (s.reportList k).panelBus.panels = s.panelBus.panels := rfl
@[simp] theorem State.reportList_panelBus_ports (k : Nat) : (s.reportList k).panelBus.ports = s.panelBus.ports := rfl
@[simp] theorem State.reportList_panelBus_viewReports (k : Nat) : (s.reportList k).panelBus.viewReports = s.panelBus.viewReports := rfl
@[simp] theorem State.reportList_catering (k : Nat) : (s.reportList k).catering = s.catering := rfl
@[simp] theorem State.reportList_sweep (k : Nat) : (s.reportList k).sweep = s.sweep := rfl
@[simp] theorem State.reportList_link (k : Nat) : (s.reportList k).link = s.link := rfl
@[simp] theorem State.reportList_notice (k : Nat) : (s.reportList k).notice = s.notice := rfl
@[simp] theorem State.reportList_retention (k : Nat) : (s.reportList k).retention = s.retention := rfl
@[simp] theorem State.reportList_catchUpOwed (k : Nat) : (s.reportList k).catchUpOwed = s.catchUpOwed := rfl
@[simp] theorem State.reportList_missedDayStart (k : Nat) : (s.reportList k).missedDayStart = s.missedDayStart := rfl
@[simp] theorem State.reportList_catchUp (k : Nat) : (s.reportList k).catchUp = s.catchUp := rfl
@[simp] theorem State.reportList_attn (k : Nat) : (s.reportList k).attn = s.attn := rfl

/-! ### `hand` -/

@[simp] theorem State.hand_pending (c : Instr) : (s.hand c).pending = s.pending := rfl
@[simp] theorem State.hand_clock (c : Instr) : (s.hand c).clock = s.clock := rfl
@[simp] theorem State.hand_owed (c : Instr) : (s.hand c).owed = s.owed := rfl
@[simp] theorem State.hand_distance (c : Instr) : (s.hand c).distance = s.distance := rfl
@[simp] theorem State.hand_rooms (c : Instr) : (s.hand c).rooms = s.rooms := rfl
@[simp] theorem State.hand_kitchens (c : Instr) : (s.hand c).kitchens = s.kitchens := rfl
@[simp] theorem State.hand_weights (c : Instr) : (s.hand c).weights = s.weights := rfl
@[simp] theorem State.hand_policyRec (c : Instr) : (s.hand c).policyRec = s.policyRec := rfl
@[simp] theorem State.hand_store (c : Instr) : (s.hand c).store = s.store := rfl
@[simp] theorem State.hand_dir (c : Instr) : (s.hand c).dir = s.dir := rfl
@[simp] theorem State.hand_series (c : Instr) : (s.hand c).series = s.series := rfl
@[simp] theorem State.hand_placement (c : Instr) : (s.hand c).placement = s.placement := rfl
@[simp] theorem State.hand_bank (c : Instr) : (s.hand c).bank = s.bank := rfl
@[simp] theorem State.hand_panelBus (c : Instr) : (s.hand c).panelBus = s.panelBus := rfl
@[simp] theorem State.hand_catering (c : Instr) : (s.hand c).catering = s.catering := rfl
@[simp] theorem State.hand_sweep (c : Instr) : (s.hand c).sweep = s.sweep := rfl
@[simp] theorem State.hand_link (c : Instr) : (s.hand c).link = s.link := rfl
@[simp] theorem State.hand_notice (c : Instr) : (s.hand c).notice = s.notice := rfl
@[simp] theorem State.hand_retention (c : Instr) : (s.hand c).retention = s.retention := rfl
@[simp] theorem State.hand_catchUpOwed (c : Instr) : (s.hand c).catchUpOwed = s.catchUpOwed := rfl
@[simp] theorem State.hand_missedDayStart (c : Instr) : (s.hand c).missedDayStart = s.missedDayStart := rfl
@[simp] theorem State.hand_catchUp (c : Instr) : (s.hand c).catchUp = s.catchUp := rfl
@[simp] theorem State.hand_attn (c : Instr) : (s.hand c).attn = s.attn := rfl

/-! ### `takeHanded` -/

@[simp] theorem State.takeHanded_pending (c : Instr) : (s.takeHanded c).pending = s.pending := rfl
@[simp] theorem State.takeHanded_clock (c : Instr) : (s.takeHanded c).clock = s.clock := rfl
@[simp] theorem State.takeHanded_owed (c : Instr) : (s.takeHanded c).owed = s.owed := rfl
@[simp] theorem State.takeHanded_distance (c : Instr) : (s.takeHanded c).distance = s.distance := rfl
@[simp] theorem State.takeHanded_rooms (c : Instr) : (s.takeHanded c).rooms = s.rooms := rfl
@[simp] theorem State.takeHanded_kitchens (c : Instr) : (s.takeHanded c).kitchens = s.kitchens := rfl
@[simp] theorem State.takeHanded_weights (c : Instr) : (s.takeHanded c).weights = s.weights := rfl
@[simp] theorem State.takeHanded_policyRec (c : Instr) : (s.takeHanded c).policyRec = s.policyRec := rfl
@[simp] theorem State.takeHanded_store (c : Instr) : (s.takeHanded c).store = s.store := rfl
@[simp] theorem State.takeHanded_dir (c : Instr) : (s.takeHanded c).dir = s.dir := rfl
@[simp] theorem State.takeHanded_series (c : Instr) : (s.takeHanded c).series = s.series := rfl
@[simp] theorem State.takeHanded_placement (c : Instr) : (s.takeHanded c).placement = s.placement := rfl
@[simp] theorem State.takeHanded_bank (c : Instr) : (s.takeHanded c).bank = s.bank := rfl
@[simp] theorem State.takeHanded_panelBus (c : Instr) : (s.takeHanded c).panelBus = s.panelBus := rfl
@[simp] theorem State.takeHanded_catering (c : Instr) : (s.takeHanded c).catering = s.catering := rfl
@[simp] theorem State.takeHanded_sweep (c : Instr) : (s.takeHanded c).sweep = s.sweep := rfl
@[simp] theorem State.takeHanded_link (c : Instr) : (s.takeHanded c).link = s.link := rfl
@[simp] theorem State.takeHanded_notice (c : Instr) : (s.takeHanded c).notice = s.notice := rfl
@[simp] theorem State.takeHanded_retention (c : Instr) : (s.takeHanded c).retention = s.retention := rfl
@[simp] theorem State.takeHanded_catchUpOwed (c : Instr) : (s.takeHanded c).catchUpOwed = s.catchUpOwed := rfl
@[simp] theorem State.takeHanded_missedDayStart (c : Instr) : (s.takeHanded c).missedDayStart = s.missedDayStart := rfl
@[simp] theorem State.takeHanded_catchUp (c : Instr) : (s.takeHanded c).catchUp = s.catchUp := rfl
@[simp] theorem State.takeHanded_attn (c : Instr) : (s.takeHanded c).attn = s.attn := rfl

/-! ### `followAttn` -/

@[simp] theorem State.followAttn_pending : (s.followAttn).pending = s.pending := rfl
@[simp] theorem State.followAttn_clock : (s.followAttn).clock = s.clock := rfl
@[simp] theorem State.followAttn_owed : (s.followAttn).owed = s.owed := rfl
@[simp] theorem State.followAttn_handed : (s.followAttn).handed = s.handed := rfl
@[simp] theorem State.followAttn_distance : (s.followAttn).distance = s.distance := rfl
@[simp] theorem State.followAttn_rooms : (s.followAttn).rooms = s.rooms := rfl
@[simp] theorem State.followAttn_kitchens : (s.followAttn).kitchens = s.kitchens := rfl
@[simp] theorem State.followAttn_weights : (s.followAttn).weights = s.weights := rfl
@[simp] theorem State.followAttn_policyRec : (s.followAttn).policyRec = s.policyRec := rfl
@[simp] theorem State.followAttn_store : (s.followAttn).store = s.store := rfl
@[simp] theorem State.followAttn_dir : (s.followAttn).dir = s.dir := rfl
@[simp] theorem State.followAttn_series : (s.followAttn).series = s.series := rfl
@[simp] theorem State.followAttn_placement : (s.followAttn).placement = s.placement := rfl
@[simp] theorem State.followAttn_bank : (s.followAttn).bank = s.bank := rfl
@[simp] theorem State.followAttn_panelBus : (s.followAttn).panelBus = s.panelBus := rfl
@[simp] theorem State.followAttn_catering : (s.followAttn).catering = s.catering := rfl
@[simp] theorem State.followAttn_sweep : (s.followAttn).sweep = s.sweep := rfl
@[simp] theorem State.followAttn_link : (s.followAttn).link = s.link := rfl
@[simp] theorem State.followAttn_notice : (s.followAttn).notice = s.notice := rfl
@[simp] theorem State.followAttn_retention : (s.followAttn).retention = s.retention := rfl
@[simp] theorem State.followAttn_catchUpOwed : (s.followAttn).catchUpOwed = s.catchUpOwed := rfl
@[simp] theorem State.followAttn_missedDayStart : (s.followAttn).missedDayStart = s.missedDayStart := rfl
@[simp] theorem State.followAttn_catchUp : (s.followAttn).catchUp = s.catchUp := rfl

/-! ### `leaveDispatch` -/

@[simp] theorem State.leaveDispatch_pending (h : Handle) : (s.leaveDispatch h).pending = s.pending := rfl
@[simp] theorem State.leaveDispatch_clock (h : Handle) : (s.leaveDispatch h).clock = s.clock := rfl
@[simp] theorem State.leaveDispatch_owed (h : Handle) : (s.leaveDispatch h).owed = s.owed := rfl
@[simp] theorem State.leaveDispatch_handed (h : Handle) : (s.leaveDispatch h).handed = s.handed := rfl
@[simp] theorem State.leaveDispatch_distance (h : Handle) : (s.leaveDispatch h).distance = s.distance := rfl
@[simp] theorem State.leaveDispatch_rooms (h : Handle) : (s.leaveDispatch h).rooms = s.rooms := rfl
@[simp] theorem State.leaveDispatch_weights (h : Handle) : (s.leaveDispatch h).weights = s.weights := rfl
@[simp] theorem State.leaveDispatch_policyRec (h : Handle) : (s.leaveDispatch h).policyRec = s.policyRec := rfl
@[simp] theorem State.leaveDispatch_store (h : Handle) : (s.leaveDispatch h).store = s.store := rfl
@[simp] theorem State.leaveDispatch_dir (h : Handle) : (s.leaveDispatch h).dir = s.dir := rfl
@[simp] theorem State.leaveDispatch_series (h : Handle) : (s.leaveDispatch h).series = s.series := rfl
@[simp] theorem State.leaveDispatch_placement (h : Handle) : (s.leaveDispatch h).placement = s.placement := rfl
@[simp] theorem State.leaveDispatch_bank (h : Handle) : (s.leaveDispatch h).bank = s.bank := rfl
@[simp] theorem State.leaveDispatch_panelBus (h : Handle) : (s.leaveDispatch h).panelBus = s.panelBus := rfl
@[simp] theorem State.leaveDispatch_catering (h : Handle) : (s.leaveDispatch h).catering = s.catering := rfl
@[simp] theorem State.leaveDispatch_sweep (h : Handle) : (s.leaveDispatch h).sweep = s.sweep := rfl
@[simp] theorem State.leaveDispatch_link (h : Handle) : (s.leaveDispatch h).link = s.link := rfl
@[simp] theorem State.leaveDispatch_notice (h : Handle) : (s.leaveDispatch h).notice = s.notice := rfl
@[simp] theorem State.leaveDispatch_retention (h : Handle) : (s.leaveDispatch h).retention = s.retention := rfl
@[simp] theorem State.leaveDispatch_catchUpOwed (h : Handle) : (s.leaveDispatch h).catchUpOwed = s.catchUpOwed := rfl
@[simp] theorem State.leaveDispatch_missedDayStart (h : Handle) : (s.leaveDispatch h).missedDayStart = s.missedDayStart := rfl
@[simp] theorem State.leaveDispatch_catchUp (h : Handle) : (s.leaveDispatch h).catchUp = s.catchUp := rfl
@[simp] theorem State.leaveDispatch_attn (h : Handle) : (s.leaveDispatch h).attn = s.attn := rfl

/-! ### `joinCommit` -/

@[simp] theorem State.joinCommit_pending (h : Handle) (m : Nat) : (s.joinCommit h m).pending = s.pending := rfl
@[simp] theorem State.joinCommit_clock (h : Handle) (m : Nat) : (s.joinCommit h m).clock = s.clock := rfl
@[simp] theorem State.joinCommit_owed (h : Handle) (m : Nat) : (s.joinCommit h m).owed = s.owed := rfl
@[simp] theorem State.joinCommit_handed (h : Handle) (m : Nat) : (s.joinCommit h m).handed = s.handed := rfl
@[simp] theorem State.joinCommit_distance (h : Handle) (m : Nat) : (s.joinCommit h m).distance = s.distance := rfl
@[simp] theorem State.joinCommit_rooms (h : Handle) (m : Nat) : (s.joinCommit h m).rooms = s.rooms := rfl
@[simp] theorem State.joinCommit_kitchens (h : Handle) (m : Nat) : (s.joinCommit h m).kitchens = s.kitchens := rfl
@[simp] theorem State.joinCommit_weights (h : Handle) (m : Nat) : (s.joinCommit h m).weights = s.weights := rfl
@[simp] theorem State.joinCommit_policyRec (h : Handle) (m : Nat) : (s.joinCommit h m).policyRec = s.policyRec := rfl
@[simp] theorem State.joinCommit_store (h : Handle) (m : Nat) : (s.joinCommit h m).store = s.store := rfl
@[simp] theorem State.joinCommit_dir (h : Handle) (m : Nat) : (s.joinCommit h m).dir = s.dir := rfl
@[simp] theorem State.joinCommit_series (h : Handle) (m : Nat) : (s.joinCommit h m).series = s.series := rfl
@[simp] theorem State.joinCommit_placement (h : Handle) (m : Nat) : (s.joinCommit h m).placement = s.placement := rfl
@[simp] theorem State.joinCommit_bank (h : Handle) (m : Nat) : (s.joinCommit h m).bank = s.bank := rfl
@[simp] theorem State.joinCommit_panelBus (h : Handle) (m : Nat) : (s.joinCommit h m).panelBus = s.panelBus := rfl
@[simp] theorem State.joinCommit_catering_horizon (h : Handle) (m : Nat) : (s.joinCommit h m).catering.horizon = s.catering.horizon := rfl
@[simp] theorem State.joinCommit_catering_loads (h : Handle) (m : Nat) : (s.joinCommit h m).catering.loads = s.catering.loads := rfl
@[simp] theorem State.joinCommit_catering_walk (h : Handle) (m : Nat) : (s.joinCommit h m).catering.walk = s.catering.walk := rfl
@[simp] theorem State.joinCommit_catering_pendingDay (h : Handle) (m : Nat) : (s.joinCommit h m).catering.pendingDay = s.catering.pendingDay := rfl
@[simp] theorem State.joinCommit_catering_lastDay (h : Handle) (m : Nat) : (s.joinCommit h m).catering.lastDay = s.catering.lastDay := rfl
@[simp] theorem State.joinCommit_catering_requestList (h : Handle) (m : Nat) : (s.joinCommit h m).catering.requestList = s.catering.requestList := rfl
@[simp] theorem State.joinCommit_sweep (h : Handle) (m : Nat) : (s.joinCommit h m).sweep = s.sweep := rfl
@[simp] theorem State.joinCommit_link (h : Handle) (m : Nat) : (s.joinCommit h m).link = s.link := rfl
@[simp] theorem State.joinCommit_notice (h : Handle) (m : Nat) : (s.joinCommit h m).notice = s.notice := rfl
@[simp] theorem State.joinCommit_retention (h : Handle) (m : Nat) : (s.joinCommit h m).retention = s.retention := rfl
@[simp] theorem State.joinCommit_catchUpOwed (h : Handle) (m : Nat) : (s.joinCommit h m).catchUpOwed = s.catchUpOwed := rfl
@[simp] theorem State.joinCommit_missedDayStart (h : Handle) (m : Nat) : (s.joinCommit h m).missedDayStart = s.missedDayStart := rfl
@[simp] theorem State.joinCommit_catchUp (h : Handle) (m : Nat) : (s.joinCommit h m).catchUp = s.catchUp := rfl
@[simp] theorem State.joinCommit_attn (h : Handle) (m : Nat) : (s.joinCommit h m).attn = s.attn := rfl

/-! ### `leaveCommit` -/

@[simp] theorem State.leaveCommit_pending (h : Handle) : (s.leaveCommit h).pending = s.pending := rfl
@[simp] theorem State.leaveCommit_clock (h : Handle) : (s.leaveCommit h).clock = s.clock := rfl
@[simp] theorem State.leaveCommit_owed (h : Handle) : (s.leaveCommit h).owed = s.owed := rfl
@[simp] theorem State.leaveCommit_handed (h : Handle) : (s.leaveCommit h).handed = s.handed := rfl
@[simp] theorem State.leaveCommit_distance (h : Handle) : (s.leaveCommit h).distance = s.distance := rfl
@[simp] theorem State.leaveCommit_rooms (h : Handle) : (s.leaveCommit h).rooms = s.rooms := rfl
@[simp] theorem State.leaveCommit_kitchens (h : Handle) : (s.leaveCommit h).kitchens = s.kitchens := rfl
@[simp] theorem State.leaveCommit_weights (h : Handle) : (s.leaveCommit h).weights = s.weights := rfl
@[simp] theorem State.leaveCommit_policyRec (h : Handle) : (s.leaveCommit h).policyRec = s.policyRec := rfl
@[simp] theorem State.leaveCommit_store (h : Handle) : (s.leaveCommit h).store = s.store := rfl
@[simp] theorem State.leaveCommit_dir (h : Handle) : (s.leaveCommit h).dir = s.dir := rfl
@[simp] theorem State.leaveCommit_series (h : Handle) : (s.leaveCommit h).series = s.series := rfl
@[simp] theorem State.leaveCommit_placement (h : Handle) : (s.leaveCommit h).placement = s.placement := rfl
@[simp] theorem State.leaveCommit_bank (h : Handle) : (s.leaveCommit h).bank = s.bank := rfl
@[simp] theorem State.leaveCommit_panelBus (h : Handle) : (s.leaveCommit h).panelBus = s.panelBus := rfl
@[simp] theorem State.leaveCommit_catering_horizon (h : Handle) : (s.leaveCommit h).catering.horizon = s.catering.horizon := rfl
@[simp] theorem State.leaveCommit_catering_loads (h : Handle) : (s.leaveCommit h).catering.loads = s.catering.loads := rfl
@[simp] theorem State.leaveCommit_catering_walk (h : Handle) : (s.leaveCommit h).catering.walk = s.catering.walk := rfl
@[simp] theorem State.leaveCommit_catering_pendingDay (h : Handle) : (s.leaveCommit h).catering.pendingDay = s.catering.pendingDay := rfl
@[simp] theorem State.leaveCommit_catering_lastDay (h : Handle) : (s.leaveCommit h).catering.lastDay = s.catering.lastDay := rfl
@[simp] theorem State.leaveCommit_catering_requestList (h : Handle) : (s.leaveCommit h).catering.requestList = s.catering.requestList := rfl
@[simp] theorem State.leaveCommit_sweep (h : Handle) : (s.leaveCommit h).sweep = s.sweep := rfl
@[simp] theorem State.leaveCommit_link (h : Handle) : (s.leaveCommit h).link = s.link := rfl
@[simp] theorem State.leaveCommit_notice (h : Handle) : (s.leaveCommit h).notice = s.notice := rfl
@[simp] theorem State.leaveCommit_retention (h : Handle) : (s.leaveCommit h).retention = s.retention := rfl
@[simp] theorem State.leaveCommit_catchUpOwed (h : Handle) : (s.leaveCommit h).catchUpOwed = s.catchUpOwed := rfl
@[simp] theorem State.leaveCommit_missedDayStart (h : Handle) : (s.leaveCommit h).missedDayStart = s.missedDayStart := rfl
@[simp] theorem State.leaveCommit_catchUp (h : Handle) : (s.leaveCommit h).catchUp = s.catchUp := rfl
@[simp] theorem State.leaveCommit_attn (h : Handle) : (s.leaveCommit h).attn = s.attn := rfl

/-! ### `joinRequests` -/

@[simp] theorem State.joinRequests_pending (h : Handle) (m : Nat) : (s.joinRequests h m).pending = s.pending := rfl
@[simp] theorem State.joinRequests_clock (h : Handle) (m : Nat) : (s.joinRequests h m).clock = s.clock := rfl
@[simp] theorem State.joinRequests_owed (h : Handle) (m : Nat) : (s.joinRequests h m).owed = s.owed := rfl
@[simp] theorem State.joinRequests_handed (h : Handle) (m : Nat) : (s.joinRequests h m).handed = s.handed := rfl
@[simp] theorem State.joinRequests_distance (h : Handle) (m : Nat) : (s.joinRequests h m).distance = s.distance := rfl
@[simp] theorem State.joinRequests_rooms (h : Handle) (m : Nat) : (s.joinRequests h m).rooms = s.rooms := rfl
@[simp] theorem State.joinRequests_kitchens (h : Handle) (m : Nat) : (s.joinRequests h m).kitchens = s.kitchens := rfl
@[simp] theorem State.joinRequests_weights (h : Handle) (m : Nat) : (s.joinRequests h m).weights = s.weights := rfl
@[simp] theorem State.joinRequests_policyRec (h : Handle) (m : Nat) : (s.joinRequests h m).policyRec = s.policyRec := rfl
@[simp] theorem State.joinRequests_store (h : Handle) (m : Nat) : (s.joinRequests h m).store = s.store := rfl
@[simp] theorem State.joinRequests_dir (h : Handle) (m : Nat) : (s.joinRequests h m).dir = s.dir := rfl
@[simp] theorem State.joinRequests_series (h : Handle) (m : Nat) : (s.joinRequests h m).series = s.series := rfl
@[simp] theorem State.joinRequests_placement (h : Handle) (m : Nat) : (s.joinRequests h m).placement = s.placement := rfl
@[simp] theorem State.joinRequests_bank (h : Handle) (m : Nat) : (s.joinRequests h m).bank = s.bank := rfl
@[simp] theorem State.joinRequests_panelBus (h : Handle) (m : Nat) : (s.joinRequests h m).panelBus = s.panelBus := rfl
@[simp] theorem State.joinRequests_catering_horizon (h : Handle) (m : Nat) : (s.joinRequests h m).catering.horizon = s.catering.horizon := rfl
@[simp] theorem State.joinRequests_catering_loads (h : Handle) (m : Nat) : (s.joinRequests h m).catering.loads = s.catering.loads := rfl
@[simp] theorem State.joinRequests_catering_walk (h : Handle) (m : Nat) : (s.joinRequests h m).catering.walk = s.catering.walk := rfl
@[simp] theorem State.joinRequests_catering_pendingDay (h : Handle) (m : Nat) : (s.joinRequests h m).catering.pendingDay = s.catering.pendingDay := rfl
@[simp] theorem State.joinRequests_catering_lastDay (h : Handle) (m : Nat) : (s.joinRequests h m).catering.lastDay = s.catering.lastDay := rfl
@[simp] theorem State.joinRequests_catering_commitQueue (h : Handle) (m : Nat) : (s.joinRequests h m).catering.commitQueue = s.catering.commitQueue := rfl
@[simp] theorem State.joinRequests_sweep (h : Handle) (m : Nat) : (s.joinRequests h m).sweep = s.sweep := rfl
@[simp] theorem State.joinRequests_link (h : Handle) (m : Nat) : (s.joinRequests h m).link = s.link := rfl
@[simp] theorem State.joinRequests_notice (h : Handle) (m : Nat) : (s.joinRequests h m).notice = s.notice := rfl
@[simp] theorem State.joinRequests_retention (h : Handle) (m : Nat) : (s.joinRequests h m).retention = s.retention := rfl
@[simp] theorem State.joinRequests_catchUpOwed (h : Handle) (m : Nat) : (s.joinRequests h m).catchUpOwed = s.catchUpOwed := rfl
@[simp] theorem State.joinRequests_missedDayStart (h : Handle) (m : Nat) : (s.joinRequests h m).missedDayStart = s.missedDayStart := rfl
@[simp] theorem State.joinRequests_catchUp (h : Handle) (m : Nat) : (s.joinRequests h m).catchUp = s.catchUp := rfl
@[simp] theorem State.joinRequests_attn (h : Handle) (m : Nat) : (s.joinRequests h m).attn = s.attn := rfl

/-! ### `leaveRequests` -/

@[simp] theorem State.leaveRequests_pending (h : Handle) : (s.leaveRequests h).pending = s.pending := rfl
@[simp] theorem State.leaveRequests_clock (h : Handle) : (s.leaveRequests h).clock = s.clock := rfl
@[simp] theorem State.leaveRequests_owed (h : Handle) : (s.leaveRequests h).owed = s.owed := rfl
@[simp] theorem State.leaveRequests_handed (h : Handle) : (s.leaveRequests h).handed = s.handed := rfl
@[simp] theorem State.leaveRequests_distance (h : Handle) : (s.leaveRequests h).distance = s.distance := rfl
@[simp] theorem State.leaveRequests_rooms (h : Handle) : (s.leaveRequests h).rooms = s.rooms := rfl
@[simp] theorem State.leaveRequests_kitchens (h : Handle) : (s.leaveRequests h).kitchens = s.kitchens := rfl
@[simp] theorem State.leaveRequests_weights (h : Handle) : (s.leaveRequests h).weights = s.weights := rfl
@[simp] theorem State.leaveRequests_policyRec (h : Handle) : (s.leaveRequests h).policyRec = s.policyRec := rfl
@[simp] theorem State.leaveRequests_store (h : Handle) : (s.leaveRequests h).store = s.store := rfl
@[simp] theorem State.leaveRequests_dir (h : Handle) : (s.leaveRequests h).dir = s.dir := rfl
@[simp] theorem State.leaveRequests_series (h : Handle) : (s.leaveRequests h).series = s.series := rfl
@[simp] theorem State.leaveRequests_placement (h : Handle) : (s.leaveRequests h).placement = s.placement := rfl
@[simp] theorem State.leaveRequests_bank (h : Handle) : (s.leaveRequests h).bank = s.bank := rfl
@[simp] theorem State.leaveRequests_panelBus (h : Handle) : (s.leaveRequests h).panelBus = s.panelBus := rfl
@[simp] theorem State.leaveRequests_catering_horizon (h : Handle) : (s.leaveRequests h).catering.horizon = s.catering.horizon := rfl
@[simp] theorem State.leaveRequests_catering_loads (h : Handle) : (s.leaveRequests h).catering.loads = s.catering.loads := rfl
@[simp] theorem State.leaveRequests_catering_walk (h : Handle) : (s.leaveRequests h).catering.walk = s.catering.walk := rfl
@[simp] theorem State.leaveRequests_catering_pendingDay (h : Handle) : (s.leaveRequests h).catering.pendingDay = s.catering.pendingDay := rfl
@[simp] theorem State.leaveRequests_catering_lastDay (h : Handle) : (s.leaveRequests h).catering.lastDay = s.catering.lastDay := rfl
@[simp] theorem State.leaveRequests_catering_commitQueue (h : Handle) : (s.leaveRequests h).catering.commitQueue = s.catering.commitQueue := rfl
@[simp] theorem State.leaveRequests_sweep (h : Handle) : (s.leaveRequests h).sweep = s.sweep := rfl
@[simp] theorem State.leaveRequests_link (h : Handle) : (s.leaveRequests h).link = s.link := rfl
@[simp] theorem State.leaveRequests_notice (h : Handle) : (s.leaveRequests h).notice = s.notice := rfl
@[simp] theorem State.leaveRequests_retention (h : Handle) : (s.leaveRequests h).retention = s.retention := rfl
@[simp] theorem State.leaveRequests_catchUpOwed (h : Handle) : (s.leaveRequests h).catchUpOwed = s.catchUpOwed := rfl
@[simp] theorem State.leaveRequests_missedDayStart (h : Handle) : (s.leaveRequests h).missedDayStart = s.missedDayStart := rfl
@[simp] theorem State.leaveRequests_catchUp (h : Handle) : (s.leaveRequests h).catchUp = s.catchUp := rfl
@[simp] theorem State.leaveRequests_attn (h : Handle) : (s.leaveRequests h).attn = s.attn := rfl

/-! ### `countDown` -/

@[simp] theorem State.countDown_pending (n : Nat) : (s.countDown n).pending = s.pending := rfl
@[simp] theorem State.countDown_clock (n : Nat) : (s.countDown n).clock = s.clock := rfl
@[simp] theorem State.countDown_owed (n : Nat) : (s.countDown n).owed = s.owed := rfl
@[simp] theorem State.countDown_handed (n : Nat) : (s.countDown n).handed = s.handed := rfl
@[simp] theorem State.countDown_distance (n : Nat) : (s.countDown n).distance = s.distance := rfl
@[simp] theorem State.countDown_rooms (n : Nat) : (s.countDown n).rooms = s.rooms := rfl
@[simp] theorem State.countDown_kitchens (n : Nat) : (s.countDown n).kitchens = s.kitchens := rfl
@[simp] theorem State.countDown_weights (n : Nat) : (s.countDown n).weights = s.weights := rfl
@[simp] theorem State.countDown_policyRec (n : Nat) : (s.countDown n).policyRec = s.policyRec := rfl
@[simp] theorem State.countDown_store (n : Nat) : (s.countDown n).store = s.store := rfl
@[simp] theorem State.countDown_dir (n : Nat) : (s.countDown n).dir = s.dir := rfl
@[simp] theorem State.countDown_series (n : Nat) : (s.countDown n).series = s.series := rfl
@[simp] theorem State.countDown_placement (n : Nat) : (s.countDown n).placement = s.placement := rfl
@[simp] theorem State.countDown_bank_timerCount (n : Nat) : (s.countDown n).bank.timerCount = s.bank.timerCount := rfl
@[simp] theorem State.countDown_panelBus (n : Nat) : (s.countDown n).panelBus = s.panelBus := rfl
@[simp] theorem State.countDown_catering (n : Nat) : (s.countDown n).catering = s.catering := rfl
@[simp] theorem State.countDown_sweep (n : Nat) : (s.countDown n).sweep = s.sweep := rfl
@[simp] theorem State.countDown_link (n : Nat) : (s.countDown n).link = s.link := rfl
@[simp] theorem State.countDown_notice (n : Nat) : (s.countDown n).notice = s.notice := rfl
@[simp] theorem State.countDown_retention (n : Nat) : (s.countDown n).retention = s.retention := rfl
@[simp] theorem State.countDown_catchUpOwed (n : Nat) : (s.countDown n).catchUpOwed = s.catchUpOwed := rfl
@[simp] theorem State.countDown_missedDayStart (n : Nat) : (s.countDown n).missedDayStart = s.missedDayStart := rfl
@[simp] theorem State.countDown_catchUp (n : Nat) : (s.countDown n).catchUp = s.catchUp := rfl
@[simp] theorem State.countDown_attn (n : Nat) : (s.countDown n).attn = s.attn := rfl

/-! ### `enqueue` -/

@[simp] theorem State.enqueue_pending (k : SearchKind) (c : Client) (q : SearchInputs) : (s.enqueue k c q).pending = s.pending := rfl
@[simp] theorem State.enqueue_clock (k : SearchKind) (c : Client) (q : SearchInputs) : (s.enqueue k c q).clock = s.clock := rfl
@[simp] theorem State.enqueue_owed (k : SearchKind) (c : Client) (q : SearchInputs) : (s.enqueue k c q).owed = s.owed := rfl
@[simp] theorem State.enqueue_handed (k : SearchKind) (c : Client) (q : SearchInputs) : (s.enqueue k c q).handed = s.handed := rfl
@[simp] theorem State.enqueue_distance (k : SearchKind) (c : Client) (q : SearchInputs) : (s.enqueue k c q).distance = s.distance := rfl
@[simp] theorem State.enqueue_rooms (k : SearchKind) (c : Client) (q : SearchInputs) : (s.enqueue k c q).rooms = s.rooms := rfl
@[simp] theorem State.enqueue_kitchens (k : SearchKind) (c : Client) (q : SearchInputs) : (s.enqueue k c q).kitchens = s.kitchens := rfl
@[simp] theorem State.enqueue_weights (k : SearchKind) (c : Client) (q : SearchInputs) : (s.enqueue k c q).weights = s.weights := rfl
@[simp] theorem State.enqueue_policyRec (k : SearchKind) (c : Client) (q : SearchInputs) : (s.enqueue k c q).policyRec = s.policyRec := rfl
@[simp] theorem State.enqueue_store (k : SearchKind) (c : Client) (q : SearchInputs) : (s.enqueue k c q).store = s.store := rfl
@[simp] theorem State.enqueue_dir (k : SearchKind) (c : Client) (q : SearchInputs) : (s.enqueue k c q).dir = s.dir := rfl
@[simp] theorem State.enqueue_series (k : SearchKind) (c : Client) (q : SearchInputs) : (s.enqueue k c q).series = s.series := rfl
@[simp] theorem State.enqueue_bank (k : SearchKind) (c : Client) (q : SearchInputs) : (s.enqueue k c q).bank = s.bank := rfl
@[simp] theorem State.enqueue_panelBus (k : SearchKind) (c : Client) (q : SearchInputs) : (s.enqueue k c q).panelBus = s.panelBus := rfl
@[simp] theorem State.enqueue_catering (k : SearchKind) (c : Client) (q : SearchInputs) : (s.enqueue k c q).catering = s.catering := rfl
@[simp] theorem State.enqueue_sweep (k : SearchKind) (c : Client) (q : SearchInputs) : (s.enqueue k c q).sweep = s.sweep := rfl
@[simp] theorem State.enqueue_link (k : SearchKind) (c : Client) (q : SearchInputs) : (s.enqueue k c q).link = s.link := rfl
@[simp] theorem State.enqueue_notice (k : SearchKind) (c : Client) (q : SearchInputs) : (s.enqueue k c q).notice = s.notice := rfl
@[simp] theorem State.enqueue_retention (k : SearchKind) (c : Client) (q : SearchInputs) : (s.enqueue k c q).retention = s.retention := rfl
@[simp] theorem State.enqueue_catchUpOwed (k : SearchKind) (c : Client) (q : SearchInputs) : (s.enqueue k c q).catchUpOwed = s.catchUpOwed := rfl
@[simp] theorem State.enqueue_missedDayStart (k : SearchKind) (c : Client) (q : SearchInputs) : (s.enqueue k c q).missedDayStart = s.missedDayStart := rfl
@[simp] theorem State.enqueue_catchUp (k : SearchKind) (c : Client) (q : SearchInputs) : (s.enqueue k c q).catchUp = s.catchUp := rfl
@[simp] theorem State.enqueue_attn (k : SearchKind) (c : Client) (q : SearchInputs) : (s.enqueue k c q).attn = s.attn := rfl

/-! ### `dequeue` -/

@[simp] theorem State.dequeue_pending (n : Nat) : (s.dequeue n).pending = s.pending := rfl
@[simp] theorem State.dequeue_clock (n : Nat) : (s.dequeue n).clock = s.clock := rfl
@[simp] theorem State.dequeue_owed (n : Nat) : (s.dequeue n).owed = s.owed := rfl
@[simp] theorem State.dequeue_handed (n : Nat) : (s.dequeue n).handed = s.handed := rfl
@[simp] theorem State.dequeue_distance (n : Nat) : (s.dequeue n).distance = s.distance := rfl
@[simp] theorem State.dequeue_rooms (n : Nat) : (s.dequeue n).rooms = s.rooms := rfl
@[simp] theorem State.dequeue_kitchens (n : Nat) : (s.dequeue n).kitchens = s.kitchens := rfl
@[simp] theorem State.dequeue_weights (n : Nat) : (s.dequeue n).weights = s.weights := rfl
@[simp] theorem State.dequeue_policyRec (n : Nat) : (s.dequeue n).policyRec = s.policyRec := rfl
@[simp] theorem State.dequeue_store (n : Nat) : (s.dequeue n).store = s.store := rfl
@[simp] theorem State.dequeue_dir (n : Nat) : (s.dequeue n).dir = s.dir := rfl
@[simp] theorem State.dequeue_series (n : Nat) : (s.dequeue n).series = s.series := rfl
@[simp] theorem State.dequeue_bank (n : Nat) : (s.dequeue n).bank = s.bank := rfl
@[simp] theorem State.dequeue_panelBus (n : Nat) : (s.dequeue n).panelBus = s.panelBus := rfl
@[simp] theorem State.dequeue_catering (n : Nat) : (s.dequeue n).catering = s.catering := rfl
@[simp] theorem State.dequeue_sweep (n : Nat) : (s.dequeue n).sweep = s.sweep := rfl
@[simp] theorem State.dequeue_link (n : Nat) : (s.dequeue n).link = s.link := rfl
@[simp] theorem State.dequeue_notice (n : Nat) : (s.dequeue n).notice = s.notice := rfl
@[simp] theorem State.dequeue_retention (n : Nat) : (s.dequeue n).retention = s.retention := rfl
@[simp] theorem State.dequeue_catchUpOwed (n : Nat) : (s.dequeue n).catchUpOwed = s.catchUpOwed := rfl
@[simp] theorem State.dequeue_missedDayStart (n : Nat) : (s.dequeue n).missedDayStart = s.missedDayStart := rfl
@[simp] theorem State.dequeue_catchUp (n : Nat) : (s.dequeue n).catchUp = s.catchUp := rfl
@[simp] theorem State.dequeue_attn (n : Nat) : (s.dequeue n).attn = s.attn := rfl

end Sys2Proof.Machine
end

