-- ==== Sys2Proof/Laws/Tables.lean ====
section
/-! SUPPORT. Reading a table entry after an update of it or of another entry. -/

namespace Sys2Proof.Machine

variable {s : State}

/-- One entry of a list after `modify`. -/
theorem getD_modify {α : Type} (l : List α) (i j : Nat) (f : α → α) (d : α) :
    (l.modify i f).getD j d = if i = j ∧ j < l.length then f (l.getD j d) else l.getD j d := by
  simp only [List.getD_eq_getElem?_getD, List.getElem?_modify]
  by_cases hj : j < l.length
  · by_cases hij : i = j <;> simp [hij, hj]
  · simp [hj]

theorem getD_modify_same {α : Type} {l : List α} {i : Nat} {f : α → α} {d : α} (h : i < l.length) :
    (l.modify i f).getD i d = f (l.getD i d) := by simp [h]

theorem getD_modify_other {α : Type} {l : List α} {i j : Nat} {f : α → α} {d : α} (h : i ≠ j) :
    (l.modify i f).getD j d = l.getD j d := by simp [h]

/-! ### Rooms, kitchens, panels, ports, channels -/

theorem State.room_modRoom_same {r : Nat} {f : Room → Room} (h : r < s.rooms.length) :
    (s.modRoom r f).room r = f (s.room r) := getD_modify_same h

theorem State.room_modRoom_other {r q : Nat} {f : Room → Room} (h : r ≠ q) : (s.modRoom r f).room q = s.room q :=
  getD_modify_other h

theorem State.kitchen_modKitchen_same {k : Nat} {f : Kitchen → Kitchen} (h : k < s.kitchens.length) :
    (s.modKitchen k f).kitchen k = f (s.kitchen k) := getD_modify_same h

theorem State.kitchen_modKitchen_other {k q : Nat} {f : Kitchen → Kitchen} (h : k ≠ q) :
    (s.modKitchen k f).kitchen q = s.kitchen q := getD_modify_other h

theorem State.panel_modPanel_same {p : Nat} {f : Panel → Panel} (h : p < s.panelBus.panels.length) :
    (s.modPanel p f).panel p = f (s.panel p) := getD_modify_same h

theorem State.panel_modPanel_other {p q : Nat} {f : Panel → Panel} (h : p ≠ q) : (s.modPanel p f).panel q = s.panel q :=
  getD_modify_other h

theorem State.port_modPort_same {p : Nat} {f : Port → Port} (h : p < s.panelBus.ports.length) :
    (s.modPort p f).port p = f (s.port p) := getD_modify_same h

theorem State.port_modPort_other {p q : Nat} {f : Port → Port} (h : p ≠ q) : (s.modPort p f).port q = s.port q :=
  getD_modify_other h

theorem State.channel_modChannel_same {c : Nat} {f : Channel → Channel} (h : c < s.bank.channels.length) :
    (s.modChannel c f).channel c = f (s.channel c) := getD_modify_same h

theorem State.channel_modChannel_other {c d : Nat} {f : Channel → Channel} (h : c ≠ d) :
    (s.modChannel c f).channel d = s.channel d := getD_modify_other h

/-! ### Series -/

theorem State.seriesAt_modSeries_same (i : Nat) (f : Series → Series) :
    (s.modSeries i f).seriesAt i = (s.seriesAt i).map f := by
  simp only [State.seriesAt, State.modSeries, List.getElem?_modify_eq]
  cases s.series.list[i]? with
  | none => rfl
  | some o => cases o <;> rfl

theorem State.seriesAt_modSeries_other {i j : Nat} {f : Series → Series} (h : i ≠ j) :
    (s.modSeries i f).seriesAt j = s.seriesAt j := by
  simp [State.seriesAt, State.modSeries, h]

/-! ### Bookings -/

theorem State.bookingAt_modBooking (i j : Nat) (f : Booking → Booking) :
    (s.modBooking i f).bookingAt j = if i = j then (s.bookingAt j).map f else s.bookingAt j := by
  simp only [State.bookingAt, State.modBooking, getD_modify]
  by_cases hij : i = j
  · by_cases hj : j < s.dir.entries.length
    · simp [hij, hj]
    · simp [hij, hj, List.getD_eq_getElem?_getD]
  · simp [hij]

@[simp] theorem State.bookingAt_modBooking_same (i : Nat) (f : Booking → Booking) :
    (s.modBooking i f).bookingAt i = (s.bookingAt i).map f := by simp [State.bookingAt_modBooking]

theorem State.bookingAt_modBooking_other {i j : Nat} {f : Booking → Booking} (h : i ≠ j) :
    (s.modBooking i f).bookingAt j = s.bookingAt j := by simp [State.bookingAt_modBooking, h]

@[simp] theorem State.bookingAt_modOrder_same (i : Nat) (f : Order → Order) :
    (s.modOrder i f).bookingAt i = (s.bookingAt i).map fun b => { b with order := b.order.map f } := by
  simp [State.modOrder]

theorem State.bookingAt_modOrder_other {i j : Nat} {f : Order → Order} (h : i ≠ j) :
    (s.modOrder i f).bookingAt j = s.bookingAt j := State.bookingAt_modBooking_other h

theorem State.bookingAt_enter_same {b : Booking} (h : b.handle.idx < s.dir.entries.length) :
    (s.enter b).bookingAt b.handle.idx = some b := by
  simp only [State.bookingAt, State.enter]
  rw [getD_modify_same h]

theorem State.bookingAt_enter_other {b : Booking} {j : Nat} (h : b.handle.idx ≠ j) :
    (s.enter b).bookingAt j = s.bookingAt j := by
  simp only [State.bookingAt, State.enter]
  rw [getD_modify_other h]

/-- The generation of an entry is not changed by a change of its booking. -/
@[simp] theorem State.generation_modBooking (i j : Nat) (f : Booking → Booking) :
    ((s.modBooking i f).dir.entries.getD j ⟨0, none⟩).generation = (s.dir.entries.getD j ⟨0, none⟩).generation := by
  simp only [State.modBooking, getD_modify]
  split <;> rfl

/-- Reading entries depends on the directory alone. -/
theorem State.bookingAt_congr {s t : State} (h : t.dir = s.dir) (i : Nat) : t.bookingAt i = s.bookingAt i := by
  simp [State.bookingAt, h]

theorem State.lookup_congr {s t : State} (h : t.dir = s.dir) (x : Handle) : t.lookup x = s.lookup x := by
  simp [State.lookup, h]

/-- What a found lookup says of the entry (R25). -/
theorem State.bookingAt_of_lookup {h : Handle} {b : Booking} (hl : s.lookup h = .found b) :
    h.idx < Config.handles ∧ s.bookingAt h.idx = some b ∧ (s.dir.entries.getD h.idx ⟨0, none⟩).generation = h.gen := by
  unfold State.lookup at hl
  split at hl
  · exact absurd hl (by simp)
  · rename_i hlt
    split at hl
    · exact absurd hl (by simp)
    · rename_i x hx
      split at hl
      · rename_i hg
        refine ⟨Nat.lt_of_not_le hlt, ?_, hg⟩
        simp only [Lookup.found.injEq] at hl
        rw [State.bookingAt, hx, hl]
      · exact absurd hl (by simp)

/-! ### Walking a range -/

/-- `upFrom` counts. -/
@[simp] theorem length_upFrom (a n : Nat) : (upFrom a n).length = n := by
  induction n generalizing a with
  | zero => rfl
  | succ n ih => simp [upFrom, ih]

theorem mem_upFrom {a n i : Nat} : i ∈ upFrom a n ↔ a ≤ i ∧ i < a + n := by
  induction n generalizing a with
  | zero => simp [upFrom]
  | succ n ih => simp only [upFrom, List.mem_cons, ih]; omega

/-- What each step of a fold over a range keeps, the fold keeps. -/
theorem overAll_keeps {α : Type} (g : State → α) {n : Nat} {f : Nat → State → State} (h : ∀ i t, g (f i t) = g t) (s : State) :
    g (overAll n f s) = g s := by
  have key : ∀ (l : List Nat) (t : State), g (l.foldl (fun s i => f i s) t) = g t := by
    intro l
    induction l with
    | nil => intro t; rfl
    | cons i l ih => intro t; rw [List.foldl_cons, ih, h]
  exact key _ s

/-- A fold over handles keeps what each step keeps. -/
theorem foldl_keeps {α β : Type} (g : State → α) {f : State → β → State} (h : ∀ t x, g (f t x) = g t) (l : List β) (s : State) :
    g (l.foldl f s) = g s := by
  induction l generalizing s with
  | nil => rfl
  | cons x l ih => rw [List.foldl_cons, ih, h]

/-- An invariant that each step of a fold over a range keeps holds after the fold. -/
theorem overAll_invariant {P : State → Prop} {n : Nat} {f : Nat → State → State} (h : ∀ i t, P t → P (f i t)) {s : State}
    (hs : P s) : P (overAll n f s) := by
  have key : ∀ (l : List Nat) (t : State), P t → P (l.foldl (fun s i => f i s) t) := by
    intro l
    induction l with
    | nil => exact fun _ ht => ht
    | cons i l ih => exact fun t ht => ih _ (h i t ht)
  exact key _ s hs

end Sys2Proof.Machine
end

