-- ==== Sys2Proof/Laws/Outside.lean ====
section
/-! SUPPORT. What the operations on bookings, orders, channels, series and rooms never touch: the queue, the clock and what it
owes, the hand-overs, the distance, weight and policy records, the placement queue, the sweep, the link, the catch-up walk
and ATTN. One lemma per operation. -/

namespace Sys2Proof.Machine

/-- The part of the state outside the records of bookings, orders, channels, series, rooms and kitchens. -/
structure Outside where
  pending : List Instr
  clock : Clock
  owed : Owed
  handed : List Instr
  distance : List (List Nat)
  weights : Weights
  policyRec : Policy
  placement : Placement
  sweep : Sweep
  link : Link
  retention : Retention
  catchUpOwed : Bool
  missedDayStart : Option Nat
  catchUp : Option CatchUp
  attn : Bool

def State.outside (s : State) : Outside where
  pending := s.pending
  clock := s.clock
  owed := s.owed
  handed := s.handed
  distance := s.distance
  weights := s.weights
  policyRec := s.policyRec
  placement := s.placement
  sweep := s.sweep
  link := s.link
  retention := s.retention
  catchUpOwed := s.catchUpOwed
  missedDayStart := s.missedDayStart
  catchUp := s.catchUp
  attn := s.attn

variable (s : State)

/-! ### Reading one field of it -/

theorem clock_of_outside {s t : State} (h : t.outside = s.outside) : t.clock = s.clock := congrArg Outside.clock h
theorem link_of_outside {s t : State} (h : t.outside = s.outside) : t.link = s.link := congrArg Outside.link h
theorem owed_of_outside {s t : State} (h : t.outside = s.outside) : t.owed = s.owed := congrArg Outside.owed h
theorem handed_of_outside {s t : State} (h : t.outside = s.outside) : t.handed = s.handed := congrArg Outside.handed h
theorem placement_of_outside {s t : State} (h : t.outside = s.outside) : t.placement = s.placement :=
  congrArg Outside.placement h
theorem sweep_of_outside {s t : State} (h : t.outside = s.outside) : t.sweep = s.sweep := congrArg Outside.sweep h
theorem catchUp_of_outside {s t : State} (h : t.outside = s.outside) : t.catchUp = s.catchUp := congrArg Outside.catchUp h

/-! ### Plain updates -/

@[simp] theorem outside_modRoom (r : Nat) (f : Room → Room) : (s.modRoom r f).outside = s.outside := rfl
@[simp] theorem outside_modKitchen (k : Nat) (f : Kitchen → Kitchen) : (s.modKitchen k f).outside = s.outside := rfl
@[simp] theorem outside_modPanel (p : Nat) (f : Panel → Panel) : (s.modPanel p f).outside = s.outside := rfl
@[simp] theorem outside_modPort (p : Nat) (f : Port → Port) : (s.modPort p f).outside = s.outside := rfl
@[simp] theorem outside_modChannel (c : Nat) (f : Channel → Channel) : (s.modChannel c f).outside = s.outside := rfl
@[simp] theorem outside_modSeries (i : Nat) (f : Series → Series) : (s.modSeries i f).outside = s.outside := rfl
@[simp] theorem outside_modBooking (i : Nat) (f : Booking → Booking) : (s.modBooking i f).outside = s.outside := rfl
@[simp] theorem outside_modOrder (i : Nat) (f : Order → Order) : (s.modOrder i f).outside = s.outside := rfl
@[simp] theorem outside_enter (b : Booking) : (s.enter b).outside = s.outside := rfl
@[simp] theorem outside_raiseChanged : s.raiseChanged.outside = s.outside := rfl
@[simp] theorem outside_raiseSeries : s.raiseSeries.outside = s.outside := rfl
@[simp] theorem outside_raisePanel : s.raisePanel.outside = s.outside := rfl
@[simp] theorem outside_raiseCatering : s.raiseCatering.outside = s.outside := rfl
@[simp] theorem outside_reportRoom (r : Nat) : (s.reportRoom r).outside = s.outside := rfl
@[simp] theorem outside_reportList (k : Nat) : (s.reportList k).outside = s.outside := rfl
@[simp] theorem outside_markBooking (i : Nat) : (s.markBooking i).outside = s.outside := rfl
@[simp] theorem outside_markSeries (i : Nat) : (s.markSeries i).outside = s.outside := rfl
@[simp] theorem outside_markPanel (p : Nat) : (s.markPanel p).outside = s.outside := rfl
@[simp] theorem outside_putOnTimeline (b : Booking) : (s.putOnTimeline b).outside = s.outside := rfl
@[simp] theorem outside_takeOffTimeline (r : Nat) (h : Handle) : (s.takeOffTimeline r h).outside = s.outside := rfl
@[simp] theorem outside_setService (r : Nat) (st : ServiceState) (c : Option Closure) :
    (s.setService r st c).outside = s.outside := rfl

/-! ### The store and the directory -/

@[simp] theorem outside_giveBack (k : BlockKind) (b : Nat) : (s.giveBack k b).outside = s.outside := rfl

@[simp] theorem outside_giveBackOpt (k : BlockKind) (b : Option Nat) : (s.giveBackOpt k b).outside = s.outside := by
  cases b <;> rfl

@[simp] theorem outside_giveBackBooking (b : Booking) : (s.giveBackBooking b).outside = s.outside := by
  simp [State.giveBackBooking]

@[simp] theorem outside_modRef (l : Option Nat) (f : Nat → Nat) : (s.modRef l f).outside = s.outside := by
  cases l <;> rfl

theorem outside_allocate {s t : State} {c : AllocClass} {ks : List BlockKind} {bs : List Nat}
    (h : s.allocate c ks = some (t, bs)) : t.outside = s.outside := by
  unfold State.allocate at h
  split at h
  · simp only [Option.some.injEq, Prod.mk.injEq] at h
    rw [← h.1]
    rfl
  · exact absurd h (by simp)

theorem outside_takeRecord {s t : State} {c : AllocClass} {n o : Bool} {l : Option Nat} {k : Taken}
    (h : s.takeRecord c n o l = some (t, k)) : t.outside = s.outside := by
  unfold State.takeRecord at h
  split at h
  · exact absurd h (by simp)
  · split at h
    · exact absurd h (by simp)
    · rename_i hs
      simp only [Option.some.injEq, Prod.mk.injEq] at h
      rw [← h.1, outside_modRef, ← outside_allocate hs]
      rfl

@[simp] theorem outside_returnCreation (t : Taken) (l : Option Nat) : (s.returnCreation t l).outside = s.outside := by
  unfold State.returnCreation
  rw [outside_modRef]
  change (((s.giveBackOpt .order t.order).giveBackOpt .note t.note).giveBack .head t.head).outside = s.outside
  simp

/-! ### Orders -/

@[simp] theorem outside_modLoad (k : Nat) (w : AbsWindow) (f : Nat → Nat) : (s.modLoad k w f).outside = s.outside := by
  unfold State.modLoad
  split
  · split <;> rfl
  · rfl

@[simp] theorem outside_joinDispatch (h : Handle) (k m : Nat) : (s.joinDispatch h k m).outside = s.outside := rfl
@[simp] theorem outside_leaveDispatch (h : Handle) : (s.leaveDispatch h).outside = s.outside := rfl
@[simp] theorem outside_joinCommit (h : Handle) (m : Nat) : (s.joinCommit h m).outside = s.outside := rfl
@[simp] theorem outside_leaveCommit (h : Handle) : (s.leaveCommit h).outside = s.outside := rfl
@[simp] theorem outside_joinRequests (h : Handle) (m : Nat) : (s.joinRequests h m).outside = s.outside := rfl
@[simp] theorem outside_leaveRequests (h : Handle) : (s.leaveRequests h).outside = s.outside := rfl

@[simp] theorem outside_unload (o : Order) : (s.unload o).outside = s.outside := by
  unfold State.unload
  split <;> simp

@[simp] theorem outside_unplan (h : Handle) : (s.unplan h).outside = s.outside := by
  unfold State.unplan
  split <;> simp

@[simp] theorem outside_setUncounted (h : Handle) (st : OrderState) (c : Option Nat) :
    (s.setUncounted h st c).outside = s.outside := by simp [State.setUncounted]

@[simp] theorem outside_voidOrder (h : Handle) : (s.voidOrder h).outside = s.outside := by simp [State.voidOrder]

@[simp] theorem outside_count (h : Handle) (n : Nat) (a : Accept) : (s.count h n a).outside = s.outside := by
  simp [State.count]

@[simp] theorem outside_makeRequested (b : Booking) : (s.makeRequested b).outside = s.outside := by
  simp [State.makeRequested]

@[simp] theorem outside_cateringFailure (i : Nat) : (s.cateringFailure i).outside = s.outside := rfl

@[simp] theorem outside_makeUnplaced (now : Nat) (b : Booking) : (s.makeUnplaced now b).outside = s.outside := by
  simp [State.makeUnplaced]

theorem outside_planHost {s t : State} {now : Nat} {b : Booking} {n : Nat} {tight : Bool}
    (h : s.planHost now b n = .ok (t, tight)) : t.outside = s.outside := by
  unfold State.planHost at h
  split at h
  · exact absurd h (by simp)
  · split at h
    · simp only [Except.ok.injEq, Prod.mk.injEq] at h
      simp [← h.1]
    · split at h
      · simp only [Except.ok.injEq, Prod.mk.injEq] at h
        simp [← h.1]
      · exact absurd h (by simp)

@[simp] theorem outside_planPart (now : Nat) (b : Booking) (n : Nat) : (s.planPart now b n).outside = s.outside := by
  unfold State.planPart
  split
  · rename_i h
    exact outside_planHost h
  · simp

@[simp] theorem outside_strand (i : Nat) (p : Bool) : (s.strand i p).outside = s.outside := by
  unfold State.strand
  dsimp only
  split <;> simp

@[simp] theorem outside_exitOrder (h : Handle) (k : ExitKind) : (s.exitOrder h k).outside = s.outside := by
  unfold State.exitOrder
  split
  · rfl
  · split <;> first | (split <;> simp) | simp

@[simp] theorem outside_relist (before : State) : (s.relist before).outside = s.outside := by
  refine overAll_keeps State.outside (fun k t => ?_) s
  split <;> rfl

/-! ### Channels, series and bookings -/

@[simp] theorem outside_freeChannel (c : Nat) : (s.freeChannel c).outside = s.outside := rfl

@[simp] theorem outside_returnChannel (i : Nat) : (s.returnChannel i).outside = s.outside := by
  unfold State.returnChannel
  split
  · rfl
  · split
    · rfl
    · dsimp only
      split <;> simp

@[simp] theorem outside_startExempt (b : Booking) : (s.startExempt b).outside = s.outside := by
  unfold State.startExempt
  split <;> simp

@[simp] theorem outside_openWindow (i : Nat) : (s.openWindow i).outside = s.outside := by
  unfold State.openWindow
  split
  · rfl
  · split
    · rfl
    · split
      · simp
      · simp only [outside_startExempt]
        rfl

@[simp] theorem outside_handleStart (now i : Nat) : (s.handleStart now i).outside = s.outside := by
  unfold State.handleStart
  split
  · rfl
  · split
    · rfl
    · split <;> split <;> simp

@[simp] theorem outside_seriesRelease (id : Nat) : (s.seriesRelease id).outside = s.outside := by
  unfold State.seriesRelease
  split
  · rfl
  · dsimp only
    split <;> rfl

@[simp] theorem outside_seriesCheckIn (l : Option Nat) : (s.seriesCheckIn l).outside = s.outside := by
  cases l <;> rfl

@[simp] theorem outside_leaveActive (i : Nat) (k : ExitKind) : (s.leaveActive i k).outside = s.outside := by
  unfold State.leaveActive
  split
  · rfl
  · dsimp only
    split
    · split <;> simp
    · simp

@[simp] theorem outside_release (i : Nat) : (s.release i).outside = s.outside := by simp [State.release]

@[simp] theorem outside_endBooking (i : Nat) (f : Attendance → Attendance) : (s.endBooking i f).outside = s.outside := by
  simp [State.endBooking]

@[simp] theorem outside_endEarly (i now : Nat) : (s.endEarly i now).outside = s.outside := by simp [State.endEarly]

@[simp] theorem outside_cancelOccurrence (i : Nat) : (s.cancelOccurrence i).outside = s.outside := by
  simp [State.cancelOccurrence]

@[simp] theorem outside_displace (i : Nat) : (s.displace i).outside = s.outside := by simp [State.displace]

@[simp] theorem outside_dropChannel (b : Booking) (c : Nat) : (s.dropChannel b c).outside = s.outside := rfl

@[simp] theorem outside_checkInChannel (b : Booking) : (s.checkInChannel b).outside = s.outside := by
  unfold State.checkInChannel
  split
  · rfl
  · dsimp only
    split <;> simp

@[simp] theorem outside_checkInBooking (b : Booking) : (s.checkInBooking b).outside = s.outside := by
  simp [State.checkInBooking]

@[simp] theorem outside_relocateOrder (now : Nat) (b : Booking) : (s.relocateOrder now b).outside = s.outside := by
  unfold State.relocateOrder
  split
  · split <;> simp
  · rfl

@[simp] theorem outside_relocate (now : Nat) (b : Booking) (r : Nat) : (s.relocate now b r).outside = s.outside := by
  unfold State.relocate
  dsimp only
  split <;> simp

@[simp] theorem outside_retire (b : Booking) : (s.retire b).outside = s.outside := by
  change (((s.unplan b.handle).giveBackBooking b).modRef b.series (· - 1)).outside = s.outside
  simp

/-! ### What the minute events do -/

@[simp] theorem outside_expireIfDue (c : Nat) : (s.expireIfDue c).outside = s.outside := by
  unfold State.expireIfDue State.expireWindow State.expireWatch
  split
  · split <;> split <;> first | (split <;> simp) | simp
  · rfl

@[simp] theorem outside_expireAll : s.expireAll.outside = s.outside :=
  overAll_keeps State.outside (fun c t => outside_expireIfDue t c) s

@[simp] theorem outside_startOne (m : Nat) (h : Handle) : (s.startOne m h).outside = s.outside := by
  unfold State.startOne
  split
  · rfl
  · split
    · split
      · simp
      · split <;> simp
    · rfl

@[simp] theorem outside_endOne (m : Nat) (h : Handle) : (s.endOne m h).outside = s.outside := by
  unfold State.endOne
  split
  · rfl
  · split
    · split
      · simp
      · split <;> simp
      · rfl
    · rfl

@[simp] theorem outside_startsAndEnds (m : Nat) : (s.startsAndEnds m).outside = s.outside := by
  refine overAll_keeps State.outside (fun r t => ?_) s
  unfold State.startsAndEndsIn
  dsimp only
  rw [foldl_keeps State.outside (fun t h => outside_endOne t m h), foldl_keeps State.outside (fun t h => outside_startOne t m h)]

@[simp] theorem outside_openDue (m r : Nat) (h : Handle) : (s.openDue m r h).outside = s.outside := by
  unfold State.openDue
  split
  · rfl
  · split <;> simp

@[simp] theorem outside_windowOpenings (m : Nat) : (s.windowOpenings m).outside = s.outside := by
  refine overAll_keeps State.outside (fun r t => ?_) s
  split
  · exact foldl_keeps State.outside (fun t h => outside_openDue t m r h) _ t
  · rfl

@[simp] theorem outside_commitHead (h : Handle) : (s.commitHead h).outside = s.outside := by
  unfold State.commitHead
  split <;> simp

@[simp] theorem outside_commitDue (m n : Nat) : (s.commitDue m n).outside = s.outside := by
  induction n generalizing s with
  | zero => rfl
  | succ n ih =>
    unfold State.commitDue
    split
    · rfl
    · split
      · rw [ih, outside_commitHead]
      · rfl

@[simp] theorem outside_commits (m : Nat) : (s.commits m).outside = s.outside := outside_commitDue s m _

/-! ### Series -/

@[simp] theorem outside_skipOccurrence (id : Nat) : (s.skipOccurrence id).outside = s.outside := rfl

theorem outside_materialise (now id : Nat) (x : Series) : (s.materialise now id x).1.outside = s.outside := by
  unfold State.materialise
  dsimp only
  split
  · rfl
  · split
    · rfl
    · rename_i h
      dsimp only
      split <;> simp [outside_takeRecord h]

theorem outside_one (d : Dealt) (now lapse id : Nat) (x : Series) : (d.one now lapse id x).state.outside = d.state.outside := by
  unfold Dealt.one
  split
  · rfl
  · have h := outside_materialise d.state now id x
    split <;> simp_all

theorem outside_upTo (now target lapse id n : Nat) (d : Dealt) :
    (Dealt.upTo now target lapse id n d).state.outside = d.state.outside := by
  induction n generalizing d with
  | zero => rfl
  | succ n ih =>
    unfold Dealt.upTo
    split
    · rfl
    · split
      · rw [ih, outside_one]
      · rfl

@[simp] theorem outside_dealSeries (now target lapse id : Nat) : (s.dealSeries now target lapse id).state.outside = s.outside :=
  outside_upTo now target lapse id _ _

end Sys2Proof.Machine
end

