-- ==== Sys2Proof/Laws/Link.lean ====
section
/-! SUPPORT. The Host Link's part in every request: how one reaches its owner, how its answer fills its place, the kitchen
lists a step leaves, and what the host and panel wrappers answer. -/

namespace Sys2Proof.Machine

variable {s s1 t : State} {tag : Byte} {kind : Nat} {cmd : Instr} {ref : HostRef}

/-! ### Reaching the owner -/

/-- All the ways in which a request reaches its owner (R170, log 3). -/
theorem takeRequest_cases (h : s.takeRequest tag kind cmd = some (s1, ref)) :
    (∃ p, s.link.passed.find? (fun p => ownerOf p.ref.kind = ownerOf kind) = some p ∧ p.cmd = cmd ∧ ref = p.ref ∧
      s1 = { s with link := { s.link with passed := s.link.passed.erase p } }) ∨
    (s.link.passed.find? (fun p => ownerOf p.ref.kind = ownerOf kind) = none ∧ s.link.used < Config.linkPlaces ∧
      ref = ⟨tag, kind, false⟩ ∧ s1 = { s with link := { s.link with reserved := s.link.reserved ++ [(tag, kind)] } }) := by
  unfold State.takeRequest at h
  split at h
  · rename_i p hp
    split at h
    · rename_i hc
      simp only [Option.some.injEq, Prod.mk.injEq] at h
      exact .inl ⟨p, hp, hc, h.2.symm, h.1.symm⟩
    · exact absurd h (by simp)
  · rename_i hn
    split at h
    · rename_i hu
      simp only [Option.some.injEq, Prod.mk.injEq] at h
      exact .inr ⟨hn, hu, h.2.symm, h.1.symm⟩
    · exact absurd h (by simp)

/-- A request that reaches its owner changes the link alone, and there neither the frames nor the answers. -/
theorem takeRequest_keeps (h : s.takeRequest tag kind cmd = some (s1, ref)) :
    s1 = { s with link := s1.link } ∧ s1.link.filled = s.link.filled ∧ s1.link.requests = s.link.requests ∧
      s1.link.miso = s.link.miso ∧ s1.link.fullSeen = s.link.fullSeen := by
  rcases takeRequest_cases h with ⟨p, -, -, -, rfl⟩ | ⟨-, -, -, rfl⟩ <;> exact ⟨rfl, rfl, rfl, rfl, rfl⟩

/-- The same of the state that `State.taken` gives. -/
theorem taken_eq {c : Instr} (hr : requestOf c = some (tag, kind)) : s.taken c = s.takeRequest tag kind c := by
  simp [State.taken, hr]

/-! ### Answers -/

/-- An answer changes the link alone. -/
theorem answer_keeps (st : Status) (body : List Field) : s.answer ref st body = { s with link := (s.answer ref st body).link } := by
  unfold State.answer
  split <;> rfl

@[simp] theorem answer_dir (st : Status) (body : List Field) : (s.answer ref st body).dir = s.dir := by
  rw [answer_keeps]

@[simp] theorem answer_rooms (st : Status) (body : List Field) : (s.answer ref st body).rooms = s.rooms := by
  rw [answer_keeps]

@[simp] theorem answer_kitchens (st : Status) (body : List Field) : (s.answer ref st body).kitchens = s.kitchens := by
  rw [answer_keeps]

@[simp] theorem answer_clock (st : Status) (body : List Field) : (s.answer ref st body).clock = s.clock := by
  rw [answer_keeps]

@[simp] theorem answer_store (st : Status) (body : List Field) : (s.answer ref st body).store = s.store := by
  rw [answer_keeps]

@[simp] theorem answer_notice (st : Status) (body : List Field) : (s.answer ref st body).notice = s.notice := by
  rw [answer_keeps]

/-- An answer fills at most the place that its request reserved (R171). -/
theorem answer_used (st : Status) (body : List Field) : (s.answer ref st body).link.used = s.link.used := by
  unfold State.answer
  split
  · rename_i h
    have hm : (ref.tag, ref.kind) ∈ s.link.reserved := by simp_all
    have hl := List.length_erase_of_mem hm
    have hp := List.length_pos_of_mem hm
    simp only [Link.used, List.length_append, List.length_cons, List.length_nil, hl]
    omega
  · rfl

/-! ### Kitchen lists -/

/-- A kitchen's list depends on the kitchens, the directory and the rooms alone. -/
theorem kitchenList_congr (hk : t.kitchens = s.kitchens) (hd : t.dir = s.dir) (hr : t.rooms = s.rooms) (k : Nat) :
    t.kitchenList k = s.kitchenList k := by
  simp [State.kitchenList, State.kitchen, State.bookingAt, State.room, hk, hd, hr]

/-- A step that left every kitchen's list as it was raises no list_seq (R144). -/
theorem relist_eq_self (h : ∀ k, s.kitchenList k = t.kitchenList k) : t.relist s = t := by
  have key : ∀ (l : List Nat) (u : State),
      l.foldl (fun u k => if s.kitchenList k = t.kitchenList k then u
        else (u.modKitchen k fun x => { x with listSeq := (x.listSeq + 1) % 256 }).reportList k) u = u := by
    intro l
    induction l with
    | nil => intro u; rfl
    | cons k l ih => intro u; rw [List.foldl_cons, if_pos (h k), ih]
  exact key _ t

theorem relist_of_congr (hk : t.kitchens = s.kitchens) (hd : t.dir = s.dir) (hr : t.rooms = s.rooms) : t.relist s = t :=
  relist_eq_self fun k => (kitchenList_congr hk hd hr k).symm

/-- The last act of a step that left the kitchens, the directory and the rooms as they were. -/
theorem doneLists_of_congr (hk : t.kitchens = s.kitchens) (hd : t.dir = s.dir) (hr : t.rooms = s.rooms) :
    doneLists s t = .next t.followAttn := by
  rw [doneLists, done, relist_of_congr hk hd hr]

/-- The kitchen lists a step leaves change list_seq in the kitchens and the reports alone. -/
theorem relist_keeps (before : State) : s.relist before =
    { s with kitchens := (s.relist before).kitchens
             panelBus := { s.panelBus with listReports := (s.relist before).panelBus.listReports } } := by
  refine overAll_invariant
    (P := fun u => u = { s with kitchens := u.kitchens, panelBus := { s.panelBus with listReports := u.panelBus.listReports } })
    (fun k u hu => ?_) rfl
  split
  · exact hu
  · rw [hu]
    rfl

@[simp] theorem relist_dir (before : State) : (s.relist before).dir = s.dir := by rw [relist_keeps]
@[simp] theorem relist_rooms (before : State) : (s.relist before).rooms = s.rooms := by rw [relist_keeps]
@[simp] theorem relist_store (before : State) : (s.relist before).store = s.store := by rw [relist_keeps]
@[simp] theorem relist_series (before : State) : (s.relist before).series = s.series := by rw [relist_keeps]
@[simp] theorem relist_bank (before : State) : (s.relist before).bank = s.bank := by rw [relist_keeps]
@[simp] theorem relist_catering (before : State) : (s.relist before).catering = s.catering := by rw [relist_keeps]
@[simp] theorem relist_notice (before : State) : (s.relist before).notice = s.notice := by rw [relist_keeps]
@[simp] theorem relist_panels (before : State) : (s.relist before).panelBus.panels = s.panelBus.panels := by
  rw [relist_keeps]
@[simp] theorem relist_ports (before : State) : (s.relist before).panelBus.ports = s.panelBus.ports := by
  rw [relist_keeps]

/-! ### What the wrappers answer -/

/-- A request that its owner answers at once (R170, R171). -/
theorem hostNow_taken (owner : State → Reply) (h : s.takeRequest tag kind cmd = some (s1, ref)) :
    hostNow tag kind cmd owner s =
      .next ((((owner s1).state.answer ref (owner s1).status (owner s1).body)).relist s).followAttn := by
  simp [hostNow, h, doneLists, done]

/-- A request that its owner answers after several steps (R17, R170, R171). -/
theorem hostStepped_taken (owner : State → Reply) (h : s.takeRequest tag kind cmd = some (s1, ref)) :
    hostStepped tag kind cmd owner s =
      .next ((owner s1).state.answer ref (owner s1).status (owner s1).body).followAttn := by
  simp [hostStepped, h, done]

/-- Such a request refused, or answered without a change. -/
theorem hostStepped_reads {owner : State → Reply} {st : Status} {body : List Field}
    (h : s.takeRequest tag kind cmd = some (s1, ref)) (ho : owner s1 = ⟨s1, st, body⟩) :
    hostStepped tag kind cmd owner s = .next (s1.answered ref st body) := by
  rw [hostStepped_taken owner h, ho, State.answered]

/-- A request whose turn has not come changes nothing (log 3). -/
theorem hostNow_waits (owner : State → Reply) (h : s.takeRequest tag kind cmd = none) :
    hostNow tag kind cmd owner s = .next s := by simp [hostNow, h]

/-- A request whose owner leaves the kitchens, the directory and the rooms as they were. -/
theorem hostNow_plain {owner : State → Reply} {u : State} {st : Status} {body : List Field}
    (h : s.takeRequest tag kind cmd = some (s1, ref)) (ho : owner s1 = ⟨u, st, body⟩) (hk : u.kitchens = s1.kitchens)
    (hd : u.dir = s1.dir) (hr : u.rooms = s1.rooms) : hostNow tag kind cmd owner s = .next (u.answered ref st body) := by
  have hs := (takeRequest_keeps h).1
  rw [hostNow_taken owner h, ho, State.answered]
  rw [relist_of_congr] <;> simp [hk, hd, hr] <;> rw [hs]

/-- A request that its owner refuses, or answers without a change. -/
theorem hostNow_reads {owner : State → Reply} {st : Status} {body : List Field}
    (h : s.takeRequest tag kind cmd = some (s1, ref)) (ho : owner s1 = ⟨s1, st, body⟩) :
    hostNow tag kind cmd owner s = .next (s1.answered ref st body) := hostNow_plain h ho rfl rfl rfl

/-- A request that may wait, answered at once without a change. -/
theorem hostLater_reads {owner : HostRef → State → Reply ⊕ State} {st : Status} {body : List Field}
    (h : s.takeRequest tag kind cmd = some (s1, ref)) (ho : owner ref s1 = .inl ⟨s1, st, body⟩) :
    hostLater tag kind cmd owner s = .next (s1.answered ref st body) := by
  have hs := (takeRequest_keeps h).1
  simp only [hostLater, h, ho]
  rw [doneLists_of_congr, State.answered] <;> simp <;> rw [hs]

/-- A request that waits: its owner has left the kitchens, the directory and the rooms as they were. -/
theorem hostLater_waits {owner : HostRef → State → Reply ⊕ State} {u : State}
    (h : s.takeRequest tag kind cmd = some (s1, ref)) (ho : owner ref s1 = .inr u) (hk : u.kitchens = s1.kitchens)
    (hd : u.dir = s1.dir) (hr : u.rooms = s1.rooms) : hostLater tag kind cmd owner s = .next u.followAttn := by
  have hs := (takeRequest_keeps h).1
  simp only [hostLater, h, ho]
  rw [doneLists_of_congr] <;> simp [hk, hd, hr] <;> rw [hs]

theorem hostLater_not_taken {owner : HostRef → State → Reply ⊕ State} (h : s.takeRequest tag kind cmd = none) :
    hostLater tag kind cmd owner s = .next s := by simp [hostLater, h]

/-! ### Panel requests -/

/-- After a REPLY to a POLL that found acked_seq UNKNOWN the view is owed exactly when the active slot is valid (log 60). -/
theorem acknowledge_unknown {e : Panel} (seq : Nat) (h : e.ackedSeq = none) :
    (e.acknowledge true seq).owesView = e.active.isSome := by
  simp [Panel.acknowledge, Panel.owesView, h]

/-- After a REPLY to a POLL that found it known, and nothing forced, and after every REPLY to a follow-up, the view is owed
exactly when it is valid and the sequence reported is not its own (R110). -/
theorem acknowledge_known {e : Panel} {toPoll : Bool} (seq : Nat)
    (h : toPoll = false ∨ e.ackedSeq ≠ none ∧ e.viewForced = false) :
    (e.acknowledge toPoll seq).owesView = (e.active.isSome && seq ≠ e.viewSeq) := by
  rcases h with h | ⟨h, hf⟩
  · simp [Panel.acknowledge, Panel.owesView, h]
  · cases ha : e.ackedSeq <;> simp_all [Panel.acknowledge, Panel.owesView]

/-- The port that goes on after a panel request changes its own record alone (R110). -/
theorem served_keeps (p : Nat) : s.served p = { s with panelBus := { s.panelBus with ports := (s.served p).panelBus.ports } } := by
  unfold State.served
  dsimp only
  split
  · split
    · rfl
    · unfold State.decideFollowUp
      dsimp only
      split <;> rfl
  · rfl

@[simp] theorem served_panel (p q : Nat) : (s.served p).panel q = s.panel q := by rw [served_keeps]; rfl
@[simp] theorem served_dir (p : Nat) : (s.served p).dir = s.dir := by rw [served_keeps]
@[simp] theorem served_rooms (p : Nat) : (s.served p).rooms = s.rooms := by rw [served_keeps]
@[simp] theorem served_kitchens (p : Nat) : (s.served p).kitchens = s.kitchens := by rw [served_keeps]
@[simp] theorem served_outside (p : Nat) : (s.served p).outside = s.outside := by rw [served_keeps]; rfl

/-- The result stands in the panel's slot in the step in which its owner gives it (R114). -/
theorem answerPanel_slot {p code : Nat} (a : PanelAnswer) (hp : p < s.panelBus.panels.length) :
    ((s.answerPanel p code a).panel p).slot = match a with
      | .result st payload => .result ⟨code, st, payload⟩
      | .pending n => .pending n := by
  cases a <;> simp [State.answerPanel, State.panel_modPanel_same hp]

theorem answerPanel_other {p q code : Nat} (a : PanelAnswer) (h : p ≠ q) : (s.answerPanel p code a).panel q = s.panel q := by
  simp [State.answerPanel, State.panel_modPanel_other h]

@[simp] theorem answerPanel_dir (p code : Nat) (a : PanelAnswer) : (s.answerPanel p code a).dir = s.dir := by
  simp [State.answerPanel]

@[simp] theorem answerPanel_rooms (p code : Nat) (a : PanelAnswer) : (s.answerPanel p code a).rooms = s.rooms := by
  simp [State.answerPanel]

@[simp] theorem answerPanel_kitchens (p code : Nat) (a : PanelAnswer) : (s.answerPanel p code a).kitchens = s.kitchens := by
  simp [State.answerPanel]

@[simp] theorem answerPanel_outside (p code : Nat) (a : PanelAnswer) : (s.answerPanel p code a).outside = s.outside := by
  simp [State.answerPanel]

/-- A panel request always answers a next state: the hand-over taken, the owner's change, the result, the lists, ATTN. -/
theorem panelNow_next (src : PanelRef) (code : Nat) (cmd : Instr) (owner : State → State × PanelAnswer) (s : State) :
    panelNow src code cmd owner s = .next
      ((((owner (s.takeHanded cmd)).1.answerPanel src.panel code (owner (s.takeHanded cmd)).2).relist s).followAttn) := rfl

end Sys2Proof.Machine
end

