-- ==== Sys2Proof/Laws/Answers.lean ====
section
/-! SUPPORT. The block never stops: every command answers a next state, and after it ATTN is what its terms say wherever the
command changed anything. -/

namespace Sys2Proof.Machine

/-- The outcome of a command that runs: unchanged, or a state in which ATTN follows its terms (R173). -/
def Settles (s : State) (o : Outcome) : Prop := o = .next s ∨ ∃ u : State, o = .next u.followAttn

theorem settles_same (s : State) : Settles s (.next s) := .inl rfl
theorem settles_done (s u : State) : Settles s (done u) := .inr ⟨u, rfl⟩
theorem settles_doneLists (s u v : State) : Settles s (doneLists u v) := .inr ⟨_, rfl⟩

theorem settles_hostNow (tag : Byte) (kind : Nat) (cmd : Instr) (owner : State → Reply) (s : State) :
    Settles s (hostNow tag kind cmd owner s) := by
  unfold hostNow
  split
  · exact settles_same s
  · exact settles_doneLists s _ _

theorem settles_hostStepped (tag : Byte) (kind : Nat) (cmd : Instr) (owner : State → Reply) (s : State) :
    Settles s (hostStepped tag kind cmd owner s) := by
  unfold hostStepped
  split
  · exact settles_same s
  · exact settles_done s _

theorem settles_hostLater (tag : Byte) (kind : Nat) (cmd : Instr) (owner : HostRef → State → Reply ⊕ State) (s : State) :
    Settles s (hostLater tag kind cmd owner s) := by
  unfold hostLater
  split
  · exact settles_same s
  · split <;> exact settles_doneLists s _ _

theorem settles_panelNow (src : PanelRef) (code : Nat) (cmd : Instr) (owner : State → State × PanelAnswer) (s : State) :
    Settles s (panelNow src code cmd owner s) := settles_doneLists s _ _

/-! ### The commands that are no request -/

theorem settles_warmReset (s : State) : Settles s (execWarmReset s) := by
  unfold execWarmReset
  split <;> exact settles_done s _

theorem settles_secEdge (sinceTick : Nat) (s : State) : Settles s (execSecEdge sinceTick s) := by
  unfold execSecEdge
  split <;> first | exact settles_done s _ | exact settles_same s

theorem settles_dividerTick (s : State) : Settles s (execDividerTick s) := by
  unfold execDividerTick
  split
  · exact settles_same s
  · split <;> exact settles_done s _
  · exact settles_done s _

theorem settles_enterHoldover (s : State) : Settles s (execEnterHoldover s) := by
  unfold execEnterHoldover
  split <;> first | exact settles_done s _ | exact settles_same s

theorem settles_minuteEvent (s : State) : Settles s (execMinuteEvent s) := by
  unfold execMinuteEvent
  split <;> first | exact settles_done s _ | exact settles_same s

theorem settles_secondEvent (s : State) : Settles s (execSecondEvent s) := by
  unfold execSecondEvent
  split <;> first | exact settles_doneLists s _ _ | exact settles_same s

theorem settles_windowExpiry (channel : Nat) (s : State) : Settles s (execWindowExpiry channel s) := by
  unfold execWindowExpiry
  repeat' split
  all_goals first | exact settles_doneLists s _ _ | exact settles_same s

theorem settles_absenceExpiry (channel : Nat) (s : State) : Settles s (execAbsenceExpiry channel s) := by
  unfold execAbsenceExpiry
  repeat' split
  all_goals first | exact settles_doneLists s _ _ | exact settles_same s

theorem settles_startsAndEnds (s : State) : Settles s (execStartsAndEnds s) := by
  unfold execStartsAndEnds
  split <;> first | exact settles_doneLists s _ _ | exact settles_same s

theorem settles_windowOpening (s : State) : Settles s (execWindowOpening s) := by
  unfold execWindowOpening
  split <;> first | exact settles_done s _ | exact settles_same s

theorem settles_commit (s : State) : Settles s (execCommit s) := by
  unfold execCommit
  split <;> first | exact settles_doneLists s _ _ | exact settles_same s

theorem settles_closureTimes (s : State) : Settles s (execClosureTimes s) := by
  unfold execClosureTimes
  split <;> first | exact settles_done s _ | exact settles_same s

theorem settles_retirementWalk (s : State) : Settles s (execRetirementWalk s) := by
  unfold execRetirementWalk
  split <;> first | exact settles_done s _ | exact settles_same s

theorem settles_retirementWalkStep (s : State) : Settles s (execRetirementWalkStep s) := by
  unfold execRetirementWalkStep; split <;> first | exact settles_doneLists s _ _ | exact settles_same s

theorem settles_seriesPassStep (s : State) : Settles s (execSeriesPassStep s) := by
  unfold execSeriesPassStep
  split <;> first | exact settles_done s _ | exact settles_same s

theorem settles_materialisationWalk (s : State) : Settles s (execMaterialisationWalk s) := by
  unfold execMaterialisationWalk
  split <;> first | exact settles_done s _ | exact settles_same s

theorem settles_materialisationWalkStep (s : State) : Settles s (execMaterialisationWalkStep s) := by
  unfold execMaterialisationWalkStep; split <;> first | exact settles_doneLists s _ _ | exact settles_same s

theorem settles_planningWalk (s : State) : Settles s (execPlanningWalk s) := by
  unfold execPlanningWalk
  split <;> first | exact settles_done s _ | exact settles_same s

theorem settles_planningWalkStep (s : State) : Settles s (execPlanningWalkStep s) := by
  unfold execPlanningWalkStep
  split
  · exact settles_same s
  · split
    · exact settles_done s _
    · split <;> first | exact settles_doneLists s _ _ | exact settles_done s _

theorem settles_cancelPassStep (s : State) : Settles s (execCancelPassStep s) := by
  unfold execCancelPassStep
  dsimp only
  split <;> first | exact settles_doneLists s _ _ | exact settles_same s

theorem settles_takeRequestFrame (s : State) : Settles s (execTakeRequestFrame s) := by
  unfold execTakeRequestFrame
  split
  · exact settles_same s
  · split <;> first | exact settles_done s _ | exact settles_same s

theorem settles_searchTake (s : State) : Settles s (execSearchTake s) := by
  unfold execSearchTake
  split <;> first | exact settles_done s _ | exact settles_same s

theorem settles_placementWalkStep (s : State) : Settles s (execPlacementWalkStep s) := by
  unfold execPlacementWalkStep
  split
  · exact settles_same s
  · split
    · exact settles_same s
    · split <;> first | exact settles_done s _ | exact settles_same s

theorem settles_placeCompletion (s : State) : Settles s (execPlaceCompletion s) := by
  unfold execPlaceCompletion
  split
  · exact settles_same s
  · dsimp only; split <;> exact settles_done s _

theorem settles_placeAndBookCompletion (s : State) : Settles s (execPlaceAndBookCompletion s) := by
  unfold execPlaceAndBookCompletion
  split
  · exact settles_same s
  · split <;> first | exact settles_doneLists s _ _ | exact settles_done s _

theorem settles_findNearbyCompletion (s : State) : Settles s (execFindNearbyCompletion s) := by
  unfold execFindNearbyCompletion
  split
  · exact settles_same s
  · dsimp only
    split
    · split <;> exact settles_done s _
    · exact settles_done s _
    · exact settles_done s _

theorem settles_sweepSearchCompletion (s : State) : Settles s (execSweepSearchCompletion s) := by
  unfold execSweepSearchCompletion
  split
  · exact settles_same s
  · dsimp only; split <;> first | exact settles_doneLists s _ _ | exact settles_done s _

theorem settles_withdrawal (panel search : Nat) (s : State) : Settles s (execWithdrawal panel search s) := by
  unfold execWithdrawal
  dsimp only
  split <;> exact settles_done s _

theorem settles_sweepStep (s : State) : Settles s (execSweepStep s) := by
  unfold execSweepStep
  split <;> first | exact settles_doneLists s _ _ | exact settles_same s

theorem settles_sweepReport (s : State) : Settles s (execSweepReport s) := by
  unfold execSweepReport
  split <;> first | exact settles_doneLists s _ _ | exact settles_same s

theorem settles_deferredViewBuild (panel : Nat) (s : State) : Settles s (execDeferredViewBuild panel s) := by
  unfold execDeferredViewBuild
  dsimp only
  split <;> first | exact settles_done s _ | exact settles_same s

theorem settles_poll (port : Nat) (s : State) : Settles s (execPoll port s) := by
  unfold execPoll
  split
  · exact settles_same s
  · split <;> first | exact settles_done s _ | exact settles_same s

theorem settles_reply (port : Nat) (frame : List Byte) (s : State) : Settles s (execReply port frame s) := by
  unfold execReply
  dsimp only
  split <;> first | exact settles_done s _ | exact settles_same s

theorem settles_followUpReply (port : Nat) (frame : List Byte) (s : State) : Settles s (execFollowUpReply port frame s) := by
  unfold execFollowUpReply
  dsimp only
  split <;> first | exact settles_done s _ | exact settles_same s

theorem settles_replyTimeout (port : Nat) (s : State) : Settles s (execReplyTimeout port s) := by
  unfold execReplyTimeout
  dsimp only
  split <;> first | exact settles_done s _ | exact settles_same s

theorem settles_holdTakesEffect (panel : Nat) (s : State) : Settles s (execHoldTakesEffect panel s) := by
  unfold execHoldTakesEffect
  split
  · exact settles_same s
  · split <;> first | exact settles_done s _ | exact settles_same s

theorem settles_viewBuild (room : Nat) (s : State) : Settles s (execViewBuild room s) := by
  unfold execViewBuild
  dsimp only
  split <;> exact settles_done s _

theorem settles_catchUpCommitStep (s : State) : Settles s (execCatchUpCommitStep s) := by
  unfold execCatchUpCommitStep
  split
  · split
    · exact settles_same s
    · split
      · dsimp only
        split <;> first | exact settles_doneLists s _ _ | exact settles_done s _
      · exact settles_done s _
  · exact settles_same s

theorem settles_catchUpClosureStep (s : State) : Settles s (execCatchUpClosureStep s) := by
  unfold execCatchUpClosureStep
  split
  · split
    · exact settles_same s
    · split <;> exact settles_done s _
  · exact settles_same s

theorem settles_catchUpBookingStep (s : State) : Settles s (execCatchUpBookingStep s) := by
  unfold execCatchUpBookingStep
  split
  · split <;> first | exact settles_doneLists s _ _ | exact settles_same s
  · exact settles_same s

theorem settles_catchUpDays (s : State) : Settles s (execCatchUpDays s) := by
  unfold execCatchUpDays
  split
  · split
    · exact settles_same s
    · split <;> exact settles_done s _
  · exact settles_same s

theorem settles_occupancyReading (r : Nat) (o : Bool) (n : Nat) (s : State) : Settles s (execOccupancyReading r o n s) := by
  unfold execOccupancyReading
  exact settles_doneLists s _ _

theorem settles_panelUnavailable (r : Nat) (s : State) : Settles s (execPanelUnavailable r s) := by
  unfold execPanelUnavailable
  exact settles_done s _

theorem settles_panelAvailable (r : Nat) (s : State) : Settles s (execPanelAvailable r s) := by
  unfold execPanelAvailable
  exact settles_doneLists s _ _

/-! ### The requests, and the commands that always act -/

theorem settles_powerOnReset (s : State) : Settles s (execPowerOnReset s) :=
  settles_done s _

theorem settles_retentionLoss (s : State) : Settles s (execRetentionLoss s) :=
  settles_done s _

theorem settles_status (s : State) : Settles s (execStatus s) :=
  settles_done s _

theorem settles_otherTransferCommand (_code : Option Byte) (s : State) : Settles s (execOtherTransferCommand _code s) :=
  settles_done s _

theorem settles_send (bytes : List Byte) (s : State) : Settles s (execSend bytes s) :=
  settles_done s _

theorem settles_fetch (count : Nat) (s : State) : Settles s (execFetch count s) :=
  settles_done s _

theorem settles_linkReset (s : State) : Settles s (execLinkReset s) :=
  settles_done s _

theorem settles_setTime (tag : Byte) (minute second : Nat) (s : State) : Settles s (execSetTime tag minute second s) :=
  settles_hostNow _ _ _ _ s

theorem settles_start (tag : Byte) (s : State) : Settles s (execStart tag s) :=
  settles_hostNow _ _ _ _ s

theorem settles_trimTime (tag : Byte) (minutes : Int) (s : State) : Settles s (execTrimTime tag minutes s) :=
  settles_hostStepped _ _ _ _ s

theorem settles_readTime (tag : Byte) (s : State) : Settles s (execReadTime tag s) :=
  settles_hostNow _ _ _ _ s

theorem settles_readRetention (tag : Byte) (s : State) : Settles s (execReadRetention tag s) :=
  settles_hostNow _ _ _ _ s

theorem settles_setDistances (tag : Byte) (origin : Nat) (row : List Nat) (s : State) : Settles s (execSetDistances tag origin row s) :=
  settles_hostNow _ _ _ _ s

theorem settles_setRoom (tag : Byte) (form : RoomForm) (s : State) : Settles s (execSetRoom tag form s) :=
  settles_hostNow _ _ _ _ s

theorem settles_removeRoom (tag : Byte) (room : Nat) (s : State) : Settles s (execRemoveRoom tag room s) :=
  settles_hostNow _ _ _ _ s

theorem settles_readRoom (tag : Byte) (room : Nat) (s : State) : Settles s (execReadRoom tag room s) :=
  settles_hostNow _ _ _ _ s

theorem settles_setKitchen (tag : Byte) (form : KitchenForm) (s : State) : Settles s (execSetKitchen tag form s) :=
  settles_hostNow _ _ _ _ s

theorem settles_setKitchenProfile (tag : Byte) (kitchen : Nat) (profile : List Nat) (s : State) : Settles s (execSetKitchenProfile tag kitchen profile s) :=
  settles_hostNow _ _ _ _ s

theorem settles_removeKitchen (tag : Byte) (kitchen : Nat) (s : State) : Settles s (execRemoveKitchen tag kitchen s) :=
  settles_hostNow _ _ _ _ s

theorem settles_readKitchen (tag : Byte) (kitchen : Nat) (s : State) : Settles s (execReadKitchen tag kitchen s) :=
  settles_hostNow _ _ _ _ s

theorem settles_setWeights (tag : Byte) (weights : Weights) (s : State) : Settles s (execSetWeights tag weights s) :=
  settles_hostNow _ _ _ _ s

theorem settles_setPolicy (tag : Byte) (form : PolicyForm) (s : State) : Settles s (execSetPolicy tag form s) :=
  settles_hostNow _ _ _ _ s

theorem settles_readStore (tag : Byte) (s : State) : Settles s (execReadStore tag s) :=
  settles_hostNow _ _ _ _ s

theorem settles_book (tag : Byte) (form : BookForm) (s : State) : Settles s (execBook tag form s) :=
  settles_hostNow _ _ _ _ s

theorem settles_amend (tag : Byte) (form : AmendForm) (s : State) : Settles s (execAmend tag form s) :=
  settles_hostNow _ _ _ _ s

theorem settles_cancel (tag : Byte) (handle : Handle) (s : State) : Settles s (execCancel tag handle s) :=
  settles_hostNow _ _ _ _ s

theorem settles_readBooking (tag : Byte) (handle : Handle) (s : State) : Settles s (execReadBooking tag handle s) :=
  settles_hostNow _ _ _ _ s

theorem settles_listRoom (tag : Byte) (room : Nat) (fromMin count : Option Nat) (s : State) : Settles s (execListRoom tag room fromMin count s) :=
  settles_hostNow _ _ _ _ s

theorem settles_createSeries (tag : Byte) (form : SeriesForm) (s : State) : Settles s (execCreateSeries tag form s) :=
  settles_hostNow _ _ _ _ s

theorem settles_endSeries (tag : Byte) (id : Nat) (s : State) : Settles s (execEndSeries tag id s) :=
  settles_hostNow _ _ _ _ s

theorem settles_resumeSeries (tag : Byte) (id : Nat) (s : State) : Settles s (execResumeSeries tag id s) :=
  settles_hostNow _ _ _ _ s

theorem settles_readSeries (tag : Byte) (id : Nat) (s : State) : Settles s (execReadSeries tag id s) :=
  settles_hostNow _ _ _ _ s

theorem settles_place (tag : Byte) (form : PlaceForm) (s : State) : Settles s (execPlace tag form s) :=
  settles_hostLater _ _ _ _ s

theorem settles_placeAndBook (tag : Byte) (form : PlaceBookForm) (s : State) : Settles s (execPlaceAndBook tag form s) :=
  settles_hostLater _ _ _ _ s

theorem settles_readPlacement (tag : Byte) (s : State) : Settles s (execReadPlacement tag s) :=
  settles_hostNow _ _ _ _ s

theorem settles_readTimers (tag : Byte) (s : State) : Settles s (execReadTimers tag s) :=
  settles_hostNow _ _ _ _ s

theorem settles_bindPanel (tag : Byte) (panel kind target : Nat) (s : State) : Settles s (execBindPanel tag panel kind target s) :=
  settles_hostNow _ _ _ _ s

theorem settles_unbind (tag : Byte) (panel : Nat) (s : State) : Settles s (execUnbind tag panel s) :=
  settles_hostLater _ _ _ _ s

theorem settles_bar (tag : Byte) (panel : Nat) (s : State) : Settles s (execBar tag panel s) :=
  settles_hostLater _ _ _ _ s

theorem settles_unbar (tag : Byte) (panel : Nat) (s : State) : Settles s (execUnbar tag panel s) :=
  settles_hostNow _ _ _ _ s

theorem settles_setPoll (tag : Byte) (panel exponent : Nat) (s : State) : Settles s (execSetPoll tag panel exponent s) :=
  settles_hostNow _ _ _ _ s

theorem settles_readPanel (tag : Byte) (panel : Nat) (s : State) : Settles s (execReadPanel tag panel s) :=
  settles_hostNow _ _ _ _ s

theorem settles_order (tag : Byte) (handle : Handle) (form : OrderForm) (s : State) : Settles s (execOrder tag handle form s) :=
  settles_hostNow _ _ _ _ s

theorem settles_changeOrder (tag : Byte) (handle : Handle) (form : OrderForm) (s : State) : Settles s (execChangeOrder tag handle form s) :=
  settles_hostNow _ _ _ _ s

theorem settles_voidOrder (tag : Byte) (handle : Handle) (s : State) : Settles s (execVoidOrder tag handle s) :=
  settles_hostNow _ _ _ _ s

theorem settles_readLoad (tag : Byte) (kitchen day window : Nat) (count : Option Nat) (s : State) : Settles s (execReadLoad tag kitchen day window count s) :=
  settles_hostNow _ _ _ _ s

theorem settles_closeRoom (tag : Byte) (form : CloseForm) (s : State) : Settles s (execCloseRoom tag form s) :=
  settles_hostLater _ _ _ _ s

theorem settles_reopenRoom (tag : Byte) (room : Nat) (s : State) : Settles s (execReopenRoom tag room s) :=
  settles_hostNow _ _ _ _ s

theorem settles_readSweep (tag : Byte) (s : State) : Settles s (execReadSweep tag s) :=
  settles_hostNow _ _ _ _ s

theorem settles_setNoticeEnables (tag : Byte) (master : Bool) (enables : Enables) (s : State) : Settles s (execSetNoticeEnables tag master enables s) :=
  settles_hostNow _ _ _ _ s

theorem settles_readNotices (tag : Byte) (s : State) : Settles s (execReadNotices tag s) :=
  settles_hostNow _ _ _ _ s

theorem settles_nextChanged (tag : Byte) (category : Nat) (s : State) : Settles s (execNextChanged tag category s) :=
  settles_hostNow _ _ _ _ s

theorem settles_readCounts (tag : Byte) (s : State) : Settles s (execReadCounts tag s) :=
  settles_hostNow _ _ _ _ s

theorem settles_panelSecond (s : State) : Settles s (execPanelSecond s) :=
  settles_done s _

theorem settles_frameDiscarded (_port : Nat) (_frame : List Byte) (s : State) : Settles s (execFrameDiscarded _port _frame s) :=
  settles_same s

theorem settles_listBuild (kitchen : Nat) (s : State) : Settles s (execListBuild kitchen s) :=
  settles_done s _

theorem settles_checkIn (src : PanelRef) (badge : Id32) (handle : Option Handle) (s : State) : Settles s (execCheckIn src badge handle s) :=
  settles_panelNow _ _ _ _ s

theorem settles_walkUp (src : PanelRef) (wanted : Nat) (badge : Id32) (s : State) : Settles s (execWalkUp src wanted badge s) :=
  settles_panelNow _ _ _ _ s

theorem settles_extend (src : PanelRef) (ask : Nat) (handle : Option Handle) (s : State) : Settles s (execExtend src ask handle s) :=
  settles_panelNow _ _ _ _ s

theorem settles_endNow (src : PanelRef) (handle : Option Handle) (s : State) : Settles s (execEndNow src handle s) :=
  settles_panelNow _ _ _ _ s

theorem settles_findNearby (src : PanelRef) (s : State) : Settles s (execFindNearby src s) :=
  settles_panelNow _ _ _ _ s

theorem settles_out (src : PanelRef) (handle : Option Handle) (s : State) : Settles s (execOut src handle s) :=
  settles_panelNow _ _ _ _ s

theorem settles_handed (src : PanelRef) (handle : Option Handle) (s : State) : Settles s (execHanded src handle s) :=
  settles_panelNow _ _ _ _ s

theorem settles_discard (src : PanelRef) (handle : Option Handle) (s : State) : Settles s (execDiscard src handle s) :=
  settles_panelNow _ _ _ _ s

theorem settles_received (src : PanelRef) (handle : Option Handle) (s : State) : Settles s (execReceived src handle s) :=
  settles_panelNow _ _ _ _ s

/-- Every command settles. -/
theorem exec_settles (c : Instr) (s : State) : Settles s (exec c s) :=
  match c with
  | .powerOnReset => settles_powerOnReset s
  | .warmReset => settles_warmReset s
  | .retentionLoss => settles_retentionLoss s
  | .secEdge _ => settles_secEdge _ s
  | .dividerTick => settles_dividerTick s
  | .enterHoldover => settles_enterHoldover s
  | .minuteEvent => settles_minuteEvent s
  | .secondEvent => settles_secondEvent s
  | .windowExpiry _ => settles_windowExpiry _ s
  | .absenceExpiry _ => settles_absenceExpiry _ s
  | .startsAndEnds => settles_startsAndEnds s
  | .windowOpening => settles_windowOpening s
  | .commit => settles_commit s
  | .closureTimes => settles_closureTimes s
  | .retirementWalk => settles_retirementWalk s
  | .retirementWalkStep => settles_retirementWalkStep s
  | .seriesPassStep => settles_seriesPassStep s
  | .materialisationWalk => settles_materialisationWalk s
  | .materialisationWalkStep => settles_materialisationWalkStep s
  | .planningWalk => settles_planningWalk s
  | .planningWalkStep => settles_planningWalkStep s
  | .cancelPassStep => settles_cancelPassStep s
  | .status => settles_status s
  | .otherTransferCommand c => settles_otherTransferCommand c s
  | .send _ => settles_send _ s
  | .fetch _ => settles_fetch _ s
  | .linkReset => settles_linkReset s
  | .takeRequestFrame => settles_takeRequestFrame s
  | .setTime _ _ _ => settles_setTime _ _ _ s
  | .start _ => settles_start _ s
  | .trimTime _ _ => settles_trimTime _ _ s
  | .readTime _ => settles_readTime _ s
  | .readRetention _ => settles_readRetention _ s
  | .setDistances _ _ _ => settles_setDistances _ _ _ s
  | .setRoom _ _ => settles_setRoom _ _ s
  | .removeRoom _ _ => settles_removeRoom _ _ s
  | .readRoom _ _ => settles_readRoom _ _ s
  | .setKitchen _ _ => settles_setKitchen _ _ s
  | .setKitchenProfile _ _ _ => settles_setKitchenProfile _ _ _ s
  | .removeKitchen _ _ => settles_removeKitchen _ _ s
  | .readKitchen _ _ => settles_readKitchen _ _ s
  | .setWeights _ _ => settles_setWeights _ _ s
  | .setPolicy _ _ => settles_setPolicy _ _ s
  | .readStore _ => settles_readStore _ s
  | .book _ _ => settles_book _ _ s
  | .amend _ _ => settles_amend _ _ s
  | .cancel _ _ => settles_cancel _ _ s
  | .readBooking _ _ => settles_readBooking _ _ s
  | .listRoom _ _ _ _ => settles_listRoom _ _ _ _ s
  | .createSeries _ _ => settles_createSeries _ _ s
  | .endSeries _ _ => settles_endSeries _ _ s
  | .resumeSeries _ _ => settles_resumeSeries _ _ s
  | .readSeries _ _ => settles_readSeries _ _ s
  | .place _ _ => settles_place _ _ s
  | .placeAndBook _ _ => settles_placeAndBook _ _ s
  | .readPlacement _ => settles_readPlacement _ s
  | .readTimers _ => settles_readTimers _ s
  | .bindPanel _ _ _ _ => settles_bindPanel _ _ _ _ s
  | .unbind _ _ => settles_unbind _ _ s
  | .bar _ _ => settles_bar _ _ s
  | .unbar _ _ => settles_unbar _ _ s
  | .setPoll _ _ _ => settles_setPoll _ _ _ s
  | .readPanel _ _ => settles_readPanel _ _ s
  | .order _ _ _ => settles_order _ _ _ s
  | .changeOrder _ _ _ => settles_changeOrder _ _ _ s
  | .voidOrder _ _ => settles_voidOrder _ _ s
  | .readLoad _ _ _ _ _ => settles_readLoad _ _ _ _ _ s
  | .closeRoom _ _ => settles_closeRoom _ _ s
  | .reopenRoom _ _ => settles_reopenRoom _ _ s
  | .readSweep _ => settles_readSweep _ s
  | .setNoticeEnables _ _ _ => settles_setNoticeEnables _ _ _ s
  | .readNotices _ => settles_readNotices _ s
  | .nextChanged _ _ => settles_nextChanged _ _ s
  | .readCounts _ => settles_readCounts _ s
  | .searchTake => settles_searchTake s
  | .placementWalkStep => settles_placementWalkStep s
  | .placeCompletion => settles_placeCompletion s
  | .placeAndBookCompletion => settles_placeAndBookCompletion s
  | .findNearbyCompletion => settles_findNearbyCompletion s
  | .sweepSearchCompletion => settles_sweepSearchCompletion s
  | .withdrawal _ _ => settles_withdrawal _ _ s
  | .sweepStep => settles_sweepStep s
  | .sweepReport => settles_sweepReport s
  | .panelSecond => settles_panelSecond s
  | .deferredViewBuild _ => settles_deferredViewBuild _ s
  | .poll _ => settles_poll _ s
  | .reply _ _ => settles_reply _ _ s
  | .followUpReply _ _ => settles_followUpReply _ _ s
  | .replyTimeout _ => settles_replyTimeout _ s
  | .frameDiscarded p f => settles_frameDiscarded p f s
  | .holdTakesEffect _ => settles_holdTakesEffect _ s
  | .viewBuild _ => settles_viewBuild _ s
  | .listBuild _ => settles_listBuild _ s
  | .checkIn _ _ _ => settles_checkIn _ _ _ s
  | .occupancyReading _ _ _ => settles_occupancyReading _ _ _ s
  | .panelUnavailable _ => settles_panelUnavailable _ s
  | .panelAvailable _ => settles_panelAvailable _ s
  | .walkUp _ _ _ => settles_walkUp _ _ _ s
  | .extend _ _ _ => settles_extend _ _ _ s
  | .endNow _ _ => settles_endNow _ _ s
  | .findNearby _ => settles_findNearby _ s
  | .out _ _ => settles_out _ _ s
  | .handed _ _ => settles_handed _ _ s
  | .discard _ _ => settles_discard _ _ s
  | .received _ _ => settles_received _ _ s
  | .catchUpCommitStep => settles_catchUpCommitStep s
  | .catchUpClosureStep => settles_catchUpClosureStep s
  | .catchUpBookingStep => settles_catchUpBookingStep s
  | .catchUpDays => settles_catchUpDays s

/-- No command faults or is refused: each answers a next state. -/
theorem exec_next (c : Instr) (s : State) : ∃ t, exec c s = .next t := by
  rcases exec_settles c s with h | ⟨u, h⟩ <;> exact ⟨_, h⟩

/-- Every step answers a next state. -/
theorem step_next (s : State) : ∃ t, step s = .next t := by
  unfold step
  split
  · exact ⟨s, rfl⟩
  · exact exec_next _ _

end Sys2Proof.Machine
end

