-- ==== Sys2Proof/Laws/PerInstr.lean ====
section
/-! SUPPORT. The family of per-command lemmas: the kind of every host request has an owner and a body reader, so that a frame
of that kind is never answered as of an unknown kind (R170, R188). -/

namespace Sys2Proof.Laws.RequestKindReads

open Sys2Proof Sys2Proof.Machine

/-- The kind of a host request fits a byte, belongs to one of the eleven owners, and has a reader of its body. -/
def Statement (c : Instr) : Prop :=
  ∀ tag kind, requestOf c = some (tag, kind) → kind < 256 ∧ ownerOf kind ≤ 10 ∧ (bodyReader tag kind).isSome = true

/-- For a command whose kind is known. -/
theorem ofKind {c : Instr} {tag : Byte} {kind : Nat} (h : requestOf c = some (tag, kind))
    (hk : kind < 256 ∧ ownerOf kind ≤ 10 ∧ (bodyReader tag kind).isSome = true) : Statement c := by
  intro tag' kind' h'
  rw [h] at h'
  simp only [Option.some.injEq, Prod.mk.injEq] at h'
  rw [← h'.1, ← h'.2]
  exact hk

/-- For a command that is no host request. -/
theorem ofNone {c : Instr} (h : requestOf c = none) : Statement c := by
  intro tag kind h'
  rw [h] at h'
  exact absurd h' (by simp)

theorem powerOnReset : Statement .powerOnReset := ofNone rfl
theorem warmReset : Statement .warmReset := ofNone rfl
theorem retentionLoss : Statement .retentionLoss := ofNone rfl
theorem secEdge (sinceTick : Nat) : Statement (.secEdge sinceTick) := ofNone rfl
theorem dividerTick : Statement .dividerTick := ofNone rfl
theorem enterHoldover : Statement .enterHoldover := ofNone rfl
theorem minuteEvent : Statement .minuteEvent := ofNone rfl
theorem secondEvent : Statement .secondEvent := ofNone rfl
theorem windowExpiry (channel : Nat) : Statement (.windowExpiry channel) := ofNone rfl
theorem absenceExpiry (channel : Nat) : Statement (.absenceExpiry channel) := ofNone rfl
theorem startsAndEnds : Statement .startsAndEnds := ofNone rfl
theorem windowOpening : Statement .windowOpening := ofNone rfl
theorem commit : Statement .commit := ofNone rfl
theorem closureTimes : Statement .closureTimes := ofNone rfl
theorem retirementWalk : Statement .retirementWalk := ofNone rfl
theorem retirementWalkStep : Statement .retirementWalkStep := ofNone rfl
theorem seriesPassStep : Statement .seriesPassStep := ofNone rfl
theorem materialisationWalk : Statement .materialisationWalk := ofNone rfl
theorem materialisationWalkStep : Statement .materialisationWalkStep := ofNone rfl
theorem planningWalk : Statement .planningWalk := ofNone rfl
theorem planningWalkStep : Statement .planningWalkStep := ofNone rfl
theorem cancelPassStep : Statement .cancelPassStep := ofNone rfl
theorem status : Statement .status := ofNone rfl
theorem otherTransferCommand (code : Option Byte) : Statement (.otherTransferCommand code) := ofNone rfl
theorem send (bytes : List Byte) : Statement (.send bytes) := ofNone rfl
theorem fetch (count : Nat) : Statement (.fetch count) := ofNone rfl
theorem linkReset : Statement .linkReset := ofNone rfl
theorem takeRequestFrame : Statement .takeRequestFrame := ofNone rfl
theorem setTime (tag : Byte) (minute second : Nat) : Statement (.setTime tag minute second) :=
  ofKind rfl ⟨by decide, by decide, rfl⟩
theorem start (tag : Byte) : Statement (.start tag) := ofKind rfl ⟨by decide, by decide, rfl⟩
theorem trimTime (tag : Byte) (minutes : Int) : Statement (.trimTime tag minutes) := ofKind rfl ⟨by decide, by decide, rfl⟩
theorem readTime (tag : Byte) : Statement (.readTime tag) := ofKind rfl ⟨by decide, by decide, rfl⟩
theorem readRetention (tag : Byte) : Statement (.readRetention tag) := ofKind rfl ⟨by decide, by decide, rfl⟩
theorem setDistances (tag : Byte) (origin : Nat) (row : List Nat) : Statement (.setDistances tag origin row) :=
  ofKind rfl ⟨by decide, by decide, rfl⟩
theorem setRoom (tag : Byte) (form : RoomForm) : Statement (.setRoom tag form) := ofKind rfl ⟨by decide, by decide, rfl⟩
theorem removeRoom (tag : Byte) (room : Nat) : Statement (.removeRoom tag room) := ofKind rfl ⟨by decide, by decide, rfl⟩
theorem readRoom (tag : Byte) (room : Nat) : Statement (.readRoom tag room) := ofKind rfl ⟨by decide, by decide, rfl⟩
theorem setKitchen (tag : Byte) (form : KitchenForm) : Statement (.setKitchen tag form) :=
  ofKind rfl ⟨by decide, by decide, rfl⟩
theorem setKitchenProfile (tag : Byte) (kitchen : Nat) (profile : List Nat) : Statement (.setKitchenProfile tag kitchen profile) :=
  ofKind rfl ⟨by decide, by decide, rfl⟩
theorem removeKitchen (tag : Byte) (kitchen : Nat) : Statement (.removeKitchen tag kitchen) :=
  ofKind rfl ⟨by decide, by decide, rfl⟩
theorem readKitchen (tag : Byte) (kitchen : Nat) : Statement (.readKitchen tag kitchen) :=
  ofKind rfl ⟨by decide, by decide, rfl⟩
theorem setWeights (tag : Byte) (weights : Weights) : Statement (.setWeights tag weights) :=
  ofKind rfl ⟨by decide, by decide, rfl⟩
theorem setPolicy (tag : Byte) (form : PolicyForm) : Statement (.setPolicy tag form) := ofKind rfl ⟨by decide, by decide, rfl⟩
theorem readStore (tag : Byte) : Statement (.readStore tag) := ofKind rfl ⟨by decide, by decide, rfl⟩
theorem book (tag : Byte) (form : BookForm) : Statement (.book tag form) := ofKind rfl ⟨by decide, by decide, rfl⟩
theorem amend (tag : Byte) (form : AmendForm) : Statement (.amend tag form) := ofKind rfl ⟨by decide, by decide, rfl⟩
theorem cancel (tag : Byte) (handle : Handle) : Statement (.cancel tag handle) := ofKind rfl ⟨by decide, by decide, rfl⟩
theorem readBooking (tag : Byte) (handle : Handle) : Statement (.readBooking tag handle) :=
  ofKind rfl ⟨by decide, by decide, rfl⟩
theorem listRoom (tag : Byte) (room : Nat) (fromMin : Option Nat) (count : Option Nat) : Statement (.listRoom tag room fromMin count) :=
  ofKind rfl ⟨by decide, by decide, rfl⟩
theorem createSeries (tag : Byte) (form : SeriesForm) : Statement (.createSeries tag form) :=
  ofKind rfl ⟨by decide, by decide, rfl⟩
theorem endSeries (tag : Byte) (id : Nat) : Statement (.endSeries tag id) := ofKind rfl ⟨by decide, by decide, rfl⟩
theorem resumeSeries (tag : Byte) (id : Nat) : Statement (.resumeSeries tag id) := ofKind rfl ⟨by decide, by decide, rfl⟩
theorem readSeries (tag : Byte) (id : Nat) : Statement (.readSeries tag id) := ofKind rfl ⟨by decide, by decide, rfl⟩
theorem place (tag : Byte) (form : PlaceForm) : Statement (.place tag form) := ofKind rfl ⟨by decide, by decide, rfl⟩
theorem placeAndBook (tag : Byte) (form : PlaceBookForm) : Statement (.placeAndBook tag form) :=
  ofKind rfl ⟨by decide, by decide, rfl⟩
theorem readPlacement (tag : Byte) : Statement (.readPlacement tag) := ofKind rfl ⟨by decide, by decide, rfl⟩
theorem readTimers (tag : Byte) : Statement (.readTimers tag) := ofKind rfl ⟨by decide, by decide, rfl⟩
theorem bindPanel (tag : Byte) (panel kind target : Nat) : Statement (.bindPanel tag panel kind target) :=
  ofKind rfl ⟨by decide, by decide, rfl⟩
theorem unbind (tag : Byte) (panel : Nat) : Statement (.unbind tag panel) := ofKind rfl ⟨by decide, by decide, rfl⟩
theorem bar (tag : Byte) (panel : Nat) : Statement (.bar tag panel) := ofKind rfl ⟨by decide, by decide, rfl⟩
theorem unbar (tag : Byte) (panel : Nat) : Statement (.unbar tag panel) := ofKind rfl ⟨by decide, by decide, rfl⟩
theorem setPoll (tag : Byte) (panel exponent : Nat) : Statement (.setPoll tag panel exponent) :=
  ofKind rfl ⟨by decide, by decide, rfl⟩
theorem readPanel (tag : Byte) (panel : Nat) : Statement (.readPanel tag panel) := ofKind rfl ⟨by decide, by decide, rfl⟩
theorem order (tag : Byte) (handle : Handle) (form : OrderForm) : Statement (.order tag handle form) :=
  ofKind rfl ⟨by decide, by decide, rfl⟩
theorem changeOrder (tag : Byte) (handle : Handle) (form : OrderForm) : Statement (.changeOrder tag handle form) :=
  ofKind rfl ⟨by decide, by decide, rfl⟩
theorem voidOrder (tag : Byte) (handle : Handle) : Statement (.voidOrder tag handle) := ofKind rfl ⟨by decide, by decide, rfl⟩
theorem readLoad (tag : Byte) (kitchen day window : Nat) (count : Option Nat) : Statement (.readLoad tag kitchen day window count) :=
  ofKind rfl ⟨by decide, by decide, rfl⟩
theorem closeRoom (tag : Byte) (form : CloseForm) : Statement (.closeRoom tag form) := ofKind rfl ⟨by decide, by decide, rfl⟩
theorem reopenRoom (tag : Byte) (room : Nat) : Statement (.reopenRoom tag room) := ofKind rfl ⟨by decide, by decide, rfl⟩
theorem readSweep (tag : Byte) : Statement (.readSweep tag) := ofKind rfl ⟨by decide, by decide, rfl⟩
theorem setNoticeEnables (tag : Byte) (master : Bool) (enables : Enables) : Statement (.setNoticeEnables tag master enables) :=
  ofKind rfl ⟨by decide, by decide, rfl⟩
theorem readNotices (tag : Byte) : Statement (.readNotices tag) := ofKind rfl ⟨by decide, by decide, rfl⟩
theorem nextChanged (tag : Byte) (category : Nat) : Statement (.nextChanged tag category) :=
  ofKind rfl ⟨by decide, by decide, rfl⟩
theorem readCounts (tag : Byte) : Statement (.readCounts tag) := ofKind rfl ⟨by decide, by decide, rfl⟩
theorem searchTake : Statement .searchTake := ofNone rfl
theorem placementWalkStep : Statement .placementWalkStep := ofNone rfl
theorem placeCompletion : Statement .placeCompletion := ofNone rfl
theorem placeAndBookCompletion : Statement .placeAndBookCompletion := ofNone rfl
theorem findNearbyCompletion : Statement .findNearbyCompletion := ofNone rfl
theorem sweepSearchCompletion : Statement .sweepSearchCompletion := ofNone rfl
theorem withdrawal (panel search : Nat) : Statement (.withdrawal panel search) := ofNone rfl
theorem sweepStep : Statement .sweepStep := ofNone rfl
theorem sweepReport : Statement .sweepReport := ofNone rfl
theorem panelSecond : Statement .panelSecond := ofNone rfl
theorem deferredViewBuild (panel : Nat) : Statement (.deferredViewBuild panel) := ofNone rfl
theorem poll (port : Nat) : Statement (.poll port) := ofNone rfl
theorem reply (port : Nat) (frame : List Byte) : Statement (.reply port frame) := ofNone rfl
theorem followUpReply (port : Nat) (frame : List Byte) : Statement (.followUpReply port frame) := ofNone rfl
theorem replyTimeout (port : Nat) : Statement (.replyTimeout port) := ofNone rfl
theorem frameDiscarded (port : Nat) (frame : List Byte) : Statement (.frameDiscarded port frame) := ofNone rfl
theorem holdTakesEffect (panel : Nat) : Statement (.holdTakesEffect panel) := ofNone rfl
theorem viewBuild (room : Nat) : Statement (.viewBuild room) := ofNone rfl
theorem listBuild (kitchen : Nat) : Statement (.listBuild kitchen) := ofNone rfl
theorem checkIn (src : PanelRef) (badge : Id32) (handle : Option Handle) : Statement (.checkIn src badge handle) := ofNone rfl
theorem occupancyReading (room : Nat) (occupied : Bool) (seconds : Nat) : Statement (.occupancyReading room occupied seconds) :=
  ofNone rfl
theorem panelUnavailable (room : Nat) : Statement (.panelUnavailable room) := ofNone rfl
theorem panelAvailable (room : Nat) : Statement (.panelAvailable room) := ofNone rfl
theorem walkUp (src : PanelRef) (wanted : Nat) (badge : Id32) : Statement (.walkUp src wanted badge) := ofNone rfl
theorem extend (src : PanelRef) (ask : Nat) (handle : Option Handle) : Statement (.extend src ask handle) := ofNone rfl
theorem endNow (src : PanelRef) (handle : Option Handle) : Statement (.endNow src handle) := ofNone rfl
theorem findNearby (src : PanelRef) : Statement (.findNearby src) := ofNone rfl
theorem out (src : PanelRef) (handle : Option Handle) : Statement (.out src handle) := ofNone rfl
theorem handed (src : PanelRef) (handle : Option Handle) : Statement (.handed src handle) := ofNone rfl
theorem discard (src : PanelRef) (handle : Option Handle) : Statement (.discard src handle) := ofNone rfl
theorem received (src : PanelRef) (handle : Option Handle) : Statement (.received src handle) := ofNone rfl
theorem catchUpCommitStep : Statement .catchUpCommitStep := ofNone rfl
theorem catchUpClosureStep : Statement .catchUpClosureStep := ofNone rfl
theorem catchUpBookingStep : Statement .catchUpBookingStep := ofNone rfl
theorem catchUpDays : Statement .catchUpDays := ofNone rfl

end Sys2Proof.Laws.RequestKindReads
end

