-- ==== Sys2Proof/Laws/Store.lean ====
section
/-! SUPPORT. The Record Store and the directory: what an allocation, a return and the taking of a record can do. -/

namespace Sys2Proof.Machine

variable {s t : State}

/-! ### Blocks -/

/-- One block taken: it leaves the top of the stack (R19). -/
theorem takeOne_free (st : Store) (k : BlockKind) : (st.takeOne k).free = st.free.drop 1 := by cases k <;> rfl
theorem takeOne_freeCount (st : Store) (k : BlockKind) : (st.takeOne k).freeCount = st.freeCount - 1 := by cases k <;> rfl

/-- Blocks taken for a list of kinds leave the top of the stack (R19). -/
theorem foldl_takeOne_free (ks : List BlockKind) (st : Store) : (ks.foldl Store.takeOne st).free = st.free.drop ks.length := by
  induction ks generalizing st with
  | nil => rfl
  | cons k ks ih => rw [List.foldl_cons, ih, takeOne_free, List.drop_drop, List.length_cons, Nat.add_comm]

theorem foldl_takeOne_freeCount (ks : List BlockKind) (st : Store) :
    (ks.foldl Store.takeOne st).freeCount = st.freeCount - ks.length := by
  induction ks generalizing st with
  | nil => rfl
  | cons k ks ih => rw [List.foldl_cons, ih, takeOne_freeCount, List.length_cons]; omega

/-- Taking blocks leaves the walk of the store and its days. -/
theorem foldl_takeOne_walk (ks : List BlockKind) (st : Store) :
    (ks.foldl Store.takeOne st).walk = st.walk ∧ (ks.foldl Store.takeOne st).pendingDay = st.pendingDay ∧
      (ks.foldl Store.takeOne st).lastDay = st.lastDay := by
  induction ks generalizing st with
  | nil => exact ⟨rfl, rfl, rfl⟩
  | cons k ks ih => rw [List.foldl_cons]; refine ⟨(ih _).1.trans ?_, (ih _).2.1.trans ?_, (ih _).2.2.trans ?_⟩ <;> cases k <;> rfl

/-- All that a taken allocation does (R20, R22). -/
theorem allocate_some {c : AllocClass} {ks : List BlockKind} {bs : List Nat} (h : s.allocate c ks = some (t, bs)) :
    c.admits s.store.freeCount ks.length = true ∧ bs = s.store.free.take ks.length ∧
      t.store = ks.foldl Store.takeOne s.store ∧
      t = { s with store := t.store, notice := { s.notice with store := t.notice.store } } := by
  unfold State.allocate at h
  split at h
  · rename_i ha
    simp only [Option.some.injEq, Prod.mk.injEq] at h
    obtain ⟨rfl, rfl⟩ := h
    exact ⟨ha, rfl, rfl, rfl⟩
  · exact absurd h (by simp)

theorem allocate_eq_none {c : AllocClass} {ks : List BlockKind} (h : c.admits s.store.freeCount ks.length = false) :
    s.allocate c ks = none := by simp [State.allocate, h]

/-- A block returned goes on top of the stack (R19). -/
@[simp] theorem giveBack_free (k : BlockKind) (b : Nat) : (s.giveBack k b).store.free = b :: s.store.free := by cases k <;> rfl
@[simp] theorem giveBack_freeCount (k : BlockKind) (b : Nat) :
    (s.giveBack k b).store.freeCount = s.store.freeCount + 1 := by cases k <;> rfl

/-- A return changes the store alone. -/
theorem giveBack_keeps (k : BlockKind) (b : Nat) : s.giveBack k b = { s with store := (s.giveBack k b).store } := rfl

theorem giveBackOpt_keeps (k : BlockKind) (b : Option Nat) :
    s.giveBackOpt k b = { s with store := (s.giveBackOpt k b).store } := by cases b <;> rfl

@[simp] theorem giveBackOpt_free (k : BlockKind) (b : Option Nat) :
    (s.giveBackOpt k b).store.free = b.toList ++ s.store.free := by cases b <;> simp [State.giveBackOpt]

/-- The blocks of a booking go back order first and head on top (R21). -/
theorem giveBackBooking_free (b : Booking) : (s.giveBackBooking b).store.free =
    b.head :: ((b.note.map Note.block).toList ++ ((b.order.map Order.block).toList ++ s.store.free)) := by
  simp [State.giveBackBooking]

/-! ### Records -/

/-- All that the taking of a record does (R20, R24): the head of the FIFO is taken, its generation rises, and blocks are
taken for the head, the note and the order. -/
theorem takeRecord_some {c : AllocClass} {n o : Bool} {l : Option Nat} {k : Taken} (h : s.takeRecord c n o l = some (t, k)) :
    ∃ i rest, s.dir.fifo = i :: rest ∧ t.dir.fifo = rest ∧
      k.handle = ⟨i, ((s.dir.entries.getD i ⟨0, none⟩).generation + 1) % 256⟩ ∧
      c.admits s.store.freeCount (bookingKinds n o).length = true ∧
      t.store = (bookingKinds n o).foldl Store.takeOne s.store ∧
      t.dir.entries = s.dir.entries.modify i (fun e =>
        { e with generation := ((s.dir.entries.getD i ⟨0, none⟩).generation + 1) % 256 }) ∧
      t = { s with store := t.store, dir := t.dir, notice := { s.notice with store := t.notice.store } } := by
  unfold State.takeRecord at h
  split at h
  · exact absurd h (by simp)
  · rename_i i rest hf
    split at h
    · exact absurd h (by simp)
    · rename_i u bs ha
      obtain ⟨hc, -, hst, hu⟩ := allocate_some ha
      simp only [Option.some.injEq, Prod.mk.injEq] at h
      obtain ⟨rfl, rfl⟩ := h
      have hud : u.dir = s.dir := by rw [hu]
      refine ⟨i, rest, hf, ?_, rfl, hc, ?_, ?_, ?_⟩
      · cases l <;> rfl
      · cases l <;> exact hst
      · cases l <;> simp [State.modRef, hud]
      · cases l <;> simp only [State.modRef] <;> rw [hu]

/-- A creation that takes nothing: the FIFO is empty or the allocation is refused (R20, R24). -/
theorem takeRecord_eq_none {c : AllocClass} {n o : Bool} {l : Option Nat}
    (h : s.dir.fifo = [] ∨ c.admits s.store.freeCount (bookingKinds n o).length = false) : s.takeRecord c n o l = none := by
  unfold State.takeRecord
  split
  · rfl
  · rename_i hf
    rcases h with h | h
    · exact absurd h (by simp [hf])
    · rw [allocate_eq_none h]

end Sys2Proof.Machine
end

