-- ==== Sys2Proof/Tests/Slice0.lean ====
section
/-! SUPPORT. The block's own tests: ill-formed commands refused, single steps whose expected values stand in the manual's
tables and worked cases, and for each statement with hypotheses a state and operands that meet them. -/

namespace Sys2Proof.Tests

open Sys2Proof.Machine

-- One theorem after another: the kernel's evaluations below would otherwise wait for each other, each on a thread of its own.
set_option Elab.async false

/-! ### A small campus -/

/-- Two rooms in building 0, one kitchen that serves it at reach 6, the panel of room 0 and a terminal of the kitchen, both
ONLINE. The clock runs at day 6, 06:00, and 1,000 blocks are free. -/
def campus : State :=
  { State.reset with
    clock := ⟨9000, 0, .running, true, 0, some 6, 0, []⟩
    rooms :=
      [{ Room.absent with
          inTable := true, seats := 10, caps := 2, turnover := 5, absenceLimit := 10, panel := some 0 },
       { Room.absent with inTable := true, seats := 8, caps := 2, policy := .exempt }] ++
        List.replicate 510 Room.absent
    kitchens :=
      { Kitchen.absent with
        inTable := true, reach := some 6 :: List.replicate 63 none, profile := List.replicate 96 50, lead := 60, spill := 1
        terminals := [1] } :: List.replicate 7 Kitchen.absent
    store := { State.reset.store with free := upFrom 100 1000, freeCount := 1000 }
    dir := { State.reset.dir with fifo := upFrom 3 8189 }
    panelBus := { State.reset.panelBus with
      panels :=
        [{ Panel.powerOn with kind := some .room, boundTo := some 0, state := .online },
         { Panel.powerOn with kind := some .kitchen, boundTo := some 0, state := .online }] ++
          List.replicate 126 Panel.powerOn }
    catering := { State.reset.catering with horizon := some 6 } }

/-- A booking of room 0, day 6 from 07:00 to 08:00, under handle 0.1. -/
def plain : Booking where
  handle := ⟨0, 1⟩
  head := 0
  room := 0
  startMin := 9060
  endMin := 9120
  headCount := 4
  organiser := 0x5150
  origin := 0
  needs := 0
  wants := 0
  checkin := .required
  state := .booked
  attendance := .none_
  source := .host
  series := none
  order := none
  note := none
  mark := false
  timer := none

/-- The state with a booking in its entry and at the end of its room's timeline. -/
def put (b : Booking) (s : State) : State :=
  { s with
    dir := { s.dir with entries := s.dir.entries.set b.handle.idx ⟨b.handle.gen, some b⟩ }
    rooms := s.rooms.modify b.room fun r => { r with timeline := r.timeline ++ [b.handle] } }

/-- The state with a channel record. -/
def setChannel (c : Nat) (x : Channel) (s : State) : State :=
  { s with bank := { s.bank with channels := s.bank.channels.set c x } }

/-- The state with a live series. -/
def putSeries (id : Nat) (x : Series) (s : State) : State :=
  { s with series := { s.series with list := s.series.list.set id (some x) } }

/-- A series of room 1: daily, five occurrences left, the next on day 40 at 10:00. -/
def daily : Series :=
  ⟨5, none, 1, 58200, 60, 1, 5, 3, 0x5150, none, 58200, .active, 1, 2, 0, false, false⟩

/-- An order of 10 covers in a state. -/
def tray (st : OrderState) : Order := ⟨7, 10, [⟨1, 2⟩], st, none, none, none, none⟩

/-- The same order counted at kitchen 0 in window 27 of day 6, ready at 06:49, commit minute 05:49. -/
def counted (st : OrderState) : Order := ⟨7, 10, [⟨1, 2⟩], st, some 0, some ⟨6, 27⟩, some 9049, some 8989⟩

/-- The request of panel 0, and of the kitchen's terminal. -/
def door : PanelRef := ⟨0, .room, 0⟩
def hatch : PanelRef := ⟨1, .kitchen, 0⟩

/-- What the owner of a request of tag 1 finds. -/
def asked (s : State) (kind : Nat) : State := { s with link := { s.link with reserved := s.link.reserved ++ [(1, kind)] } }

/-- A request of tag 1 that finds no other waiting and a place free is taken (log 3). -/
theorem taken_asked {s : State} {c : Instr} {kind : Nat} (hc : requestOf c = some (1, kind)) (hp : s.link.passed = [])
    (hu : s.link.used < 8) : s.taken c = some (asked s kind, ⟨1, kind, false⟩) := by
  simp [State.taken, hc, State.takeRequest, hp, Config.linkPlaces, hu, asked]

/-- A step answers a next state with a property that can be evaluated. -/
def gives (o : Outcome) (p : State → Bool) : Bool :=
  match o with
  | .next t => p t
  | .fault _ | .refused _ => false

/-- The last answer filled. -/
def lastAnswer (s : State) : Option (Status × List Field) := s.link.filled.getLast?.map fun a => (a.status, a.body)

/-! ### Ill-formed commands -/

/-- A room number of 2 bytes that overflows its field, and the same at its largest value. -/
theorem test_wf_room : (Instr.readRoom 0 65536).wf = false ∧ (Instr.readRoom 0 65535).wf = true := by decide
theorem test_wf_kitchen : (Instr.readKitchen 0 256).wf = false := by decide
theorem test_wf_minute : (Instr.setTime 0 4294967296 0).wf = false ∧ (Instr.setTime 0 4294967295 0).wf = true := by decide
theorem test_wf_second : (Instr.setTime 0 0 256).wf = false := by decide
theorem test_wf_trim : (Instr.trimTime 0 128).wf = false ∧ (Instr.trimTime 0 (-129)).wf = false := by decide
theorem test_wf_distance_row : (Instr.setDistances 0 0 (List.replicate 63 0)).wf = false := by decide
theorem test_wf_distance_value : (Instr.setDistances 0 0 (256 :: List.replicate 63 0)).wf = false := by decide
theorem test_wf_profile_row : (Instr.setKitchenProfile 0 0 (List.replicate 95 0)).wf = false := by decide
theorem test_wf_reach_row : (KitchenForm.wf ⟨0, [1, 2], 30, 0⟩) = false := by decide
theorem test_wf_handle_absent : (Instr.cancel 0 ⟨0xFFFF, 0xFF⟩).wf = false := by decide
theorem test_wf_handle_generation : (Instr.readBooking 0 ⟨3, 256⟩).wf = false := by decide
theorem test_wf_order : (OrderForm.wf ⟨65536, [⟨0, 1⟩]⟩) = false ∧ (OrderForm.wf ⟨1, [⟨256, 1⟩]⟩) = false ∧
    (OrderForm.wf ⟨1, [⟨0, 256⟩]⟩) = false := by decide
theorem test_wf_span : (SpanForm.wf ⟨4294967296, none, none⟩) = false ∧ (SpanForm.wf ⟨0, some 4294967296, none⟩) = false ∧
    (SpanForm.wf ⟨0, none, some 65536⟩) = false := by decide
theorem test_wf_room_form : (RoomForm.wf ⟨0, none, some 128, none, none, none, none, none, none, none, none, none⟩) = false ∧
    (RoomForm.wf ⟨0, none, none, some 65536, none, none, none, none, none, none, none, none⟩) = false := by decide
theorem test_wf_weights : (Instr.setWeights 0 ⟨0, 0, 256, 0⟩).wf = false := by decide
theorem test_wf_policy : (Instr.setPolicy 0 ⟨0, 0, 0, 0, 0, 0, 256⟩).wf = false := by decide
theorem test_wf_book : (BookForm.wf ⟨0, ⟨0, none, some 30⟩, 65536, 0, 0, 0, 0, none, none, none⟩) = false ∧
    (BookForm.wf ⟨0, ⟨0, none, some 30⟩, 1, 0, 0, 0, 0, some 256, none, none⟩) = false ∧
    (BookForm.wf ⟨0, ⟨0, none, some 30⟩, 1, 0, 0, 0, 0, none, some (List.replicate 256 65), none⟩) = false := by
  decide +kernel
theorem test_wf_amend : (AmendForm.wf ⟨⟨0, 1⟩, none, none, none, some 65536, none, none, false⟩) = false := by decide
theorem test_wf_series : (SeriesForm.wf ⟨0, 0, 60, 256, 0, 1, 0, none, none, none⟩) = false ∧
    (Instr.endSeries 0 65536).wf = false := by decide
theorem test_wf_place : (PlaceForm.wf ⟨1, 0, 0, 0, 256, ⟨0, none, some 30⟩, none, false⟩) = false := by decide
/-- PLACE_AND_BOOK carries an order and no covers. -/
theorem test_wf_place_and_book :
    (PlaceBookForm.wf ⟨⟨1, 0, 0, 0, 63, ⟨0, none, some 30⟩, some 10, false⟩, 0, none, none, none⟩) = false := by decide
theorem test_wf_closure : (CloseForm.wf ⟨0, 0, 10, 256⟩) = false := by decide
theorem test_wf_bind : (Instr.bindPanel 0 256 0 0).wf = false ∧ (Instr.bindPanel 0 0 0 65536).wf = false := by decide
theorem test_wf_poll_exponent : (Instr.setPoll 0 0 256).wf = false := by decide
theorem test_wf_load : (Instr.readLoad 0 0 0 256 none).wf = false := by decide
theorem test_wf_list : (Instr.listRoom 0 0 none (some 256)).wf = false := by decide
theorem test_wf_category : (Instr.nextChanged 0 256).wf = false := by decide
/-- The commands of the four transfers are not other transfer commands. -/
theorem test_wf_other_code : (Instr.otherTransferCommand (some 0xA5)).wf = false ∧
    (Instr.otherTransferCommand (some 0x03)).wf = true ∧ (Instr.otherTransferCommand none).wf = true := by decide
theorem test_wf_channel : (Instr.windowExpiry 256).wf = false ∧ (Instr.absenceExpiry 255).wf = true := by decide
theorem test_wf_port : (Instr.poll 4).wf = false ∧ (Instr.reply 4 []).wf = false ∧ (Instr.poll 3).wf = true := by decide
theorem test_wf_panel : (Instr.deferredViewBuild 128).wf = false ∧ (Instr.withdrawal 128 0).wf = false := by decide
theorem test_wf_built_room : (Instr.viewBuild 512).wf = false ∧ (Instr.listBuild 8).wf = false := by decide
theorem test_wf_reading : (Instr.occupancyReading 0 true 65536).wf = false := by decide
theorem test_wf_panel_source : (PanelRef.wf ⟨128, .room, 0⟩) = false ∧ (PanelRef.wf ⟨0, .room, 512⟩) = false ∧
    (PanelRef.wf ⟨0, .kitchen, 8⟩) = false ∧ (PanelRef.wf ⟨127, .kitchen, 7⟩) = true := by decide
theorem test_wf_panel_handle : (Instr.extend door 15 (some ⟨65535, 255⟩)).wf = false ∧ (Instr.extend door 256 none).wf = false ∧
    (Instr.walkUp door 256 0).wf = false := by decide

/-! ### Steps of the manual's worked cases

A minute is its day times 1,440 and its minute of the day. -/

/-- A room record of turnover `t` in building `b` with `n` seats. -/
def roomOf (b n t : Nat) : Room := { Room.absent with inTable := true, building := b, seats := n, turnover := t }

/-- The state with a room record in place of room `r`. -/
def putRoom (r : Nat) (x : Room) (s : State) : State := { s with rooms := s.rooms.set r x }

/-- The campus with its clock at a time. -/
def atTime (m sec : Nat) (s : State) : State := { s with clock := { s.clock with minute := m, second := sec } }

/-- 01, "a turnover change refused": day 30, 09:00 to 10:00 and 10:05 to 11:00, turnover 0. -/
def pairOfBookings : State :=
  put { plain with handle := ⟨305, 1⟩, room := 140, startMin := 43805, endMin := 43860 }
    (put { plain with handle := ⟨212, 0⟩, room := 140, startMin := 43740, endMin := 43800 }
      (putRoom 140 (roomOf 0 8 0) campus))

def turnoverTo (n : Nat) : Instr :=
  .setRoom 1 ⟨140, none, none, none, none, some n, none, none, none, none, none, none⟩

theorem test_turnover_refused : gives (exec (turnoverTo 7) pairOfBookings) (fun t =>
    lastAnswer t = some (.conflict, [.handle (some ⟨212, 0⟩)]) && (t.room 140).turnover = 0) = true := by decide +kernel

theorem test_turnover_taken : gives (exec (turnoverTo 5) pairOfBookings) (fun t =>
    (lastAnswer t).map Prod.fst = some .ok && (t.room 140).turnover = 5) = true := by decide +kernel

/-- 01, "a holdover across midnight": the third tick at day 41, 23:59:57. -/
theorem test_holdover_midnight :
    gives (exec .dividerTick { campus with clock := ⟨60479, 57, .running, true, 0, some 41, 2, []⟩ }) (fun t =>
      t.clock = ⟨60480, 0, .holdover, true, 0, some 42, 0, []⟩ && t.notice.clock && t.owed.plannings = [42] &&
        t.owed.seconds = 3) = true := by decide +kernel

/-- 01, the same case: an edge 0.7 s after the last tick is counted. -/
theorem test_edge_returns :
    gives (exec (.secEdge 700) { campus with clock := ⟨60480, 5, .holdover, true, 0, some 42, 0, []⟩ }) (fun t =>
      t.clock = ⟨60480, 6, .running, true, 0, some 42, 0, []⟩) = true := by decide +kernel

/-- 01, the same case: TRIM_TIME −2 at day 42, 03:10:20; a RUNNING channel goes back by 120 seconds. -/
theorem test_trim_back :
    gives (exec (.trimTime 1 (-2)) (setChannel 0 ⟨.running, .window, none, 300⟩
      { campus with clock := ⟨60670, 20, .holdover, true, 0, some 42, 0, []⟩ })) (fun t =>
      t.clock = ⟨60668, 20, .holdover, true, 0, some 42, 0, []⟩ && (t.channel 0).remaining = 420 &&
        lastAnswer t = some (.ok, [.num 4 (some 60668)])) = true := by decide +kernel

/-- 02, "handles and blocks after power-on": the state before the first BOOK, and a BOOK with a note. -/
def loaded : State :=
  { State.reset with clock := campus.clock, rooms := campus.rooms, catering := campus.catering, weights := ⟨1, 2, 8, 1⟩ }

def booking (note : Option (List Byte)) (order : Option OrderForm) : Instr :=
  .book 1 ⟨0, ⟨9060, none, some 60⟩, 4, 0x5150, 0, 0, 0, none, note, order⟩

theorem test_first_handle : gives (exec (booking (some [65]) none) loaded) (fun t =>
    (t.bookingAt 0).map (fun b => (b.handle, b.head, b.note)) = some (⟨0, 1⟩, 0, some ⟨1, [65]⟩) &&
      t.store.freeCount = 16382 && t.store.free.take 3 = [2, 3, 4] && t.dir.fifo.take 3 = [1, 2, 3]) = true := by
  decide +kernel

/-- 02, the same case: the plan is refused and the creation is returned. No kitchen is configured here. -/
theorem test_creation_returned : gives (exec (booking none (some ⟨10, [⟨1, 2⟩]⟩)) loaded) (fun t =>
    lastAnswer t = some (.cateringFull, []) && t.store.freeCount = 16384 && t.store.free.take 3 = [0, 1, 2] &&
      t.dir.fifo.take 3 = [0, 1, 2] && t.dir.entries.head? = some ⟨0, none⟩) = true := by decide +kernel

/-- 02, the same case: a CANCEL in BOOKED returns note block 1 and then head block 0, and the index goes to the tail. -/
theorem test_cancel_retires :
    gives (exec (.cancel 1 ⟨0, 1⟩) (put { plain with note := some ⟨1, [65]⟩ } { loaded with
      store := { State.reset.store with free := upFrom 2 100, freeCount := 16382, heldHead := 1, heldNote := 1 }
      dir := { State.reset.dir with fifo := upFrom 1 20 } })) (fun t =>
      t.store.free.take 4 = [0, 1, 2, 3] && t.store.freeCount = 16384 && t.dir.fifo = upFrom 1 20 ++ [0] &&
        t.dir.entries.head? = some ⟨1, none⟩) = true := by decide +kernel

/-- 02, "the reserve": at a free count of 65 a BOOK with a note has no space and one without leaves 64. -/
def reserved : State := { campus with store := { campus.store with free := upFrom 100 65, freeCount := 65 } }

theorem test_reserve_refuses : gives (exec (booking (some [65]) none) reserved) (fun t =>
    lastAnswer t = some (.noSpace, []) && t.store.freeCount = 65) = true := by decide +kernel

theorem test_reserve_taken : gives (exec (booking none none) reserved) (fun t =>
    (lastAnswer t).map Prod.fst = some .ok && t.store.freeCount = 64 && t.notice.store) = true := by decide +kernel

theorem test_walk_up_needs_two : gives (exec (.walkUp door 30 0x77) reserved) (fun t =>
    (t.panel 0).slot = .result ⟨2, .noSpace, []⟩ && t.store.freeCount = 65) = true := by decide +kernel

/-- 03, "a booking brought onto the grid": room 22, turnover 10, day 8, 08:12. -/
def gridCase : State :=
  put { plain with handle := ⟨77, 0⟩, room := 22, startMin := 12210, endMin := 12240 }
    (put { plain with handle := ⟨501, 3⟩, room := 22, startMin := 12060, endMin := 12120 }
      (putRoom 22 (roomOf 0 8 10) (atTime 12012 0 { campus with dir := { campus.dir with
        fifo := 903 :: upFrom 904 50
        entries := campus.dir.entries.set 903 ⟨6, none⟩ } })))

theorem test_grid_conflict :
    gives (exec (.book 1 ⟨22, ⟨12127, none, some 50⟩, 4, 1, 0, 0, 0, none, none, none⟩) gridCase) (fun t =>
      lastAnswer t = some (.conflict, [.handle (some ⟨501, 3⟩)])) = true := by decide +kernel

theorem test_grid_booked :
    gives (exec (.book 1 ⟨22, ⟨12132, some 12198, none⟩, 4, 1, 0, 0, 0, none, none, none⟩) gridCase) (fun t =>
      (t.room 22).timeline = [⟨501, 3⟩, ⟨903, 7⟩, ⟨77, 0⟩] &&
        (t.bookingAt 903).map (fun b => (b.startMin, b.endMin, b.state, b.checkin, b.attendance)) =
          some (12130, 12200, .booked, .required, .none_)) = true := by decide +kernel

/-- 03, "a displaced booking brought back": day 9, 10:40; room 22 is closed and room 31 is free from 14:00. -/
def displacedCase : State :=
  let b : Booking := { plain with
    handle := ⟨620, 4⟩, room := 22, startMin := 13800, endMin := 13860, checkin := .exempt, state := .displaced, mark := true }
  { (put { plain with handle := ⟨14, 2⟩, room := 31, startMin := 13680, endMin := 13795 }
      (putRoom 31 { roomOf 0 8 5 with policy := .exempt }
        (putRoom 22 { roomOf 0 8 0 with closure := some ⟨13680, 14040, .displace, true⟩ } (atTime 13600 0 campus)))) with
    dir := { campus.dir with
      entries := (campus.dir.entries.set 14 ⟨2, some { plain with
        handle := ⟨14, 2⟩, room := 31, startMin := 13680, endMin := 13795 }⟩).set 620 ⟨4, some b⟩ } }

theorem test_displaced_closed :
    gives (exec (.amend 1 ⟨⟨620, 4⟩, none, none, none, none, none, none, false⟩) displacedCase) (fun t =>
      lastAnswer t = some (.closed, []) && (t.bookingAt 620).map Booking.state = some .displaced) = true := by decide +kernel

theorem test_displaced_back :
    gives (exec (.amend 1 ⟨⟨620, 4⟩, none, none, none, some 31, none, none, false⟩) displacedCase) (fun t =>
      (lastAnswer t).map Prod.fst = some .ok && (t.room 31).timeline = [⟨14, 2⟩, ⟨620, 4⟩] &&
        (t.bookingAt 620).map (fun b => (b.room, b.state, b.mark)) = some (31, .booked, true)) = true := by decide +kernel

/-- 04, "suspension and resumption": the second release reaches the threshold of 2. -/
theorem test_series_suspends :
    gives (exec (.windowExpiry 3) (setChannel 3 ⟨.running, .window, some ⟨0, 1⟩, 0⟩
      (put { plain with state := .awaiting, timer := some 3, series := some 9 } (putSeries 9 { daily with period := 7 } campus))))
      (fun t => (t.seriesAt 9).map (fun x => (x.noShows, x.state, x.mark, x.passOwed)) = some (2, .suspended, true, true) &&
        t.series.passQueue = [9]) = true := by decide +kernel

/-- 05, "a search with lunch": the fit, misses, reach and score of rooms 12, 40 and 77 (FOOD_ALLOWED is bit 1, VIDEO
2, WHITEBOARD 5, DAYLIGHT 7). -/
def lunch : Search :=
  ⟨0, ⟨1, 2, 8, 1⟩, [0, 0, 0, 0, 0, 4], 0, 0x06, 0xA0, [], 0, [], 0, [0, 0, 0, 0, 0, 0], false⟩

def lunchEntry : QueueEntry :=
  ⟨0, .place, .host ⟨1, 0x50, false⟩,
    ⟨10, 4, 0xA0, 3, 63, false, 29520, 29580, 29520, false, false, .trial 10, false, none⟩, true⟩

def lunchRooms : State :=
  putRoom 77 { roomOf 5 10 0 with caps := 0xA6 } (putRoom 40 { roomOf 3 12 0 with caps := 0x26 }
    (putRoom 12 { roomOf 3 30 0 with caps := 0xA6 } campus))

theorem test_lunch_scores :
    (let c := lunchRooms.scored lunchEntry lunch 12 (some ⟨2, 6, none, none⟩); (c.fit, c.dist, c.miss, c.score)) = (42, 0, 0, 48) ∧
    (let c := lunchRooms.scored lunchEntry lunch 40 (some ⟨2, 6, none, none⟩); (c.fit, c.dist, c.miss, c.score)) = (10, 0, 1, 24) ∧
    (let c := lunchRooms.scored lunchEntry lunch 77 (some ⟨2, 9, none, none⟩); (c.fit, c.dist, c.miss, c.score)) = (0, 4, 0, 17) := by
  decide +kernel

/-- 05, "a search that relaxes": RECORDING, the highest droppable name, is dropped into the wants after an empty pass. -/
theorem test_relaxes :
    gives (exec .placementWalkStep { campus with placement := { campus.placement with
      queue := [{ lunchEntry with inputs := { lunchEntry.inputs with catering := .none_, relax := true } }]
      search := some { lunch with needs := 0x4005, wants := 0x40, cursor := 511 } } }) (fun t =>
      (t.placement.search.map fun x => (x.level, x.needs, x.wants, x.dropped, x.cursor)) =
        some (1, 0x0005, 0x4040, [14], 0)) = true := by decide +kernel

/-- 06 section 6.3: start 09:00, grace 1, end 09:30, made at 09:04:10, has deadline 09:05 and remaining 50. -/
theorem test_late_window :
    ((put { plain with startMin := 540, endMin := 570 } (putRoom 0 { roomOf 0 8 0 with grace := 1 } (atTime 544 10 campus))).openWindow
      0).channel 0 = ⟨.running, .window, some ⟨0, 1⟩, 50⟩ := by decide +kernel

/-- 06 section 6.8: a CHECK_IN with the wrong badge, and with the organiser's own. -/
def checkInCase : State :=
  setChannel 3 ⟨.running, .window, some ⟨0, 1⟩, 240⟩
    (put { plain with state := .awaiting, timer := some 3, organiser := 0x3A07 }
      { campus with rooms := campus.rooms.set 0 { campus.room 0 with who := .organiser, absenceLimit := 15 } })

theorem test_wrong_badge : gives (exec (.checkIn door 0x41C2 (some ⟨0, 1⟩)) checkInCase) (fun t =>
    (t.panel 0).slot = .result ⟨1, .notOrganiser, []⟩ && t.channel 3 = ⟨.running, .window, some ⟨0, 1⟩, 240⟩) = true := by
  decide +kernel

theorem test_own_badge : gives (exec (.checkIn door 0x3A07 (some ⟨0, 1⟩)) checkInCase) (fun t =>
    (t.panel 0).slot = .result ⟨1, .ok, []⟩ && t.channel 3 = ⟨.paused, .watch, some ⟨0, 1⟩, 900⟩ &&
      (t.bookingAt 0).map (fun b => (b.state, b.attendance)) = some (.inUse, .checked)) = true := by decide +kernel

/-- 06 section 6.8: a VACANT reading 3 seconds after the change leaves 897 of 15 minutes. -/
theorem test_vacant_reading :
    gives (exec (.occupancyReading 0 false 3) (setChannel 3 ⟨.paused, .watch, some ⟨0, 1⟩, 900⟩
      (put { plain with state := .inUse, timer := some 3 }
        { campus with rooms := campus.rooms.set 0 { campus.room 0 with absenceLimit := 15 } }))) (fun t =>
      t.channel 3 = ⟨.running, .watch, some ⟨0, 1⟩, 897⟩) = true := by decide +kernel

/-- 06 section 6.8, "a lost panel": the kept 480 seconds stand, being less than the 585 to the end. -/
theorem test_window_resumed :
    gives (exec (.panelAvailable 0) (setChannel 7 ⟨.suspended, .window, some ⟨0, 1⟩, 480⟩
      (put { plain with state := .awaiting, timer := some 7, startMin := 660, endMin := 690 } (atTime 680 15 campus)))) (fun t =>
      t.channel 7 = ⟨.running, .window, some ⟨0, 1⟩, 480⟩) = true := by decide +kernel

/-- 07, "a panel lost and back": the third miss in a row. -/
theorem test_third_miss :
    gives (exec (.replyTimeout 0) { campus with panelBus := { campus.panelBus with
      panels := campus.panelBus.panels.set 0 { campus.panel 0 with state := .late, misses := 2, missed := 14, ackedSeq := some 93 }
      ports := campus.panelBus.ports.set 0 ⟨.polling, 0, false, false, []⟩ } }) (fun t =>
      ((t.panel 0).state, (t.panel 0).misses, (t.panel 0).missed, (t.panel 0).ackedSeq, (t.panel 0).mark) =
        (.lost, 3, 15, none, true) && t.handed = [.panelUnavailable 0] && t.notice.panel.isSet) = true := by decide +kernel

/-- R189: the check of the nine characters "123456789" under these parameters is 29B1h (PRESUMED: the catalogued check value of
this cyclic code; the manual gives no example). -/
theorem test_frame_check : frameCheck [0x31, 0x32, 0x33, 0x34, 0x35, 0x36, 0x37, 0x38, 0x39] = 0x29B1 := by decide +kernel

/-- 09, "planning across two kitchens": ORDER of 10 covers for day 5, 12:00 in building 5. -/
def twoKitchens : State :=
  let row (v w : Nat) : List Nat := List.replicate 46 0 ++ [v, w] ++ List.replicate 48 0
  let days (v w : Nat) : List (List Nat) := [List.replicate 96 0, List.replicate 96 0, row v w]
  let kitchenOf (reach lead spill cap : Nat) : Kitchen :=
    { Kitchen.absent with
      inTable := true, lead := lead, spill := spill, profile := List.replicate 96 cap
      reach := List.replicate 5 none ++ [some reach] ++ List.replicate 58 none }
  put { plain with handle := ⟨3310, 2⟩, room := 77, startMin := 7920, endMin := 7980 }
    (putRoom 77 { roomOf 5 10 0 with caps := 2 }
      { atTime 4860 0 campus with
        kitchens := [Kitchen.absent, Kitchen.absent, kitchenOf 9 60 1 40, Kitchen.absent, Kitchen.absent, kitchenOf 15 45 0 60]
        catering := { campus.catering with
          horizon := some 3, loads := [[], [], days 38 35, [], [], days 20 12] } })

theorem test_second_kitchen : gives (exec (.order 1 ⟨3310, 2⟩ ⟨10, [⟨1, 2⟩]⟩) twoKitchens) (fun t =>
    (t.bookingAt 3310).bind (fun b => b.order.map fun o => (o.state, o.kitchen, o.window, o.ready, o.commit)) =
      some (.planned, some 5, some ⟨5, 46⟩, some 7900, some 7855) &&
    t.load 5 ⟨5, 46⟩ = 30 && t.load 2 ⟨5, 47⟩ = 35 && t.catering.commitQueue = [⟨3310, 2⟩] &&
    (t.kitchen 5).dispatch = [⟨3310, 2⟩]) = true := by decide +kernel

/-- 09, "one order's day": the commit minute, and the strand of a release, which marks the booking and sets CATERING. -/
theorem test_commit_minute :
    gives (exec .commit { put { plain with order := some (counted .planned) } campus with
      owed := { Owed.nothing with commits := [8989] }
      catering := { campus.catering with commitQueue := [⟨0, 1⟩] } }) (fun t =>
      (t.bookingAt 0).bind (fun b => b.order.map Order.state) = some .committed && t.catering.commitQueue = []) = true := by
  decide +kernel

theorem test_release_strands :
    gives (exec (.windowExpiry 3) (setChannel 3 ⟨.running, .window, some ⟨0, 1⟩, 0⟩
      (put { plain with state := .awaiting, timer := some 3, order := some (counted .dispatched) } campus))) (fun t =>
      (t.bookingAt 0).map (fun b => (b.state, b.attendance, b.mark, b.order.map Order.state)) =
        some (.released, .noShow, true, some .stranded) && t.notice.catering.isSet && (t.room 0).noShow = 1) = true := by
  decide +kernel

/-- 10 section 10.10: CLOSE_ROOM from 09:15 to 17:00 on day 40 is clamped to the end of 701.0 at 09:30. -/
def closeCase : State :=
  put { plain with handle := ⟨703, 2⟩, room := 22, startMin := 58380, endMin := 58440 }
    (put { plain with handle := ⟨701, 0⟩, room := 22, startMin := 58110, endMin := 58170, state := .inUse }
      (putRoom 22 (roomOf 3 12 10) (atTime 58140 10 campus)))

theorem test_close_clamped : gives (exec (.closeRoom 1 ⟨22, 58155, 58620, 0⟩) closeCase) (fun t =>
    (t.room 22).closure = some ⟨58170, 58620, .relocate, false⟩ && (t.room 22).service = .closing &&
      t.sweep.clamp = some ⟨701, 0⟩ && lastAnswer t = none) = true := by decide +kernel

/-- 10 section 10.10: the last step of the sweep, before from, with 1 relocated and 1 displaced. -/
theorem test_sweep_ends :
    gives (exec .sweepStep { putRoom 22 { roomOf 3 12 10 with service := .closing, closure := some ⟨58170, 58620, .relocate, false⟩ }
      (atTime 58141 20 campus) with
        sweep := ⟨true, 22, .host ⟨1, 0x90, false⟩, none, 1, 1, 0, some ⟨701, 0⟩, none⟩
        link := { campus.link with reserved := [(1, 0x90)] } }) (fun t =>
      (t.room 22).service = .inService && (t.room 22).closure = some ⟨58170, 58620, .relocate, true⟩ && t.sweep = Sweep.idle &&
        lastAnswer t = some (.ok, [.num 2 (some 22), .num 4 (some 58170), .num 1 (some 1), .handle (some ⟨701, 0⟩),
          .num 4 (some 58620), .num 1 (some 0), .num 2 (some 1), .num 2 (some 1), .num 2 (some 0), .num 1 (some 0)])) = true := by
  decide +kernel

/-- 13 section 13.1 and R171: the bytes of a READ_TIME answer, fetched whole; the link status shows one answer and eight free
places. -/
theorem test_fetch_time :
    gives (exec (.fetch 21) (match exec (.readTime 7) campus with | .next t => t | _ => campus)) (fun t =>
      t.link.miso = [0x81, 0x00, 0x07, 0x04, 0x00, 0x10, 0x00, 0x28, 0x23, 0x00, 0x00, 0x00, 0x01, 0x01, 0x01,
        0x06, 0x00, 0x00, 0x00, 0x00, 0x00, 0x00, 0x00] && t.link.filled = []) = true := by decide +kernel

/-- R171: an answer of 21 bytes of which 20 were shifted out stays at the head. -/
theorem test_fetch_short :
    gives (exec (.fetch 20) (match exec (.readTime 7) campus with | .next t => t | _ => campus)) (fun t =>
      t.link.filled.length = 1) = true := by decide +kernel

/-- The reset tables of chapters 1 and 2: the clock, weights and store a power-on reset leaves. -/
theorem test_power_on : gives (exec .powerOnReset campus) (fun t =>
    t.clock.state = .stopped && t.weights = ⟨1, 2, 8, 1⟩ && t.store.freeCount = 16384 && !t.clock.timeSet) = true := by
  decide +kernel

/-! ### A state and operands that meet each statement's hypotheses

`witness_<Name>` meets the hypotheses of the obligation `<Name>`, clause by clause, at boundary values where a clause has
them. -/

/-- Rooms 0 and 1, each with its panel ONLINE and one booking on its timeline. -/
def hall (p : Nat) (h : Handle) : Room :=
  { Room.absent with inTable := true, seats := 10, caps := 2, absenceLimit := 10, panel := some p, timeline := [h] }

/-- A part that holds two bookings, one in room 0 under handle 0.1 and one in room 1 under handle 1.1, with the channels 0 and 1;
every record agrees with the others. -/
def pair (a b : Booking) (x y : Channel) : State :=
  { State.reset with
    clock := campus.clock
    rooms := hall 0 ⟨0, 1⟩ :: hall 1 ⟨1, 1⟩ :: List.replicate 510 Room.absent
    store := ⟨upFrom 2 16382, 16382, 2, 0, 0, 0, none, none, none⟩
    dir := ⟨⟨1, some a⟩ :: ⟨1, some b⟩ :: List.replicate 8190 ⟨0, none⟩, upFrom 2 8190, List.replicate 1024 0⟩
    bank := ⟨x :: y :: List.replicate 254 Channel.idle, 0⟩
    panelBus := { State.reset.panelBus with
      panels :=
        [{ Panel.powerOn with kind := some .room, boundTo := some 0, state := .online },
         { Panel.powerOn with kind := some .room, boundTo := some 1, state := .online }] ++ List.replicate 126 Panel.powerOn }
    catering := { State.reset.catering with horizon := some 6 } }

/-- A booking of `pair` that stands on its timeline, with its channel, or with none. -/
structure Sits (i : Nat) (b : Booking) (x : Channel) : Prop where
  handle : b.handle = ⟨i, 1⟩
  head : b.head = i
  room : b.room = i
  span : b.startMin < b.endMin
  note : b.note = none
  order : b.order = none
  active : b.state.active = true
  channel : b.timer = some i ∧ (b.state = .awaiting ∨ b.state = .inUse) ∧ x.state ≠ .free ∧ x.booking = some ⟨i, 1⟩ ∨
    b.timer = none ∧ x.state = .free

/-- The bookings of `pair` in other rooms and entries: there are none. -/
theorem getD_replicate {α : Type} (n i : Nat) (d : α) : (List.replicate n d).getD i d = d := by
  rw [List.getD_eq_getElem?_getD, List.getElem?_replicate]; split <;> rfl

theorem nodup_upFrom : ∀ (n a : Nat), (upFrom a n).Nodup
  | 0, _ => List.nodup_nil
  | n + 1, a => List.nodup_cons.2 ⟨fun h => by have := (mem_upFrom.1 h).1; omega, nodup_upFrom n (a + 1)⟩

theorem shaped_of {s : State} (h1 : s.distance.length = 64) (h2 : s.rooms.length = 512) (h3 : s.kitchens.length = 8)
    (h4 : s.dir.entries.length = 8192) (h5 : s.dir.refs.length = 1024) (h6 : s.series.list.length = 1024)
    (h7 : s.bank.channels.length = 256) (h8 : s.panelBus.panels.length = 128) (h9 : s.panelBus.ports.length = 4)
    (h10 : s.loadsShaped = true) : s.shaped = true := by
  simp [State.shaped, Config.buildings, Config.rooms, Config.kitchens, Config.handles, Config.seriesIds, Config.channels,
    Config.panels, Config.ports, h1, h2, h3, h4, h5, h6, h7, h8, h9, h10]

section
variable {a b : Booking} {x y : Channel}

theorem pair_bookingAt (i : Nat) : (pair a b x y).bookingAt i = if i = 0 then some a else if i = 1 then some b else none := by
  match i with
  | 0 => rfl
  | 1 => rfl
  | n + 2 =>
    show ((List.replicate 8190 (⟨0, none⟩ : DirEntry)).getD n ⟨0, none⟩).booking = _
    rw [getD_replicate]; simp

theorem pair_room (r : Nat) : (pair a b x y).room r = if r = 0 then hall 0 ⟨0, 1⟩ else if r = 1 then hall 1 ⟨1, 1⟩ else Room.absent := by
  match r with
  | 0 => rfl
  | 1 => rfl
  | n + 2 =>
    show (List.replicate 510 Room.absent).getD n Room.absent = _
    rw [getD_replicate]; simp

theorem pair_channel (c : Nat) : (pair a b x y).channel c = if c = 0 then x else if c = 1 then y else Channel.idle := by
  match c with
  | 0 => rfl
  | 1 => rfl
  | n + 2 =>
    show (List.replicate 254 Channel.idle).getD n Channel.idle = _
    rw [getD_replicate]; simp

theorem pair_seriesAt (id : Nat) : (pair a b x y).seriesAt id = none := by
  show ((List.replicate 1024 (none : Option Series))[id]?).join = none
  rw [List.getElem?_replicate]; split <;> rfl

theorem pair_bookings : (pair a b x y).bookings = [a, b] := by
  show a :: b :: (List.replicate 8190 (⟨0, none⟩ : DirEntry)).filterMap DirEntry.booking = _
  rw [List.filterMap_replicate_of_none rfl]

theorem pair_liveSeries : (pair a b x y).liveSeries = [] := by
  show (List.replicate 1024 (none : Option Series)).filterMap id = []
  rw [List.filterMap_replicate_of_none rfl]

theorem pair_loads : (pair a b x y).catering.loads = List.replicate 8 (List.replicate 14 (List.replicate 96 0)) := rfl

theorem pair_load (k : Nat) (w : AbsWindow) : (pair a b x y).load k w = 0 := by
  have zeros : ∀ (n i : Nat) (l d : List Nat), (∀ v ∈ l, v = 0) → (∀ v ∈ d, v = 0) → ∀ v ∈ (List.replicate n l).getD i d, v = 0 := by
    intro n i l d hl hd
    rw [List.getD_eq_getElem?_getD, List.getElem?_replicate]
    split
    · exact hl
    · exact hd
  have rows : ∀ i : Nat, ∀ l ∈ (List.replicate 8 (List.replicate 14 (List.replicate 96 0))).getD i [], ∀ v ∈ l, v = 0 := by
    intro i
    rw [List.getD_eq_getElem?_getD, List.getElem?_replicate]
    split
    · intro l hl v hv
      rw [Option.getD_some] at hl
      rw [List.eq_of_mem_replicate hl] at hv
      exact List.eq_of_mem_replicate hv
    · exact fun l hl => absurd hl (List.not_mem_nil)
  have pick : ∀ (l : List Nat) (i : Nat), (∀ v ∈ l, v = 0) → l.getD i 0 = 0 := by
    intro l i hl
    rw [List.getD_eq_getElem?_getD]
    cases h : l[i]? with
    | none => rfl
    | some v => exact hl v (List.mem_of_getElem? h)
  unfold State.load
  rw [pair_loads]
  split
  · rename_i f _
    split
    · refine pick _ _ ?_
      rw [List.getD_eq_getElem?_getD]
      cases h : ((List.replicate 8 (List.replicate 14 (List.replicate 96 0))).getD k [])[w.day - f]? with
      | none => exact fun v hv => absurd hv (List.not_mem_nil)
      | some l => exact rows k l (List.mem_of_getElem? h)
    · rfl
  · rfl

theorem pair_lookup (h : Handle) (c : Booking) :
    (pair a b x y).lookup h = .found c ↔ (h = ⟨0, 1⟩ ∧ c = a) ∨ (h = ⟨1, 1⟩ ∧ c = b) := by
  obtain ⟨i, g⟩ := h
  match i with
  | 0 =>
    show (if 1 = g then Lookup.found a else .stale) = _ ↔ _
    by_cases hg : g = 1
    · subst hg; simp [eq_comm]
    · simp [hg, Ne.symm hg]
  | 1 =>
    show (if 1 = g then Lookup.found b else .stale) = _ ↔ _
    by_cases hg : g = 1
    · subst hg; simp [eq_comm]
    · simp [hg, Ne.symm hg]
  | n + 2 =>
    have h : (pair a b x y).dir.entries.getD (n + 2) ⟨0, none⟩ = ⟨0, none⟩ := getD_replicate 8190 n _
    unfold State.lookup
    split
    · simp
    · rw [h]; simp

theorem mem_pair (r : Nat) (h : Handle) : h ∈ ((pair a b x y).room r).timeline ↔ h = ⟨r, 1⟩ ∧ r < 2 := by
  rw [pair_room]
  split
  · subst r; simp [hall]
  · split
    · subst r; simp [hall]
    · simp [Room.absent]; omega

theorem pair_sound (ha : Sits 0 a x) (hb : Sits 1 b y) : (pair a b x y).Sound := by
  have hd : (pair a b x y).dir.entries.length = 8192 := by
    show (List.replicate 8190 (⟨0, none⟩ : DirEntry)).length + 1 + 1 = 8192
    rw [List.length_replicate]
  have hr : (pair a b x y).rooms.length = 512 := by
    show (List.replicate 510 Room.absent).length + 1 + 1 = 512
    rw [List.length_replicate]
  have hc : (pair a b x y).bank.channels.length = 256 := by
    show (List.replicate 254 Channel.idle).length + 1 + 1 = 256
    rw [List.length_replicate]
  have hl : (pair a b x y).loadsShaped = true := by
    have h : State.reset.loadsShaped = true := by decide +kernel
    exact h
  have two : ∀ {P : Nat → Booking → Prop}, P 0 a → P 1 b → ∀ i c, (pair a b x y).bookingAt i = some c → P i c := by
    intro P h0 h1 i c h
    rw [pair_bookingAt] at h
    split at h
    · subst i; cases h; exact h0
    · split at h
      · subst i; cases h; exact h1
      · cases h
  constructor
  · exact shaped_of rfl hr rfl hd List.length_replicate List.length_replicate hc rfl rfl hl
  · exact two ha.handle hb.handle
  · refine ⟨nodup_upFrom 8190 2, fun i => ?_⟩
    show i ∈ upFrom 2 8190 ↔ _
    rw [mem_upFrom, pair_bookingAt]
    simp only [Config.handles]
    by_cases h0 : i = 0
    · simp [h0]
    · by_cases h1 : i = 1
      · simp [h1]
      · simp [h0, h1]; omega
  · have hh : (pair a b x y).heldBlocks = [0, 1] := by
      simp [State.heldBlocks, pair_bookings, pair_liveSeries, Booking.blocks, ha.head, ha.note, ha.order, hb.head, hb.note, hb.order]
    unfold State.blocksRight
    rw [hh, pair_bookings, pair_liveSeries]
    have hf : (pair a b x y).store.free = upFrom 2 16382 := rfl
    rw [hf]
    refine ⟨?_, ?_, length_upFrom 2 16382 |>.symm, rfl, rfl, ?_, ?_, rfl⟩
    · rw [List.nodup_append]
      refine ⟨nodup_upFrom _ _, by decide, fun n hn m hm e => ?_⟩
      have := (mem_upFrom.1 hn).1
      simp at hm; omega
    · intro n hn
      rw [List.mem_append, mem_upFrom] at hn
      simp only [Config.blocks]
      rcases hn with hn | hn
      · omega
      · simp at hn; omega
    · simp [ha.note, hb.note]; rfl
    · simp [ha.order, hb.order]; rfl
  · intro r
    refine ⟨?_, ?_, fun h => ?_⟩
    · unfold State.timelineOf
      rw [pair_room]
      split
      · simp [hall, pair_bookingAt, spaced]
      · split
        · simp [hall, pair_bookingAt, spaced]
        · simp [Room.absent, spaced]
    · rw [pair_room]
      split
      · simp [hall]
      · split
        · simp [hall]
        · simp [Room.absent]
    · rw [mem_pair]
      constructor
      · rintro ⟨rfl, h2⟩
        have : r = 0 ∨ r = 1 := by omega
        rcases this with rfl | rfl
        · exact ⟨a, rfl, ha.handle, ha.room, ha.active⟩
        · exact ⟨b, rfl, hb.handle, hb.room, hb.active⟩
      · rintro ⟨c, h1, h2, h3, h4⟩
        refine two (P := fun i c => c.handle = h → c.room = r → h = ⟨r, 1⟩ ∧ r < 2) ?_ ?_ _ _ h1 h2 h3
        · rintro e rfl; rw [ha.handle] at e; exact ⟨by rw [← e, ha.room], by rw [ha.room]; omega⟩
        · rintro e rfl; rw [hb.handle] at e; exact ⟨by rw [← e, hb.room], by rw [hb.room]; omega⟩
  · exact two (fun _ => ha.span) fun _ => hb.span
  · refine ⟨fun r h => ?_, fun id z h => ?_⟩
    · rw [pair_room] at h ⊢
      split at h
      · simp [*, hall]
      · split at h
        · simp [*, hall]
        · exact absurd rfl h
    · rw [pair_seriesAt] at h; cases h
  · refine ⟨List.nodup_nil, ?_, Nat.zero_le 1, ?_, ?_, fun _ => rfl⟩ <;> exact fun e h => absurd h (List.not_mem_nil)
  · refine ⟨fun c h => ?_, fun i d c h1 => two (P := fun _ d => d.timer = some c →
      ((pair a b x y).channel c).state ≠ .free ∧ ((pair a b x y).channel c).booking = some d.handle) ?_ ?_ i d h1⟩
    · rw [pair_channel] at h ⊢
      split at h
      · subst c
        rcases ha.channel with ⟨h1, h2, h3, h4⟩ | ⟨_, h2⟩
        · exact ⟨⟨0, 1⟩, a, by simpa using h4, (pair_lookup _ _).2 (.inl ⟨rfl, rfl⟩), h2, h1⟩
        · exact absurd h2 h
      · split at h
        · subst c
          rcases hb.channel with ⟨h1, h2, h3, h4⟩ | ⟨_, h2⟩
          · exact ⟨⟨1, 1⟩, b, by simpa using h4, (pair_lookup _ _).2 (.inr ⟨rfl, rfl⟩), h2, h1⟩
          · exact absurd h2 h
        · exact absurd rfl h
    · intro h
      rcases ha.channel with ⟨h1, _, h3, h4⟩ | ⟨h1, _⟩
      · rw [h1] at h; cases h; exact ⟨h3, by rw [ha.handle]; exact h4⟩
      · rw [h1] at h; cases h
    · intro h
      rcases hb.channel with ⟨h1, _, h3, h4⟩ | ⟨h1, _⟩
      · rw [h1] at h; cases h; exact ⟨h3, by rw [hb.handle]; exact h4⟩
      · rw [h1] at h; cases h
  · refine ⟨fun k w _ _ _ => ?_, fun h => (by cases h), fun i d o w h1 => two (P := fun _ d => d.order = some o → o.state.counted = true →
      o.window = some w → ∃ f, (pair a b x y).catering.horizon = some f ∧ w.day < f + Config.dayRows) ?_ ?_ i d h1,
      fun h hh => absurd hh (List.not_mem_nil)⟩
    · rw [pair_load, State.coversIn, pair_bookings]
      simp [Booking.coversIn, ha.order, hb.order]
    · intro h; rw [ha.order] at h; cases h
    · intro h; rw [hb.order] at h; cases h
end

/-- The clock, the link and what is owed are no part of the records. -/
theorem sound_asked {s : State} (kind : Nat) (h : s.Sound) : (asked s kind).Sound :=
  ⟨h.shaped, h.handles, h.fifo, h.blocks, h.timelines, h.spans, h.rooms, h.searches, h.channels, h.loads⟩

theorem sound_owed {s : State} (o : Owed) (h : s.Sound) : ({ s with owed := o } : State).Sound :=
  ⟨h.shaped, h.handles, h.fifo, h.blocks, h.timelines, h.spans, h.rooms, h.searches, h.channels, h.loads⟩

/-- The first booking of `pair` AWAITING on WINDOW channel 0 with 120 seconds, the second IN_USE on WATCH channel 1 with 1. -/
def ticking : State :=
  pair { plain with state := .awaiting, timer := some 0 }
    { plain with handle := ⟨1, 1⟩, head := 1, room := 1, state := .inUse, timer := some 1 }
    ⟨.running, .window, some ⟨0, 1⟩, 120⟩ ⟨.running, .watch, some ⟨1, 1⟩, 1⟩

theorem ticking_sound : ticking.Sound :=
  pair_sound ⟨rfl, rfl, rfl, by decide, rfl, rfl, rfl, .inl (by decide)⟩ ⟨rfl, rfl, rfl, by decide, rfl, rfl, rfl, .inl (by decide)⟩

/-- Both bookings BOOKED and both channels FREE. -/
def booked : State := pair plain { plain with handle := ⟨1, 1⟩, head := 1, room := 1 } Channel.idle Channel.idle

theorem booked_sound : booked.Sound :=
  pair_sound ⟨rfl, rfl, rfl, by decide, rfl, rfl, rfl, .inr (by decide)⟩ ⟨rfl, rfl, rfl, by decide, rfl, rfl, rfl, .inr (by decide)⟩

theorem entries_campus : campus.dir.entries.length = 8192 := List.length_replicate

/-- The catch-up walk in flight, and a stopped clock with its time set. -/
def catchingUp : State := { campus with catchUp := some ⟨.commits, 0, 9000, [], []⟩ }
def stopped : State := { campus with clock := ⟨9000, 0, .stopped, true, 8000, some 6, 0, []⟩ }

/-- Three general places held. -/
def fullQueue : State :=
  { campus with placement := { campus.placement with queue := [lunchEntry, { lunchEntry with id := 1 }, { lunchEntry with id := 2 }] } }

theorem witness_StepTakesTheFrontCommand :
    ({ campus with pending := [.status] } : State).pending = [.status] ∧ campus.pending = [] := ⟨rfl, rfl⟩

theorem witness_RequestsReachTheirOwnersInTurn :
    (let s : State := { campus with link := { campus.link with passed := [⟨⟨1, 4, false⟩, .readTime 1⟩] } };
        requestOf (.readTime 1) = some (1, 4) ∧ requestOf (.readTime 2) = some (2, 4) ∧ Instr.readTime 1 ≠ .readTime 2 ∧
          s.link.passed.find? (fun p => ownerOf p.ref.kind = ownerOf 4) = some ⟨⟨1, 4, false⟩, .readTime 1⟩) ∧
      (campus.link.passed.find? (fun p => ownerOf p.ref.kind = ownerOf 4) = none ∧ campus.link.used < 8) ∧
      (let s : State := { campus with link := { campus.link with reserved := List.replicate 8 (0, 4) } };
        s.link.passed.find? (fun p => ownerOf p.ref.kind = ownerOf 4) = none ∧ 8 ≤ s.link.used ∧ s.taken (.readTime 1) = none) := by
  decide

theorem witness_AnswersFillTheirPlacesOnce :
    campus.taken (.readTime 1) = some (asked campus 4, ⟨1, 4, false⟩) ∧ answeredAtOnce (.readTime 1) = true ∧
      ((1, 4) : Byte × Nat) ∈ (asked campus 4).link.reserved :=
  ⟨taken_asked rfl rfl (by decide), by decide, by decide⟩

theorem witness_ConfigurationWaitsOrIsStored :
    (catchingUp.taken (.setWeights 1 ⟨16, 2, 8, 1⟩) = some (asked catchingUp 0x18, ⟨1, 0x18, false⟩) ∧
        isConfiguration (.setWeights 1 ⟨16, 2, 8, 1⟩) = true ∧ (asked catchingUp 0x18).catching = true) ∧
      (campus.taken (.setDistances 1 63 (List.replicate 64 64)) = some (asked campus 0x10, ⟨1, 0x10, false⟩) ∧
        (asked campus 0x10).catching = false ∧ (List.replicate 64 64).length = 64) ∧
      campus.taken (.setDistances 1 64 (List.replicate 64 0)) = some (asked campus 0x10, ⟨1, 0x10, false⟩) ∧
      campus.taken (.setWeights 1 ⟨16, 15, 0, 1⟩) = some (asked campus 0x18, ⟨1, 0x18, false⟩) ∧
      campus.taken (.setPolicy 1 ⟨31, 1, 1, 16, 0, 4, 8⟩) = some (asked campus 0x19, ⟨1, 0x19, false⟩) :=
  ⟨⟨taken_asked rfl rfl (by decide), by decide, by decide⟩, ⟨taken_asked rfl rfl (by decide), by decide, by simp⟩,
    taken_asked rfl rfl (by decide), taken_asked rfl rfl (by decide), taken_asked rfl rfl (by decide)⟩

/-- SET_ROOM that enters room 511 with its required fields at their largest, and one that changes room 0. -/
def entering : RoomForm := ⟨511, some 63, some 60, some 400, none, none, none, none, none, none, none, none⟩
def changing : RoomForm := ⟨0, none, some (-4), some 1, some 3, some 6, some 1, some 1, some 16, some 0, some 61, some true⟩

theorem witness_RoomsEnterChangeAndLeave_set :
    (campus.taken (.setRoom 1 entering) = some (asked campus 0x11, ⟨1, 0x11, false⟩) ∧ (asked campus 0x11).catching = false ∧
        entering.room < (asked campus 0x11).rooms.length ∧ roomFormOk entering = true ∧
        ((asked campus 0x11).room 511).inTable = false) ∧
      (campus.taken (.setRoom 1 changing) = some (asked campus 0x11, ⟨1, 0x11, false⟩) ∧ roomFormOk changing = true ∧
        ((asked campus 0x11).room 0).inTable = true ∧ ((asked campus 0x11).room 0).service ≠ .closing ∧
        ((asked campus 0x11).room 0).timeline = []) ∧
      (((asked (put plain campus) 0x11).room 0).inTable = true ∧ ((asked (put plain campus) 0x11).room 0).timeline ≠ [] ∧
        ((asked (put plain campus) 0x11).room 0).building ≠ 1) ∧
      ((asked pairOfBookings 0x11).timelineOf 140 =
          [] ++ { plain with handle := ⟨212, 0⟩, room := 140, startMin := 43740, endMin := 43800 } ::
            { plain with handle := ⟨305, 1⟩, room := 140, startMin := 43805, endMin := 43860 } :: [] ∧
        ((asked pairOfBookings 0x11).room 140).turnover < min ((7 + 4) / 5 * 5) 30) :=
  ⟨⟨taken_asked rfl rfl (by decide), by decide, by decide +kernel, by decide, by decide +kernel⟩,
    ⟨taken_asked rfl rfl (by decide), by decide +kernel⟩, by decide +kernel, by decide +kernel⟩

/-- R155: REMOVE_ROOM clears the closure, and the change is reported. -/
theorem test_remove_room_reports :
    gives (exec (.removeRoom 1 1) (putRoom 1 { roomOf 0 8 0 with closure := some ⟨9500, 9600, .displace, true⟩ } campus))
      (fun t => (t.room 1).closure = none && (t.room 1).inTable = false && t.panelBus.viewReports = [1]) = true := by
  decide +kernel

theorem witness_RoomsEnterChangeAndLeave_remove :
    campus.taken (.removeRoom 1 512) = some (asked campus 0x12, ⟨1, 0x12, false⟩) ∧
      ((asked campus 0x12).room 511).inTable = false ∧
      (((asked campus 0x12).room 0).inTable = true ∧ ((asked campus 0x12).room 0).panel ≠ none) ∧
      (((asked campus 0x12).room 1).inTable = true ∧ ((asked campus 0x12).room 1).timeline = [] ∧
        ((asked campus 0x12).room 1).panel = none ∧ (asked campus 0x12).seriesNames 1 = false) ∧
      ((putRoom 1 { roomOf 0 8 0 with service := .closing } campus).room 1).service = .closing :=
  ⟨taken_asked rfl rfl (by decide), by decide +kernel⟩

theorem witness_KitchensEnterChangeAndLeave :
    (campus.taken (.setKitchen 1 ⟨7, 255 :: List.replicate 63 63, 29, 4⟩) = some (asked campus 0x14, ⟨1, 0x14, false⟩) ∧
        ((255 :: List.replicate 63 63).all fun n => n ≤ 63 || n = 255) = true ∧
        ((asked campus 0x14).kitchen 7).inTable = false ∧ ((asked campus 0x14).kitchen 7).dispatch = [] ∧
        ((asked campus 0x14).kitchen 0).inTable = true) ∧
      (campus.taken (.setKitchenProfile 1 0 (List.replicate 96 1001)) = some (asked campus 0x15, ⟨1, 0x15, false⟩) ∧
        ((asked campus 0x15).kitchen 0).inTable = true) ∧
      (campus.taken (.removeKitchen 1 0) = some (asked campus 0x16, ⟨1, 0x16, false⟩) ∧
        ((asked campus 0x16).kitchen 0).terminals ≠ []) ∧
      (twoKitchens.taken (.removeKitchen 1 2) = some (asked twoKitchens 0x16, ⟨1, 0x16, false⟩) ∧
        ((asked twoKitchens 0x16).kitchen 2).inTable = true ∧ ((asked twoKitchens 0x16).kitchen 2).dispatch = [] ∧
        ((asked twoKitchens 0x16).kitchen 2).terminals = []) :=
  ⟨⟨taken_asked rfl rfl (by decide), by decide +kernel⟩, ⟨taken_asked rfl rfl (by decide), by decide +kernel⟩,
    ⟨taken_asked rfl rfl (by decide), by decide +kernel⟩, ⟨taken_asked rfl rfl (by decide), by decide +kernel⟩⟩

theorem witness_TimeSetAndStarted :
    (campus.taken (.setTime 1 9000 0) = some (asked campus 0x01, ⟨1, 0x01, false⟩) ∧ (asked campus 0x01).clock.state ≠ .stopped) ∧
      (stopped.taken (.setTime 1 7999 59) = some (asked stopped 0x01, ⟨1, 0x01, false⟩) ∧
        7999 < (asked stopped 0x01).clock.timeFloor) ∧
      (stopped.taken (.setTime 1 8000 59) = some (asked stopped 0x01, ⟨1, 0x01, false⟩) ∧
        (asked stopped 0x01).clock.state = .stopped ∧ (asked stopped 0x01).clock.timeFloor ≤ 8000) ∧
      campus.taken (.start 1) = some (asked campus 0x02, ⟨1, 0x02, false⟩) ∧
      (stopped.taken (.start 1) = some (asked stopped 0x02, ⟨1, 0x02, false⟩) ∧ (asked stopped 0x02).clock.timeSet = true ∧
        (asked stopped 0x02).catchUpOwed = false) ∧
      (({ stopped with catchUpOwed := true } : State).taken (.start 1) =
        some (asked { stopped with catchUpOwed := true } 0x02, ⟨1, 0x02, false⟩)) ∧
      (({ stopped with catchUpOwed := true, missedDayStart := some 5 } : State).missedDayStart = some 5 ∧
        stopped.missedDayStart = none ∧ stopped.clock.dayRaised = some 6 ∧ stopped.catering.horizon = some 6 ∧
        State.reset.catering.horizon = none ∧ State.reset.clock.dayRaised = none) ∧
      ({ stopped with clock := { stopped.clock with timeSet := false } } : State).clock.timeSet = false :=
  ⟨⟨taken_asked rfl rfl (by decide), by decide⟩, ⟨taken_asked rfl rfl (by decide), by decide⟩,
    ⟨taken_asked rfl rfl (by decide), by decide⟩, taken_asked rfl rfl (by decide),
    ⟨taken_asked rfl rfl (by decide), by decide⟩, taken_asked rfl rfl (by decide), by decide, rfl⟩

theorem witness_SecondsMakeMinutesAndHoldover :
    (campus.catching = false ∧ campus.clock.second < 59) ∧
      ((atTime 9000 59 campus).catching = false ∧ 59 ≤ (atTime 9000 59 campus).clock.second) ∧
      ((10079 + 1) % 1440 = 0 ∧ (10079 + 1) / 1440 = 7 ∧ ∀ r, (atTime 10079 59 campus).clock.dayRaised = some r → r < 7) ∧
      3999999999 ≤ (atTime 3999999999 59 campus).clock.minute ∧
      (campus.clock.state = .running ∧ campus.clock.watch < 2) ∧
      ({ campus with clock := ⟨9000, 0, .running, true, 0, some 6, 2, []⟩ } : State).clock.watch = 2 ∧
      ({ campus with clock := ⟨9000, 0, .holdover, true, 0, some 6, 0, []⟩ } : State).clock.state = .holdover ∧
      stopped.clock.state = .stopped :=
  ⟨by decide, by decide, ⟨by decide, by decide, fun r h => by cases (show some 6 = some r from h); decide⟩, by decide, by decide, rfl, rfl, rfl⟩

theorem witness_TrimMovesWholeMinutes :
    stopped.taken (.trimTime 1 5) = some (asked stopped 0x03, ⟨1, 0x03, false⟩) ∧
      campus.taken (.trimTime 1 6) = some (asked campus 0x03, ⟨1, 0x03, false⟩) ∧
      (campus.taken (.trimTime 1 (-5)) = some (asked campus 0x03, ⟨1, 0x03, false⟩) ∧
        (asked campus 0x03).clock.state ≠ .stopped ∧ (asked campus 0x03).catching = false ∧
        ((asked campus 0x03).clock.minute : Int) + (-5) = (8995 : Nat)) ∧
      (catchingUp.taken (.trimTime 1 5) = some (asked catchingUp 0x03, ⟨1, 0x03, false⟩) ∧
        (asked catchingUp 0x03).catching = true) ∧
      ((atTime 3999999999 0 campus).clock.minute : Int) + 1 > 3999999999 :=
  ⟨taken_asked rfl rfl (by decide), taken_asked rfl rfl (by decide), ⟨taken_asked rfl rfl (by decide), by decide⟩,
    ⟨taken_asked rfl rfl (by decide), by decide⟩, by decide⟩

/-- A forward trim of one minute, by which no WINDOW runs out, and of two, by which the window of 0.1 does. -/
theorem witness_TrimMovesWholeMinutes_forward :
    ticking.taken (.trimTime 1 2) = some (asked ticking 0x03, ⟨1, 0x03, false⟩) ∧ (asked ticking 0x03).Sound ∧
      (let s1 := asked ticking 0x03;
        s1.clock.state ≠ .stopped ∧ s1.catching = false ∧ (s1.clock.minute : Int) + 2 = (9002 : Nat) ∧ s1.owed = Owed.nothing ∧
          (s1.channel 0).booking = some ⟨0, 1⟩ ∧ s1.lookup ⟨0, 1⟩ = .found { plain with state := .awaiting, timer := some 0 } ∧
          (s1.channel 0).state = .running ∧ (s1.channel 0).mode = .window ∧ (s1.channel 0).remaining = 60 * (9002 - s1.clock.minute) ∧
          60 * (9001 - s1.clock.minute) < (s1.channel 0).remaining ∧ 9002 < plain.endMin ∧
          (s1.channel 1).mode = .watch ∧ (s1.channel 1).remaining ≤ 60 * (9001 - s1.clock.minute) ∧
          s1.lookup ⟨1, 1⟩ = .found { plain with handle := ⟨1, 1⟩, head := 1, room := 1, state := .inUse, timer := some 1 }) :=
  ⟨taken_asked rfl rfl (by decide), sound_asked _ ticking_sound, by decide +kernel⟩

theorem witness_OnlyTheClockMovesTheMinute :
    movesMinute .retentionLoss = false ∧
      exec .retentionLoss campus = .next ({ campus with retention := .lost } : State).followAttn := ⟨rfl, rfl⟩

theorem witness_CreationsTakeAllOrLeaveNoTrace :
    (64 + [BlockKind.head].length ≤ reserved.store.freeCount ∧ 64 + 1 ≤ reserved.store.freeCount) ∧
      reserved.store.freeCount < 64 + 2 ∧
      (campus.stackCounted = true ∧ campus.dir.fifo = 3 :: upFrom 4 8188 ∧ campus.bookingAt 3 = none ∧
        (campus.dir.entries.getD 3 ⟨0, none⟩).generation < 256) ∧
      ∃ p, campus.takeRecord (.host 2) true false none = some p :=
  ⟨by decide, by decide, ⟨by decide +kernel, rfl, by decide +kernel⟩,
    Option.isSome_iff_exists.1 (by decide +kernel)⟩

/-- R101, R188: READ_TIMERS gives a remaining, up to 86,400, in 4 bytes. -/
theorem test_read_timers_remaining :
    gives (exec (.readTimers 1) (setChannel 3 ⟨.paused, .watch, some ⟨0, 1⟩, 86400⟩ (put { plain with state := .inUse, timer := some 3 } campus)))
      (fun t => (lastAnswer t).map (fun a => (encodeFields a.2).drop 9) =
        some [1, 0, 3, 1, 2, 0, 0, 1, 0x80, 0x51, 1, 0, 0, 0]) = true := by decide +kernel

theorem witness_ReadingsAnswerAndChangeNothing_records :
    campus.taken (.readBooking 1 ⟨8192, 0⟩) = some (asked campus 0x33, ⟨1, 0x33, false⟩) ∧
      (asked campus 0x33).bookingAt 8191 = none ∧
      ((put plain campus).taken (.readBooking 1 ⟨0, 0⟩) = some (asked (put plain campus) 0x33, ⟨1, 0x33, false⟩) ∧
        (asked (put plain campus) 0x33).bookingAt 0 = some plain ∧
        ((asked (put plain campus) 0x33).dir.entries.getD 0 ⟨0, none⟩).generation = 1) ∧
      (campus.taken (.readSeries 1 1024) = some (asked campus 0x43, ⟨1, 0x43, false⟩) ∧ (asked campus 0x43).seriesAt 1023 = none) ∧
      ((putSeries 9 daily campus).taken (.readSeries 1 9) = some (asked (putSeries 9 daily campus) 0x43, ⟨1, 0x43, false⟩) ∧
        (asked (putSeries 9 daily campus) 0x43).seriesAt 9 = some daily) ∧
      (campus.taken (.listRoom 1 512 none none) = some (asked campus 0x34, ⟨1, 0x34, false⟩) ∧
        ((asked campus 0x34).room 511).inTable = false) ∧
      (campus.taken (.listRoom 1 0 none (some 12)) = some (asked campus 0x34, ⟨1, 0x34, false⟩) ∧
        ((asked campus 0x34).room 0).inTable = true) :=
  ⟨taken_asked rfl rfl (by decide), by decide +kernel, ⟨taken_asked rfl rfl (by decide), by decide +kernel⟩,
    ⟨taken_asked rfl rfl (by decide), by decide +kernel⟩, ⟨taken_asked rfl rfl (by decide), by decide +kernel⟩,
    ⟨taken_asked rfl rfl (by decide), by decide +kernel⟩, taken_asked rfl rfl (by decide), by decide +kernel⟩

/-- A retirement walk of day 7 at a place; with an ended booking of day 6 in entry 0 and in entry 8,191. -/
def retiring (pos : WalkPos) : State :=
  let done (i : Nat) : Booking := { plain with handle := ⟨i, 1⟩, state := .ended }
  { campus with
    store := { campus.store with walk := some ⟨7, pos⟩ }
    dir := { campus.dir with entries := (campus.dir.entries.set 0 ⟨1, some (done 0)⟩).set 8191 ⟨1, some (done 8191)⟩ } }

theorem witness_RetirementWalkRetires :
    (({ campus with owed := { Owed.nothing with retirements := [7] } } : State).owed.retirements = 7 :: [] ∧
        campus.store.walk = none ∧ (retiring (.entry 0)).store.walk ≠ none) ∧
      ((retiring (.entry 0)).store.walk = some ⟨7, .entry 0⟩ ∧
        (retiring (.entry 0)).bookingAt 0 = some { plain with state := .ended } ∧ plain.endMin / 1440 < 7) ∧
      ((retiring (.entry 8191)).bookingAt 8191 = some { plain with handle := ⟨8191, 1⟩, state := .ended }) ∧
      ((put plain (retiring (.entry 0))).bookingAt 0 = some plain ∧ plain.state = .booked) ∧
      (let s := putSeries 1022 { daily with state := .finished } (retiring (.series 1022));
        s.store.walk = some ⟨7, .series 1022⟩ ∧ s.seriesAt 1022 = some { daily with state := .finished } ∧
          s.dir.refs.getD 1022 0 = 0) ∧
      (putSeries 1022 daily (retiring (.series 1022))).seriesAt 1022 = some daily ∧
      ((retiring (.series 1023)).store.walk = some ⟨7, .series 1023⟩ ∧ (retiring (.series 1023)).catchUp = none) := by
  decide +kernel

theorem witness_FreedomTestKeepsSpacing :
    (spaced 5 [plain, { plain with startMin := 9125, endMin := 9130 }] ∧ 9135 < 9140) ∧
      ([plain, { plain with startMin := 9125, endMin := 9130 }].takeWhile fun x => x.startMin < 9134).getLast? =
        some { plain with startMin := 9125, endMin := 9130 } ∧ 9134 < 9130 + 5 :=
  ⟨⟨by simp [spaced, plain], by decide⟩, by decide, by decide⟩

theorem witness_SpansLieOnTheGrid :
    formSpan 9000 ⟨9004, some 9006, none⟩ none = some ⟨9000, 9010, true, true⟩ ∧
      formSpan 9000 ⟨9000, none, some 1440⟩ none = some ⟨9000, 10440, false, false⟩ ∧
      formSpan 9000 ⟨268200, none, some 5⟩ none = some ⟨268200, 268205, false, false⟩ ∧
      formSpan 9000 ⟨268201, none, some 5⟩ none = none ∧ formSpan 9000 ⟨9000, none, some 0⟩ none = none ∧
      ((9004 + 4) / 5 * 5 ≤ 8999 / 5 * 5 + 1440 ∧ 268200 ≤ 9000 + 259200) ∧ plain.startMin + 5 ≤ (9061 + 4) / 5 * 5 ∧
      amendSpan 9000 ⟨⟨0, 1⟩, none, some 9061, none, none, none, none, false⟩ plain = some ⟨9060, 9065, false, true⟩ ∧
      amendSpan 9000 ⟨⟨0, 1⟩, none, none, some 1440, none, none, none, false⟩ plain = some ⟨9060, 10500, false, false⟩ ∧
      amendSpan 9115 ⟨⟨0, 1⟩, none, none, none, none, none, none, false⟩ { plain with state := .inUse } =
        some ⟨9060, 9120, false, false⟩ ∧
      amendSpan 9116 ⟨⟨0, 1⟩, none, none, none, none, none, none, false⟩ { plain with state := .inUse } = none := by decide

/-- A BOOK of room 0 that nothing refuses in the campus, its start one minute past the grid. -/
def fine : BookForm := ⟨0, ⟨9061, none, some 58⟩, 400, 1, 63, 0, 0, none, some (List.replicate 40 65), none⟩

theorem witness_BookRefusalsInOrder :
    (stopped.taken (.book 1 fine) = some (asked stopped 0x30, ⟨1, 0x30, false⟩) ∧ (asked stopped 0x30).running = false) ∧
      (catchingUp.taken (.book 1 fine) = some (asked catchingUp 0x30, ⟨1, 0x30, false⟩) ∧
        (asked catchingUp 0x30).running = true ∧ (asked catchingUp 0x30).catching = true) ∧
      (campus.taken (.book 1 { fine with headCount := 401 }) = some (asked campus 0x30, ⟨1, 0x30, false⟩)) ∧
      (campus.taken (.book 1 { fine with room := 511 }) = some (asked campus 0x30, ⟨1, 0x30, false⟩) ∧
        bookFormOk { fine with room := 511 } = true ∧ ((asked campus 0x30).room 511).inTable = false) ∧
      (campus.taken (.book 1 { fine with span := ⟨8999, none, some 30⟩ }) = some (asked campus 0x30, ⟨1, 0x30, false⟩) ∧
        bookFormOk { fine with span := ⟨8999, none, some 30⟩ } = true) ∧
      formSpan 9000 ⟨9000, some 9000, none⟩ none = none ∧
      (let s := asked (putRoom 0 { roomOf 0 8 0 with closure := some ⟨9119, 9200, .displace, true⟩ } campus) 0x30;
        formSpan 9000 fine.span none = some ⟨9060, 9120, true, true⟩ ∧
          (s.room 0).closure = some ⟨9119, 9200, .displace, true⟩ ∧ (s.room 0).service ≠ .closing) ∧
      ((asked (putRoom 0 { roomOf 0 8 0 with service := .closing } campus) 0x30).room 0).service = .closing ∧
      (asked (put plain campus) 0x30).blocker 0 none 9060 9120 = some ⟨0, 1⟩ :=
  ⟨⟨taken_asked rfl rfl (by decide), by decide⟩, ⟨taken_asked rfl rfl (by decide), by decide⟩,
    taken_asked rfl rfl (by decide), ⟨taken_asked rfl rfl (by decide), by decide +kernel⟩,
    ⟨taken_asked rfl rfl (by decide), by decide⟩, by decide +kernel⟩

/-- A BOOK with an order, of a start that the kitchen can serve, of one that it cannot, and of one beyond the horizon. -/
def fed (start : Nat) : BookForm := { fine with span := ⟨start, none, some 30⟩, order := some ⟨10, [⟨1, 2⟩]⟩ }

/-- Steps 10 to 12: no handle, no blocks, the planning scope, a room without food, and no window. -/
theorem witness_BookRefusalsInOrder_order :
    campus.taken (.book 1 (fed 9060)) = some (asked campus 0x30, ⟨1, 0x30, false⟩) ∧
      (let s1 := asked campus 0x30;
        s1.running = true ∧ s1.catching = false ∧ bookFormOk (fed 9060) = true ∧
          formSpan s1.clock.minute (fed 9060).span none = some ⟨9060, 9090, false, false⟩ ∧
          (s1.room 0).closedFor 9060 9090 = false ∧ s1.blocker 0 none 9060 9090 = none ∧ s1.seriesScope 6 = false ∧
          s1.stackCounted = true ∧ s1.dir.fifo.head? = some 3 ∧ s1.bookingAt 3 = none ∧
          (s1.dir.entries.getD 3 ⟨0, none⟩).generation < 256 ∧ 64 + 3 ≤ s1.store.freeCount ∧ s1.planningScope 6 = false ∧
          (s1.room 0).foodAllowed = true ∧ s1.beyond 6 = false ∧ s1.planAt 9000 10 9060 0 = none) ∧
      (asked reserved 0x30).store.freeCount < 64 + 2 ∧
      ({ campus with dir := { campus.dir with fifo := [] } } : State).dir.fifo = [] ∧
      ((putRoom 0 (roomOf 0 8 5) campus).room 0).foodAllowed = false ∧
      ({ campus with catering := { campus.catering with walk := some ⟨7, [20]⟩ } } : State).planningScope 20 = true ∧
      ({ campus with series := { campus.series with walk := some ⟨7, 0⟩ } } : State).seriesScope 35 = true :=
  ⟨taken_asked rfl rfl (by decide), by decide +kernel⟩

theorem witness_BookMakesTheBooking_order :
    campus.taken (.book 1 (fed 9120)) = some (asked campus 0x30, ⟨1, 0x30, false⟩) ∧
      (let s1 := asked campus 0x30;
        formSpan s1.clock.minute (fed 9120).span none = some ⟨9120, 9150, false, false⟩ ∧
          (s1.room 0).closedFor 9120 9150 = false ∧ s1.blocker 0 none 9120 9150 = none ∧ s1.planningScope 6 = false ∧
          s1.beyond 6 = false ∧ s1.loadsShaped = true ∧ 0 < s1.kitchens.length ∧
          s1.planAt s1.clock.minute 10 9120 0 = some ⟨0, ⟨6, 31⟩, 9109, 9049⟩ ∧
          formSpan s1.clock.minute (fed 28800).span none = some ⟨28800, 28830, false, false⟩ ∧ s1.beyond 20 = true ∧
          s1.planningScope 20 = false ∧ s1.seriesScope 20 = false ∧ s1.blocker 0 none 28800 28830 = none) :=
  ⟨taken_asked rfl rfl (by decide), by decide +kernel⟩

theorem witness_BookMakesTheBooking :
    campus.taken (.book 1 fine) = some (asked campus 0x30, ⟨1, 0x30, false⟩) ∧ (asked campus 0x30).running = true ∧
      (asked campus 0x30).catching = false ∧ bookFormOk fine = true ∧ ((asked campus 0x30).room 0).inTable = true ∧
      formSpan (asked campus 0x30).clock.minute fine.span none = some ⟨9060, 9120, true, true⟩ ∧
      ((asked campus 0x30).room 0).service ≠ .closing ∧ ((asked campus 0x30).room 0).closedFor 9060 9120 = false ∧
      (asked campus 0x30).blocker 0 none 9060 9120 = none ∧ (asked campus 0x30).seriesScope 6 = false ∧
      (asked campus 0x30).dir.fifo = 3 :: upFrom 4 8188 ∧ 3 < (asked campus 0x30).dir.entries.length ∧
      0 < (asked campus 0x30).rooms.length ∧ 64 + 2 ≤ (asked campus 0x30).store.freeCount ∧
      checkinOf fine.override ((asked campus 0x30).room 0) = .required ∧ (asked campus 0x30).panelAvailable 0 = true ∧
      (asked campus 0x30).lowestFree = some 0 ∧ checkinOf none ((asked campus 0x30).room 1) = .exempt :=
  ⟨taken_asked rfl rfl (by decide), by decide, by decide, by decide +kernel, by decide +kernel, by decide +kernel,
    by decide +kernel, by decide +kernel, by decide +kernel, by decide +kernel, rfl,
    by rw [show (asked campus 0x30).dir.entries.length = 8192 from entries_campus]; decide, by decide +kernel, by decide +kernel, by decide +kernel,
    by decide +kernel, by decide +kernel, by decide +kernel⟩

/-- No channel is FREE, at the opening minute of the booking of `fine` and at its start. -/
theorem witness_BookMakesTheBooking_noChannel :
    ∀ now ∈ [9055, 9060],
      let s : State := atTime now 0
        { campus with bank := { campus.bank with channels := List.replicate 256 ⟨.suspended, .watch, some ⟨9, 1⟩, 60⟩ } };
      s.link.passed = [] ∧ s.link.used < 8 ∧
        (let s1 := asked s 0x30;
          formSpan s1.clock.minute fine.span none = some ⟨9060, 9120, true, true⟩ ∧ s1.clock.minute ≤ fine.span.startMin ∧
            checkinOf fine.override (s1.room 0) = .required ∧ 9060 ≤ s1.clock.minute + (s1.room 0).earlyOpen ∧
            s1.panelAvailable 0 = true ∧ (∀ c, c < s1.bank.channels.length → (s1.channel c).state ≠ .free)) := by
  decide +kernel

/-- AMEND of booking 0.1. -/
def moving (start : Option Nat) (room : Option Nat) : AmendForm := ⟨⟨0, 1⟩, start, none, none, room, none, none, false⟩

/-- AMEND of the length of 0.1, and of its note. -/
def lengthen (n : Nat) : AmendForm := ⟨⟨0, 1⟩, none, none, some n, none, none, none, false⟩
def noting (text : List Byte) : AmendForm := ⟨⟨0, 1⟩, none, none, none, none, none, some text, false⟩

theorem witness_RefusedAmendsChangeNothing :
    (stopped.taken (.amend 1 (moving none (some 1))) = some (asked stopped 0x31, ⟨1, 0x31, false⟩)) ∧
      (asked stopped 0x31).running = false ∧
      catchingUp.taken (.amend 1 (moving none (some 1))) = some (asked catchingUp 0x31, ⟨1, 0x31, false⟩) ∧
      gives (exec (.amend 1 (moving none (some 511))) (put plain campus)) (fun t =>
        lastAnswer t = some (.noSuch, []) && t.bookingAt 0 = some plain) = true :=
  ⟨taken_asked rfl rfl (by decide), by decide, taken_asked rfl rfl (by decide), by decide +kernel⟩

theorem witness_AmendMovesTheBooking :
    (put plain campus).taken (.amend 1 (moving (some 9060) (some 1))) =
        some (asked (put plain campus) 0x31, ⟨1, 0x31, false⟩) ∧
      (let s1 := asked (put plain campus) 0x31;
        s1.running = true ∧ s1.catching = false ∧ s1.lookup ⟨0, 1⟩ = .found plain ∧
          amendFormOk (moving (some 9060) (some 1)) = true ∧
          amendSpan s1.clock.minute (moving (some 9060) (some 1)) plain = some ⟨9060, 9120, false, false⟩ ∧
          (s1.room 1).inTable = true ∧ (s1.room 1).service ≠ .closing ∧ (s1.room 1).closedFor 9060 9120 = false ∧
          s1.blocker 1 (some plain.handle) 9060 9120 = none ∧ s1.seriesScope 6 = false ∧
          s1.clock.minute + (s1.room 1).earlyOpen < 9060 ∧
          amendSpan s1.clock.minute (lengthen 30) plain = some ⟨9060, 9090, false, false⟩) ∧
      (let b : Booking := { plain with state := .displaced };
        let s1 := asked (put b campus) 0x31;
        s1.lookup ⟨0, 1⟩ = .found b ∧ amendSpan s1.clock.minute (moving none (some 1)) b = some ⟨9060, 9120, false, false⟩ ∧
          s1.clock.minute ≤ b.startMin ∧ s1.blocker 1 (some b.handle) 9060 9120 = none) :=
  ⟨taken_asked rfl rfl (by decide), by decide +kernel⟩

/-- A new end five minutes and four minutes after now, of an AWAITING booking on channel 3 and of an IN_USE one. -/
theorem witness_AmendMovesTheBooking_end :
    ∀ st ∈ [BookingState.awaiting, .inUse], ∀ now ∈ [9100, 9101],
      let s := atTime now 0 (setChannel 3 ⟨.running, .window, some ⟨0, 1⟩, 900⟩
        (put { plain with state := st, timer := some 3 } campus));
      s.link.passed = [] ∧ s.link.used < 8 ∧
        (let s1 := asked s 0x31;
          s1.running = true ∧ s1.catching = false ∧ s1.lookup ⟨0, 1⟩ = .found { plain with state := st, timer := some 3 } ∧
            amendFormOk (lengthen 41) = true ∧ (9060 + 41 + 4) / 5 * 5 = 9105 ∧ (s1.room 0).inTable = true ∧
            (s1.room 0).service ≠ .closing ∧ (s1.room 0).closedFor 9060 9105 = false ∧
            s1.blocker 0 (some ⟨0, 1⟩) 9060 9105 = none ∧ (9105 < s1.clock.minute + 5 ↔ now = 9101) ∧
            (s1.channel 3).mode = .window) := by decide +kernel

theorem witness_AmendMovesTheBooking_note :
    ∀ b ∈ [plain, { plain with note := some ⟨7, [1]⟩ }, { plain with state := .inUse }],
      let s := put b campus;
      s.link.passed = [] ∧ s.link.used < 8 ∧
        (let s1 := asked s 0x31;
          s1.lookup ⟨0, 1⟩ = .found b ∧ amendFormOk (noting [65]) = true ∧ amendFormOk (noting []) = true ∧
            (b.state = .booked ∧ s1.clock.minute + (s1.room 0).earlyOpen < b.startMin ∨
              b.state = .inUse ∧ s1.clock.minute + 5 ≤ b.endMin) ∧
            (s1.room 0).closedFor 9060 9120 = false ∧ s1.blocker 0 (some ⟨0, 1⟩) 9060 9120 = none ∧
            65 ≤ s1.store.freeCount) := by decide +kernel

/-- A note-only AMEND in the last 5 minutes of a booking, and before them in the closure of a CLOSING room. -/
theorem witness_AmendMovesTheBooking_noteRefused :
    ∀ st ∈ [BookingState.booked, .awaiting, .inUse], ∀ now ∈ [9115, 9116],
      let s := atTime now 0 (put { plain with state := st }
        (putRoom 0 { roomOf 0 8 0 with service := .closing, closure := some ⟨9119, 9300, .relocate, false⟩ } campus));
      s.link.passed = [] ∧ s.link.used < 8 ∧
        (let s1 := asked s 0x31;
          s1.lookup ⟨0, 1⟩ = .found { plain with state := st } ∧ amendFormOk (noting [65]) = true ∧
            (s1.room 0).inTable = true ∧ (plain.endMin < s1.clock.minute + 5 ↔ now = 9116) ∧
            (s1.room 0).closedFor plain.startMin plain.endMin = true) := by decide +kernel

theorem witness_CancelWithdrawsTheBooking :
    ((put plain campus).taken (.cancel 1 ⟨0, 1⟩) = some (asked (put plain campus) 0x32, ⟨1, 0x32, false⟩) ∧
        (asked (put plain campus) 0x32).lookup ⟨0, 1⟩ = .found plain ∧ plain.order = none ∧ plain.mark = false) ∧
      (asked (put { plain with mark := true } campus) 0x32).lookup ⟨0, 1⟩ = .found { plain with mark := true } ∧
      (asked (put { plain with state := .inUse } campus) 0x32).lookup ⟨0, 1⟩ = .found { plain with state := .inUse } ∧
      (asked (put { plain with state := .cancelled } campus) 0x32).lookup ⟨0, 1⟩ = .found { plain with state := .cancelled } ∧
      (asked (put { plain with state := .awaiting, timer := some 255 } campus) 0x32).lookup ⟨0, 1⟩ =
        .found { plain with state := .awaiting, timer := some 255 } :=
  ⟨⟨taken_asked rfl rfl (by decide), by decide +kernel⟩, by decide +kernel⟩

/-- An AWAITING booking on channel 3 in a channel state, with nothing remaining. -/
def awaitingOn (st : ChannelState) : State :=
  setChannel 3 ⟨st, .window, some ⟨0, 1⟩, 0⟩ (put { plain with state := .awaiting, timer := some 3 } campus)

theorem witness_StartsAndEndsByTheTable :
    ((put plain campus).bookingAt 0 = some plain ∧ (put plain campus).panelAvailable 0 = true ∧
        plain.startMin = 9055 + ((put plain campus).room 0).earlyOpen) ∧
      (put { plain with checkin := .exempt } campus).bookingAt 0 = some { plain with checkin := .exempt } ∧
      (put { plain with room := 1 } campus).panelAvailable 1 = false ∧
      (put { plain with state := .inUse } campus).bookingAt 0 = some { plain with state := .inUse } ∧
      ((awaitingOn .running).bookingAt 0 = some { plain with state := .awaiting, timer := some 3 } ∧
        ((awaitingOn .running).channel 3).state = .running ∧ ((awaitingOn .suspended).channel 3).state = .suspended) := by
  decide +kernel

theorem witness_MinuteLeavesNothingOverdue :
    ({ put { plain with state := .inUse } campus with owed := { Owed.nothing with starts := [9120] } } : State).owed.starts =
        9120 :: [] ∧ (put { plain with state := .inUse } campus).rooms.length = 512 ∧
      (let s : State := { awaitingOn .suspended with owed := { Owed.nothing with starts := [9120] } };
        s.owed.starts = 9120 :: [] ∧ s.bookingAt 0 = some { plain with state := .awaiting, timer := some 3 } ∧
          (s.room 0).timeline = [⟨0, 1⟩]) := by decide +kernel

theorem witness_SeriesAdvanceAndSuspend :
    ((putSeries 9 daily campus).seriesAt 9 = some daily ∧ daily.state = .active ∧ daily.threshold ≠ 0 ∧
        daily.threshold ≤ min (daily.noShows + 1) 7) ∧
      ((putSeries 1023 { daily with noShows := 7, threshold := 0 } campus).seriesAt 1023 =
        some { daily with noShows := 7, threshold := 0 }) ∧
      min (0 + 1) 7 < daily.threshold := by decide +kernel

theorem witness_OccurrencesMadeOrSkipped :
    (let s := putSeries 9 { daily with nextStart := 9060, room := 0 } (put plain campus);
        s.seriesAt 9 = some { daily with nextStart := 9060, room := 0 } ∧ s.blocker 0 none 9060 9120 ≠ none) ∧
      (let s := putSeries 9 daily campus;
        s.seriesAt 9 = some daily ∧ (s.room 1).closedFor 58200 58260 = false ∧ s.blocker 1 none 58200 58260 = none ∧
          s.dir.fifo.head? = some 3 ∧ daily.template = none ∧ 1 ≤ s.store.freeCount ∧ 9000 + (s.room 1).earlyOpen < 58200) := by
  decide +kernel

/-- CREATE_SERIES of room 1 whose first start lies on day 35, beyond day 6 + 28. -/
def weekly : SeriesForm := ⟨1, 50402, 58, 7, 255, 1, 0x5150, none, none, some [65]⟩

theorem witness_SeriesCreated :
    (stopped.taken (.createSeries 1 weekly) = some (asked stopped 0x40, ⟨1, 0x40, false⟩) ∧
        catchingUp.taken (.createSeries 1 weekly) = some (asked catchingUp 0x40, ⟨1, 0x40, false⟩)) ∧
      (campus.taken (.createSeries 1 weekly) = some (asked campus 0x40, ⟨1, 0x40, false⟩) ∧
        (let s1 := asked campus 0x40;
          s1.running = true ∧ s1.catching = false ∧ seriesFormOk weekly = true ∧ (s1.room 1).inTable = true ∧
            s1.clock.minute ≤ weekly.firstStart ∧ weekly.firstStart ≤ s1.clock.minute + 259200 ∧
            (s1.room 1).service ≠ .closing ∧ s1.freeSeries = some 0 ∧ 64 + 2 ≤ s1.store.freeCount ∧
            s1.clock.minute / 1440 + 28 < (weekly.firstStart - weekly.firstStart % 5) / 1440)) ∧
      (seriesFormOk { weekly with length := 0 } = true ∧ seriesFormOk { weekly with firstStart := 268201 } = true ∧
        seriesFormOk { weekly with firstStart := 8999 } = true ∧ seriesFormOk { weekly with room := 511 } = true) ∧
      ((putRoom 1 (roomOf 0 8 0) campus).room 1).foodAllowed = false :=
  ⟨⟨taken_asked rfl rfl (by decide), taken_asked rfl rfl (by decide)⟩,
    ⟨taken_asked rfl rfl (by decide), by decide +kernel⟩, by decide +kernel⟩

/-- A series of room 1 whose first occurrences lie within the horizon, on days 6 to 34. -/
theorem witness_SeriesCreated_within :
    booked.taken (.createSeries 1 { weekly with firstStart := 9062 }) = some (asked booked 0x40, ⟨1, 0x40, false⟩) ∧
      (asked booked 0x40).shaped = true ∧ (asked booked 0x40).fifoRight ∧
      (let s1 := asked booked 0x40;
        s1.running = true ∧ s1.catching = false ∧ seriesFormOk { weekly with firstStart := 9062 } = true ∧
          (s1.room 1).inTable = true ∧ (s1.room 1).service ≠ .closing ∧ s1.freeSeries = some 0 ∧ 64 + 2 ≤ s1.store.freeCount ∧
          (9062 - 9062 % 5) / 1440 ≤ s1.clock.minute / 1440 + 28) :=
  ⟨taken_asked rfl rfl (by decide), (sound_asked _ booked_sound).shaped, (sound_asked _ booked_sound).fifo, by decide +kernel⟩

/-- The table of series has its size whatever series it holds. -/
theorem witness_SeriesEndedAndResumed_within :
    let s := putSeries 9 { daily with state := .suspended, nextStart := 8760 } booked
    s.taken (.resumeSeries 1 9) = some (asked s 0x42, ⟨1, 0x42, false⟩) ∧ (asked s 0x42).shaped = true ∧
      (asked s 0x42).fifoRight ∧
      (asked s 0x42).seriesAt 9 = some { daily with state := .suspended, nextStart := 8760 } ∧
      8760 / 1440 ≤ (asked s 0x42).clock.minute / 1440 + 28 ∧ 8760 < (asked s 0x42).clock.minute ∧ (1 : Nat) < 512 := by
  have h := booked_sound
  refine ⟨taken_asked rfl rfl (by decide), ?_, h.fifo, by decide +kernel⟩
  obtain ⟨h1, h2, h3, h4, h5, h6⟩ : booked.distance.length = 64 ∧ booked.rooms.length = 512 ∧ booked.kitchens.length = 8 ∧
      booked.dir.entries.length = 8192 ∧ booked.bank.channels.length = 256 ∧ booked.loadsShaped = true := by
    have hs := h.shaped
    simp only [State.shaped, Bool.and_eq_true, decide_eq_true_eq] at hs
    exact ⟨hs.1.1.1.1.1.1.1.1.1, hs.1.1.1.1.1.1.1.1.2, hs.1.1.1.1.1.1.1.2, hs.1.1.1.1.1.1.2, hs.1.1.1.2, hs.2⟩
  refine shaped_of h1 h2 h3 h4 List.length_replicate ?_ h5 rfl rfl h6
  show ((List.replicate 1024 (none : Option Series)).set 9 _).length = 1024
  rw [List.length_set, List.length_replicate]

theorem witness_SeriesEndedAndResumed :
    (∀ x : Series, (asked (putSeries 1023 x campus) 0x41).seriesAt 1023 = some x →
        (putSeries 1023 x campus).taken (.endSeries 1 1023) = some (asked (putSeries 1023 x campus) 0x41, ⟨1, 0x41, false⟩)) ∧
      (asked (putSeries 1023 daily campus) 0x41).seriesAt 1023 = some daily ∧
      (asked (putSeries 1023 { daily with state := .finished } campus) 0x41).seriesAt 1023 =
        some { daily with state := .finished } ∧
      (asked (putSeries 1023 { daily with passOwed := true } campus) 0x41).seriesAt 1023 = some { daily with passOwed := true } ∧
      ((putSeries 1023 { daily with state := .suspended } campus).taken (.resumeSeries 1 1023) =
          some (asked (putSeries 1023 { daily with state := .suspended } campus) 0x42, ⟨1, 0x42, false⟩) ∧
        (asked (putSeries 1023 { daily with state := .suspended } campus) 0x42).seriesAt 1023 =
          some { daily with state := .suspended } ∧ 9000 / 1440 + 28 < daily.nextStart / 1440) :=
  ⟨fun _ _ => taken_asked rfl rfl (show 0 < 8 by decide), by decide +kernel, by decide +kernel, by decide +kernel,
    taken_asked rfl rfl (by decide), by decide +kernel⟩

/-- A materialisation walk of day 7 at an id. -/
def materialising (id : Nat) : State := { campus with series := { campus.series with walk := some ⟨7, id⟩ } }

theorem witness_MaterialisationWalkDealsWithEachSeries :
    (({ campus with owed := { Owed.nothing with materialisations := [7] } } : State).owed.materialisations = 7 :: [] ∧
        campus.series.walk = none ∧ (materialising 0).series.walk ≠ none) ∧
      ((putSeries 9 daily (materialising 9)).series.walk = some ⟨7, 9⟩ ∧
        (putSeries 9 daily (materialising 9)).seriesAt 9 = some daily ∧ 7 + 28 < daily.nextStart / 1440) ∧
      ((putSeries 1022 { daily with nextStart := 10500 } (materialising 1022)).seriesAt 1022 =
        some { daily with nextStart := 10500 } ∧ 1 ≤ daily.period) ∧
      ((materialising 1023).series.walk = some ⟨7, 1023⟩ ∧ (materialising 1023).seriesAt 1023 = none ∧
        (materialising 1023).catchUp = none) ∧
      (putSeries 1023 { daily with nextStart := 10500 } (materialising 1023)).seriesAt 1023 =
        some { daily with nextStart := 10500 } := by decide +kernel

/-- A cancel pass of series 9 at an entry. -/
def passing (e : Nat) (s : State) : State :=
  putSeries 9 { daily with passOwed := true } { s with series := { s.series with pass := some ⟨9, e⟩ } }

theorem witness_CancelPassWithdrawsOccurrences :
    (({ campus with series := { campus.series with passQueue := [9, 11] } } : State).series.passQueue = 9 :: [11] ∧
        campus.series.pass = none ∧ campus.bookingAt 0 = none) ∧
      (let b : Booking := { plain with series := some 9, order := some (counted .committed) };
        (passing 0 (put b campus)).series.pass = some ⟨9, 0⟩ ∧ (passing 0 (put b campus)).bookingAt 0 = some b) ∧
      ((passing 0 (put plain campus)).bookingAt 0 = some plain ∧ plain.series ≠ some 9) ∧
      ((passing 8191 campus).series.pass = some ⟨9, 8191⟩ ∧
        (passing 8191 campus).seriesAt 9 = some { daily with passOwed := true }) ∧
      (let b : Booking := { plain with handle := ⟨8191, 1⟩, series := some 9 };
        (passing 8191 (put b campus)).bookingAt 8191 = some b ∧
          (passing 8191 (put b campus)).series.pass = some ⟨9, 8191⟩) := by decide +kernel

/-- A PLACE that nothing refuses. -/
def search : PlaceForm := ⟨400, 0, 0, 63, 64, ⟨9000, none, some 30⟩, some 500, true⟩

theorem witness_SearchesJoinAndAreTaken :
    (campus.taken (.place 1 search) = some (asked campus 0x50, ⟨1, 0x50, false⟩) ∧ placeFormOk search = true ∧
        formSpan (asked campus 0x50).clock.minute search.span none = some ⟨9000, 9030, false, false⟩ ∧
        (asked campus 0x50).placement.general < 3) ∧
      (fullQueue.taken (.place 1 search) = some (asked fullQueue 0x50, ⟨1, 0x50, false⟩) ∧
        3 ≤ (asked fullQueue 0x50).placement.general) ∧
      (campus.taken (.placeAndBook 1 ⟨{ search with covers := none }, 1, some 1, some [65], some ⟨500, [⟨31, 255⟩]⟩⟩) =
          some (asked campus 0x51, ⟨1, 0x51, false⟩) ∧
        placeFormOk { search with covers := none } = true ∧ noteOk (some [65]) = true ∧ codeOk (some 1) = true ∧
        orderOptOk (some ⟨500, [⟨31, 255⟩]⟩) = true) ∧
      ({ campus with placement := { campus.placement with queue := [{ lunchEntry with isRunning := false }] } } : State).placement.queue =
        [] ++ { lunchEntry with isRunning := false } :: [] ∧ campus.placement.search = none :=
  ⟨⟨taken_asked rfl rfl (by decide), by decide⟩, ⟨taken_asked rfl rfl (by decide), by decide⟩,
    ⟨taken_asked rfl rfl (by decide), by decide⟩, by decide +kernel⟩

/-- The engine searching for an entry, with its search. -/
def searching (e : QueueEntry) (x : Search) (s : State) : State :=
  { s with placement := { s.placement with queue := [e], search := some x } }

theorem witness_SearchReachesOneRoomAtATime :
    (let s := searching lunchEntry { lunch with cursor := 77 } lunchRooms;
        s.placement.search = some { lunch with cursor := 77 } ∧ s.runningEntry { lunch with cursor := 77 } = some lunchEntry ∧
          (s.room 77).inTable = true ∧ lunch.complete = false ∧
          s.roomTests lunchEntry 0x06 lunch.row 77 = .error .catering) ∧
      (campus.room 511).inTable = false ∧
      (let e : QueueEntry := { lunchEntry with inputs := { lunchEntry.inputs with catering := .none_, relax := true } };
        (searching e { lunch with cursor := 511 } lunchRooms).roomTests e 0x04 lunch.row 77 = .ok none ∧
          lunch.needs.getLsbD 2 = true ∧ (∀ j < 16, 2 < j → lunch.needs.getLsbD j = false)) := by
  decide +kernel

/-- The conditions of the six tests, each met and each failed, over rooms of the campus. -/
theorem witness_SearchReachesOneRoomAtATime_tests :
    (((putRoom 0 { roomOf 0 8 0 with service := .closing } campus).room 0).service ≠ .inService ∧
        ((putRoom 0 { roomOf 0 8 0 with closure := some ⟨9119, 9200, .displace, true⟩ } campus).room 0).closure =
          some ⟨9119, 9200, .displace, true⟩) ∧
      ((campus.room 0).service = .inService ∧ (campus.room 0).closure = none ∧ (0x4 : Caps).getLsbD 2 = true ∧
        (campus.room 0).caps.getLsbD 2 = false ∧
        (∀ i, i < 16 → (0x2 : Caps).getLsbD i = true → (campus.room 0).caps.getLsbD i = true) ∧
        (campus.room 0).seats < 11 ∧ 10 ≤ (campus.room 0).seats) ∧
      ((campus.panel 0).boundTo = some 0 ∧ lunch.row.getD (campus.room 0).building 0 ≤ 63) ∧
      ((put plain campus).blocker 0 none 9060 9120 ≠ none ∧ (put plain campus).blocker 0 (some ⟨0, 1⟩) 9060 9120 = none) ∧
      ((campus.kitchen 0).reach.getD 0 none = some 6 ∧ (campus.kitchen 0).reach.getD 1 none = none) ∧
      (campus.beyond 20 = true ∧ (∀ k, k < 8 → campus.serves k 1 = none) ∧ campus.serves 0 0 = some 6 ∧
        (∀ j, j < 8 → 0 < j → campus.serves j 0 = none)) ∧
      (campus.beyond 6 = false ∧ campus.planAt 9000 51 9120 0 = none ∧
        campus.planAt 9000 50 9120 0 = some ⟨0, ⟨6, 31⟩, 9109, 9049⟩) := by decide +kernel

theorem witness_CandidatesRankedAndScored :
    (let c (r n : Nat) : Candidate := ⟨r, 3, n, 20, 0, 0, 0, 0, none, none, none, none⟩;
        [c 1 4, c 2 4, c 7 8, c 9 8].Pairwise (fun a b =>
          a.score < b.score ∨ a.score = b.score ∧ (a.seats < b.seats ∨ a.seats = b.seats ∧ a.room < b.room)) ∧
          (∀ x ∈ [c 1 4, c 2 4, c 7 8, c 9 8], x.room ≠ (c 3 4).room) ∧ [c 1 4, c 2 4, c 7 8, c 9 8].length ≤ 4 ∧
          c 10 8 ∉ rankIn (c 10 8) [c 1 4, c 2 4, c 7 8, c 9 8] ∧
          (∀ x ∈ [c 1 4, c 2 4, c 7 8, c 9 8], x.before (c 10 8) = true) ∧
          (∀ x ∈ [c 1 4, c 2 4], x.before (c 3 4) = true) ∧ (∀ x ∈ [c 7 8, c 9 8], (c 3 4).before x = true)) ∧
      (lunch.weights.wF ≤ 15 ∧ (∀ d ∈ lunch.row, d ≤ 63) ∧ 1 ≤ lunchEntry.inputs.headCount ∧
        lunchEntry.inputs.headCount ≤ (lunchRooms.room 77).seats ∧ (lunchRooms.room 77).seats ≤ 400) := by decide +kernel

/-- The candidate that room 40 makes of the lunch search. -/
def room40 : Candidate := ⟨40, 3, 12, 24, 10, 0, 1, 6, none, none, none, none⟩

/-- A search for lunch without catering, complete, whose list is `l`. -/
def found (l : List Candidate) : Search := { lunch with complete := true, needs := 0x04, candidates := l }

def placing : QueueEntry :=
  { lunchEntry with
    kind := .placeAndBook
    inputs := { lunchEntry.inputs with catering := .none_, book := some ⟨0x5150, none, [], none⟩ } }

theorem witness_CompletedSearchesAreSettled :
    (let s := searching lunchEntry (found []) lunchRooms;
        s.placement.search = some (found []) ∧ s.runningEntry (found []) = some lunchEntry ∧ (found []).complete = true ∧
          lunchEntry.id = (found []).request ∧ lunchEntry.kind = .place ∧ lunchEntry.client = .host ⟨1, 0x50, false⟩) ∧
      (let e : QueueEntry := { lunchEntry with kind := .findNearby, client := .panel 127 };
        (searching e (found []) campus).runningEntry (found []) = some e ∧
          127 < (searching e (found []) campus).panelBus.panels.length) ∧
      (let s := searching placing (found [room40]) lunchRooms;
        s.runningEntry (found [room40]) = some placing ∧ placing.inputs.book = some ⟨0x5150, none, [], none⟩ ∧
          s.stackCounted = true ∧ s.dir.fifo.head? = some 3 ∧ s.bookingAt 3 = none ∧
          (s.dir.entries.getD 3 ⟨0, none⟩).generation < 256 ∧ s.clock.minute ≤ placing.inputs.startGiven ∧
          s.seriesScope (placing.inputs.startMin / 1440) = false) ∧
      placing.inputs.startGiven < (atTime 29521 0 campus).clock.minute := by decide +kernel

/-- The first candidate's room was taken out of the table after the search, the second still passes; and neither does. -/
theorem witness_CompletedSearchesAreSettled_placed :
    let gone : Candidate := { room40 with room := 41 }
    let s := searching placing (found [gone, room40]) lunchRooms
    s.placement.search = some (found [gone, room40]) ∧ s.runningEntry (found [gone, room40]) = some placing ∧
      placing.kind = .placeAndBook ∧ (found [gone, room40]).candidates = [gone] ++ room40 :: [] ∧
      s.clock.minute ≤ placing.inputs.startGiven ∧ s.seriesScope (placing.inputs.startMin / 1440) = false ∧
      (s.room 41).inTable = false ∧ (s.room 40).inTable = true ∧ s.roomTests placing 0x04 lunch.row 40 = .ok none ∧
      s.dir.fifo.head? = some 3 ∧ 40 < s.rooms.length ∧ 64 + 1 ≤ s.store.freeCount ∧
      (putRoom 40 { roomOf 3 12 0 with service := .closed } s).roomTests placing 0x04 lunch.row 40 = .error .service ∧
      s.planningScope (placing.inputs.startMin / 1440) = false ∧
      ({ s with catering := { s.catering with walk := some ⟨7, [20]⟩ } } : State).planningScope 20 = true := by decide +kernel

theorem witness_NearbySearchesAndWithdrawals :
    (door.panel < campus.panelBus.panels.length ∧ campus.running = true ∧ campus.catching = false ∧ door.kind = .room ∧
        campus.placement.general < 3) ∧
      (fullQueue.running = true ∧ 3 ≤ fullQueue.placement.general) ∧ hatch.kind = .kitchen ∧
      (let e : QueueEntry := { lunchEntry with kind := .findNearby, client := .panel 0 };
        (searching e lunch campus).placement.queue.find? (fun x => x.id = 0 && x.client = .panel 0) = some e) ∧
      campus.placement.queue.find? (fun x => x.id = 0 && x.client = .panel 0) = none := by decide +kernel

/-- An IN_USE booking of room 0 on WATCH channel 255. -/
def watchedOn (st : ChannelState) (left : Nat) : State :=
  setChannel 255 ⟨st, .watch, some ⟨0, 1⟩, left⟩ (put { plain with state := .inUse, timer := some 255 } campus)

theorem witness_ChannelsCountAndExpire :
    (campus.owed.seconds = 0 ∧ ({ campus with owed := { Owed.nothing with seconds := 1 } } : State).owed.seconds ≠ 0) ∧
      (let s := awaitingOn .running;
        3 < s.bank.channels.length ∧ s.channel 3 = ⟨.running, .window, some ⟨0, 1⟩, 0⟩ ∧
          s.lookup ⟨0, 1⟩ = .found { plain with state := .awaiting, timer := some 3 } ∧ 0 < s.rooms.length) ∧
      (let s := watchedOn .running 0;
        255 < s.bank.channels.length ∧ s.channel 255 = ⟨.running, .watch, some ⟨0, 1⟩, 0⟩ ∧
          s.lookup ⟨0, 1⟩ = .found { plain with state := .inUse, timer := some 255 }) := by decide +kernel

/-- A second event owed: it takes the last second of the WATCH of 1.1, and one of the 120 of the WINDOW of 0.1. -/
theorem witness_ChannelsCountAndExpire_second :
    let s : State := { ticking with owed := { Owed.nothing with seconds := 1 } }
    s.owed.seconds ≠ 0 ∧ s.shaped = true ∧ s.handlesAgree ∧ s.channelsRight ∧
      ((s.channel 1).state = .running ∧ (s.channel 1).remaining ≤ 1 ∧ (s.channel 1).booking = some ⟨1, 1⟩ ∧
        (s.channel 1).mode = .watch ∧
        s.lookup ⟨1, 1⟩ = .found { plain with handle := ⟨1, 1⟩, head := 1, room := 1, state := .inUse, timer := some 1 }) ∧
      ((s.channel 0).state = .running ∧ 1 < (s.channel 0).remaining ∧ (s.channel 0).mode = .window) ∧
      (s.channel 2).state ≠ .running ∧ (s.channel 1).remaining = 1 :=
  have h := sound_owed { Owed.nothing with seconds := 1 } ticking_sound
  ⟨by decide, h.shaped, h.handles, h.channels, by decide⟩

/-- The opening minute of both bookings of `pair`, whose panels are available, with every channel FREE. -/
theorem witness_WindowsOpenAtTheirMinute_rooms :
    let s : State := { booked with owed := { Owed.nothing with openings := [9055] } }
    s.owed.openings = 9055 :: [] ∧ s.shaped = true ∧ s.timelinesRight ∧ s.bookingAt 0 = some plain ∧
      s.bookingAt 1 = some { plain with handle := ⟨1, 1⟩, head := 1, room := 1 } ∧ plain.startMin = 9055 + (s.room 0).earlyOpen ∧
      s.panelAvailable 0 = true ∧ s.panelAvailable 1 = true ∧ (s.channel 1).state = .free ∧
      (((s.openWindow 0).openWindow 1).bookingAt 0).map Booking.timer = some (some 0) ∧
      (((s.openWindow 0).openWindow 1).bookingAt 1).map Booking.timer = some (some 1) :=
  have h := sound_owed { Owed.nothing with openings := [9055] } booked_sound
  ⟨rfl, h.shaped, h.timelines, by decide +kernel⟩

theorem witness_WindowsOpenAtTheirMinute :
    ((put plain campus).bookingAt 0 = some plain ∧ 0 < (put plain campus).bank.channels.length ∧
        ((put plain campus).channel 0).state = .free) ∧
      (let s : State := { put plain campus with bank := ⟨List.replicate 256 ⟨.paused, .watch, none, 1⟩, 255⟩ };
        s.bookingAt 0 = some plain ∧ ∀ c < 256, (s.channel c).state ≠ .free) ∧
      (let s : State := { put plain campus with owed := { Owed.nothing with openings := [9055] } };
        s.owed.openings = 9055 :: [] ∧ s.bookingAt 0 = some plain ∧ (s.room 0).timeline = [⟨0, 1⟩] ∧
          plain.startMin = 9055 + (s.room 0).earlyOpen ∧ s.panelAvailable 0 = true) ∧
      (let b : Booking := { plain with room := 1 };
        (put b campus).panelAvailable 1 = false ∧ ((put b campus).room 1).timeline = [⟨0, 1⟩]) := by decide +kernel

/-- No other room of the campus has a timeline. -/
theorem witness_WindowsOpenAtTheirMinute_alone : ∀ q, q ≠ 0 → ((put plain campus).room q).timeline = [] := by
  intro q hq
  match q with
  | 0 => exact absurd rfl hq
  | 1 => rfl
  | q + 2 =>
    have h : (put plain campus).room (q + 2) = (List.replicate 510 Room.absent).getD q Room.absent := rfl
    rw [h, List.getD_eq_getElem?_getD, List.getElem?_replicate]
    split <;> rfl

theorem witness_CheckInsAreDecided :
    (let s := awaitingOn .running;
        s.running = true ∧ s.catching = false ∧ s.lookup ⟨0, 1⟩ = .found { plain with state := .awaiting, timer := some 3 } ∧
          plain.room = door.target ∧ (s.room 0).timeline.head? = some ⟨0, 1⟩ ∧ (s.room 0).who = .anyone) ∧
      ((checkInCase.room 0).who = .organiser ∧
        checkInCase.lookup ⟨0, 1⟩ = .found { plain with state := .awaiting, timer := some 3, organiser := 0x3A07 }) ∧
      (put plain campus).lookup ⟨0, 1⟩ = .found plain ∧
      (put { plain with state := .released } campus).lookup ⟨0, 1⟩ = .found { plain with state := .released } ∧
      (let s := put { plain with state := .awaiting } (put { plain with handle := ⟨1, 1⟩, startMin := 9000, endMin := 9050 } campus);
        s.lookup ⟨0, 1⟩ = .found { plain with state := .awaiting } ∧ (s.room 0).timeline.head? ≠ some ⟨0, 1⟩) := by
  decide +kernel

theorem witness_ReadingsSetTheWatch :
    campus.timelineOf 0 = [] ∧
      (let s := watchedOn .paused 600;
        s.timelineOf 0 = { plain with state := .inUse, timer := some 255 } :: [] ∧ 255 < s.bank.channels.length ∧
          s.channel 255 = ⟨.paused, .watch, some ⟨0, 1⟩, 600⟩ ∧ (s.room 0).absenceLimit ≠ 0 ∧
          599 < (s.room 0).absenceLimit * 60 ∧ (s.room 0).absenceLimit * 60 ≤ 600 ∧
          s.lookup ⟨0, 1⟩ = .found { plain with state := .inUse, timer := some 255 }) := by decide +kernel

/-- A room with auto_checkin whose booking is AWAITING on channel 3, and an IN_USE one of a room without an absence limit. -/
theorem witness_ReadingsSetTheWatch_checkin :
    (let s := putRoom 0 { campus.room 0 with autoCheckin := true, timeline := [⟨0, 1⟩] } (awaitingOn .running);
        s.timelineOf 0 = { plain with state := .awaiting, timer := some 3 } :: [] ∧ (s.room 0).autoCheckin = true ∧
          s.bookingAt 0 = some { plain with state := .awaiting, timer := some 3 } ∧ 3 < s.bank.channels.length ∧
          (s.room 0).absenceLimit ≠ 0) ∧
      ((awaitingOn .running).timelineOf 0 = { plain with state := .awaiting, timer := some 3 } :: [] ∧
        ((awaitingOn .running).room 0).autoCheckin = false) ∧
      (let s := putRoom 0 { campus.room 0 with absenceLimit := 0, timeline := [⟨0, 1⟩] } (watchedOn .running 600);
        s.timelineOf 0 = { plain with state := .inUse, timer := some 255 } :: [] ∧ (s.channel 255).mode = .watch ∧
          (s.channel 255).state = .running ∧ (s.room 0).absenceLimit = 0 ∧
          s.bookingAt 0 = some { plain with state := .inUse, timer := some 255 }) := by decide +kernel

theorem witness_ChannelsFollowThePanel :
    (let s := watchedOn .running 600;
        s.bank.channels.length = 256 ∧ s.channelBookingIn 255 0 = some { plain with state := .inUse, timer := some 255 } ∧
          (s.channel 255).state = .running ∧ s.channelBookingIn 0 0 = none) ∧
      (let b : Booking := { plain with state := .awaiting, timer := some 3 };
        let s := setChannel 3 ⟨.suspended, .window, some ⟨0, 1⟩, 1⟩ (put b campus);
        s.channelBookingIn 3 0 = some b ∧ 0 < s.secondsTo b.endMin ∧
          ∀ c < 256, c ≠ 3 → s.channelBookingIn c 0 = none) := by decide +kernel

theorem witness_ReadingsAnswerAndChangeNothing :
    campus.taken (.readTime 1) = some (asked campus 0x04, ⟨1, 0x04, false⟩) ∧
      campus.taken (.readStore 1) = some (asked campus 0x20, ⟨1, 0x20, false⟩) ∧
      ({ campus with store := { campus.store with walk := some ⟨7, .entry 8191⟩ } } : State).store.walk = some ⟨7, .entry 8191⟩ ∧
      (campus.taken (.readRoom 1 512) = some (asked campus 0x13, ⟨1, 0x13, false⟩) ∧ ((asked campus 0x13).room 511).inTable = false ∧
        ((asked campus 0x13).room 1).inTable = true) ∧
      (campus.taken (.readKitchen 1 8) = some (asked campus 0x17, ⟨1, 0x17, false⟩) ∧
        ((asked campus 0x17).kitchen 7).inTable = false ∧ ((asked campus 0x17).kitchen 0).inTable = true) ∧
      campus.taken (.readPanel 1 128) = some (asked campus 0x75, ⟨1, 0x75, false⟩) ∧
      (campus.taken (.readLoad 1 7 19 95 (some 1)) = some (asked campus 0x83, ⟨1, 0x83, false⟩) ∧
        (asked campus 0x83).held 19 = true ∧ (asked campus 0x83).held 20 = false) ∧
      campus.taken (.readTimers 1) = some (asked campus 0x60, ⟨1, 0x60, false⟩) ∧
      catchingUp.taken (.readRetention 1) = some (asked catchingUp 0xB0, ⟨1, 0xB0, false⟩) ∧
      campus.taken (.readPlacement 1) = some (asked campus 0x52, ⟨1, 0x52, false⟩) ∧
      closeCase.taken (.readSweep 1) = some (asked closeCase 0x92, ⟨1, 0x92, false⟩) :=
  ⟨taken_asked rfl rfl (by decide), taken_asked rfl rfl (by decide), rfl, ⟨taken_asked rfl rfl (by decide), by decide +kernel⟩, ⟨taken_asked rfl rfl (by decide), by decide +kernel⟩,
    taken_asked rfl rfl (by decide), ⟨taken_asked rfl rfl (by decide), by decide +kernel⟩, taken_asked rfl rfl (by decide),
    taken_asked rfl rfl (by decide), taken_asked rfl rfl (by decide), taken_asked rfl rfl (by decide)⟩

/-- Panel 0 with its record changed, and port 0 in a phase of a transaction with it. -/
def withPanel (f : Panel → Panel) (s : State) : State :=
  { s with panelBus := { s.panelBus with panels := s.panelBus.panels.modify 0 f } }

def inPhase (ph : PortPhase) (s : State) : State :=
  { s with panelBus := { s.panelBus with ports := s.panelBus.ports.set 0 ⟨ph, 0, false, false, []⟩ } }

theorem witness_PanelsBoundUnboundAndBarred_bind :
    catchingUp.taken (.bindPanel 1 127 0 1) = some (asked catchingUp 0x70, ⟨1, 0x70, false⟩) ∧
      campus.taken (.bindPanel 1 128 0 1) = some (asked campus 0x70, ⟨1, 0x70, false⟩) ∧
      (campus.taken (.bindPanel 1 127 0 1) = some (asked campus 0x70, ⟨1, 0x70, false⟩) ∧
        ((asked campus 0x70).room 1).inTable = true ∧ ((asked campus 0x70).panel 127).state = .unbound ∧
        ((asked campus 0x70).room 1).panel = none ∧ 127 < (asked campus 0x70).panelBus.panels.length ∧
        1 < (asked campus 0x70).rooms.length ∧ ((asked campus 0x70).panel 0).state ≠ .unbound ∧
        ((asked campus 0x70).room 511).inTable = false) ∧
      (campus.taken (.bindPanel 1 127 1 0) = some (asked campus 0x70, ⟨1, 0x70, false⟩) ∧
        ((asked campus 0x70).kitchen 0).inTable = true ∧ ((asked campus 0x70).kitchen 0).terminals.length < 2) ∧
      2 ≤ ((asked { campus with kitchens := campus.kitchens.modify 0 fun k => { k with terminals := [1, 2] } } 0x70).kitchen
        0).terminals.length :=
  ⟨taken_asked rfl rfl (by decide), taken_asked rfl rfl (by decide), ⟨taken_asked rfl rfl (by decide), by decide +kernel⟩,
    ⟨taken_asked rfl rfl (by decide), by decide +kernel⟩, by decide +kernel⟩

theorem witness_PanelsBoundUnboundAndBarred_hold :
    (campus.taken (.unbind 1 0) = some (asked campus 0x71, ⟨1, 0x71, false⟩) ∧ ((asked campus 0x71).panel 0).state ≠ .unbound ∧
        ((asked campus 0x71).panel 0).hold = none ∧ ((asked campus 0x71).port 0).phase = .idle) ∧
      ((inPhase .polling campus).taken (.unbind 1 0) = some (asked (inPhase .polling campus) 0x71, ⟨1, 0x71, false⟩) ∧
        ((asked (inPhase .polling campus) 0x71).port 0).panel = 0 ∧ ((inPhase .polling campus).port 0).phase ≠ .idle) ∧
      campus.taken (.bar 1 127) = some (asked campus 0x72, ⟨1, 0x72, false⟩) ∧
      ((withPanel (fun p => { p with slot := .pending 4 }) campus).taken (.bar 1 0) =
          some (asked (withPanel (fun p => { p with slot := .pending 4 }) campus) 0x72, ⟨1, 0x72, false⟩) ∧
        ((withPanel (fun p => { p with slot := .pending 4 }) campus).panel 0).state ≠ .barred) ∧
      ((withPanel (fun p => { p with state := .barred }) campus).taken (.unbar 1 0) =
          some (asked (withPanel (fun p => { p with state := .barred }) campus) 0x73, ⟨1, 0x73, false⟩) ∧
        ((asked (withPanel (fun p => { p with state := .barred }) campus) 0x73).panel 0).state = .barred) ∧
      (campus.taken (.setPoll 1 127 6) = some (asked campus 0x74, ⟨1, 0x74, false⟩) ∧ (asked campus 0x74).catching = false) ∧
      ((withPanel (fun p => { p with hold := some ⟨.bar, ⟨1, 0x72, false⟩⟩ }) campus).panel 0).hold =
        some ⟨.bar, ⟨1, 0x72, false⟩⟩ :=
  ⟨⟨taken_asked rfl rfl (by decide), by decide +kernel⟩, ⟨taken_asked rfl rfl (by decide), by decide +kernel⟩,
    taken_asked rfl rfl (by decide), ⟨taken_asked rfl rfl (by decide), by decide +kernel⟩,
    ⟨taken_asked rfl rfl (by decide), by decide +kernel⟩, ⟨taken_asked rfl rfl (by decide), by decide⟩, by decide +kernel⟩

/-- A REPLY of panel 0 (address 1) that carries nothing, and one that carries CHECK_IN. -/
def quietReply : List Byte := withCheck [1, 2, 40, 0, 1, 5, 0, 101, 0]
def checkInReply : List Byte := withCheck [1, 2, 40, 1, 2, 5, 0, 100, 7, 0x50, 0x51, 0, 0, 0, 0, 1]

/-- A panel whose view, of sequence 40, is valid and whose acked_seq is UNKNOWN. -/
def viewUnknown (p : Panel) : Panel := { p with active := some (.view (campus.buildView 0)), viewSeq := 40, ackedSeq := none }

/-- R105, R112, R117, log 60: after UNKNOWN a REPLY that reports view_seq is followed by the view all the same. -/
theorem test_unknown_forces_view :
    gives (exec (.reply 0 quietReply) (inPhase .polling (withPanel viewUnknown campus))) (fun t =>
      (t.port 0).phase = .following && (t.panel 0).ackedSeq = some 40 && (t.panel 0).viewForced) = true := by decide +kernel

/-- R111, R117: the REPLY to that view ends what UNKNOWN forces, and a later REPLY to a POLL is followed by none. -/
theorem test_forced_view_sent_once :
    gives (exec (.followUpReply 0 quietReply) (inPhase .following (withPanel (fun p =>
      { viewUnknown p with ackedSeq := some 40, viewForced := true }) campus))) (fun t =>
        (t.port 0).phase = .idle && !(t.panel 0).viewForced &&
          gives (exec (.reply 0 quietReply) (inPhase .polling t)) (fun u => (u.port 0).phase = .idle)) = true := by decide +kernel

theorem witness_PanelsPolledAndAnswered :
    (let s := withPanel (fun p => { p with sincePoll := 5 }) campus;
        (0 : Nat) < s.panelBus.ports.length ∧ (s.port 0).phase = .idle ∧ (s.panel 0).due = true ∧
          (∀ q < 32, (s.panel q).hold = none) ∧ (∀ q < 32, (s.panel q).due = true → q = 0)) ∧
      (∀ q < 32, (campus.panel q).due = false) ∧
      validReply 0 quietReply = some ⟨40, 0, 1, 5, 101, []⟩ ∧
      validReply 0 checkInReply = some ⟨40, 1, 2, 5, 100, [0x50, 0x51, 0, 0, 0, 0, 1]⟩ ∧
      panelCommand door 1 [0x50, 0x51, 0, 0, 0, 0, 1] = some (.checkIn door 0x5150 (some ⟨0, 1⟩)) ∧
      panelCommand door 10 [] = none ∧
      (((inPhase .polling campus).port 0).phase = .polling ∧ ((inPhase .polling campus).port 0).panel = 0) ∧
      ((inPhase .following campus).port 0).phase = .following ∧
      ((inPhase .polling (withPanel (fun p => { p with state := .late, misses := 2 }) campus)).panel 0).misses + 1 = 3 ∧
      (let s := inPhase .serving campus;
        (s.port 0).phase = .serving ∧ (s.port 0).panel = 0 ∧ (s.port 0).followed = false ∧
          (∀ c ∈ s.handed, isRequestOf 0 c = false) ∧
          ∃ c ∈ ({ s with handed := [.findNearby door] } : State).handed, isRequestOf 0 c = true) ∧
      ({ (inPhase .serving campus).port 0 with followed := true } : Port).followed = true ∧
      (let s := withPanel viewUnknown campus;
        ((inPhase .polling s).panel 0).ackedSeq = none ∧ ((inPhase .polling s).panel 0).active ≠ none ∧
          ((inPhase .polling s).port 0).phase = .polling ∧
          (s.panel 0).viewSeq = 40 ∧ ((inPhase .serving s).panel 0).active.isSome = true ∧ ((inPhase .serving s).port 0).followed = false ∧
          ((inPhase .serving s).panel 0).ackedSeq ≠ some ((inPhase .serving s).panel 0).viewSeq) ∧
      ((campus.panel 0).viewForced = false ∧
        ((withPanel (fun p => { p with ackedSeq := some 40 }) campus).panel 0).ackedSeq ≠ none) := by
  decide +kernel

theorem witness_ViewsAndListsBuilt :
    (campus.room 1).panel = none ∧
      ((campus.room 0).panel = some 0 ∧ 0 < campus.panelBus.panels.length ∧ (campus.panel 0).active = none) ∧
      (let s := withPanel (fun p => { p with active := some (.view (campus.buildView 0)) }) campus;
        (s.panel 0).active = some (.view (s.buildView 0))) ∧
      (let v := (put plain campus).buildView 0;
        let s := withPanel (fun p => { p with active := some (.view (campus.buildView 0)), power := .critical }) (put plain campus);
        (s.panel 0).power = .critical ∧ (s.panel 0).active ≠ some (.view v) ∧ (campus.buildView 0).current = v.current) ∧
      (let s := withPanel (fun p => { p with power := .saving, viewDeferred := true, sinceView := 900 }) campus;
        (s.panel 0).viewDeferred = true ∧ 900 ≤ (s.panel 0).sinceView ∧ (s.panel 0).active ≠ some (.view (s.buildView 0))) ∧
      (1 ∈ (campus.kitchen 0).terminals ∧ 7 < campus.kitchens.length) ∧
      ((awaitingOn .running).timelineOf 0 = { plain with state := .awaiting, timer := some 3 } :: []) ∧
      (let s := put plain (putRoom 0 { roomOf 0 8 5 with closure := some ⟨9001, 9300, .relocate, true⟩ } campus);
        s.timelineOf 0 = plain :: [] ∧ (s.buildView 0).current = none ∧ (s.room 0).service = .inService ∧
          (s.timelineOf 0).find? (fun b => s.clock.minute < b.startMin) = some plain ∧
          (s.room 0).closure = some ⟨9001, 9300, .relocate, true⟩ ∧ s.clock.minute < 9001) := by decide +kernel

theorem witness_WalkUpsMade :
    (campus.running = true ∧ campus.catching = false ∧ (campus.room 0).inTable = true ∧ (campus.room 0).closedNow 9000 = false ∧
        campus.inTheWay 0 9000 = none ∧ campus.turnoverUntil 0 9000 = none ∧ campus.dir.fifo.head? = some 3 ∧
        66 ≤ campus.store.freeCount ∧ (campus.timelineOf 0).find? (fun b => 9000 < b.startMin) = none ∧
        (campus.room 0).closure = none) ∧
      ((put plain campus).timelineOf 0).find? (fun b => 9000 < b.startMin) = some plain ∧
      (put { plain with startMin := 9020 } campus).inTheWay 0 9000 = none ∧ (9015 : Nat) - 9015 % 5 = 9000 + 15 ∧
      ((putRoom 0 { roomOf 0 8 0 with service := .closed, closure := some ⟨9000, 9001, .displace, true⟩ } campus).room 0).closedNow
        9000 = true ∧
      (put { plain with startMin := 8990, endMin := 9001 } campus).inTheWay 0 9000 =
        some { plain with startMin := 8990, endMin := 9001 } ∧
      (let s := put { plain with startMin := 8990, endMin := 9000, state := .booked } campus;
        s.inTheWay 0 9000 = none ∧ s.turnoverUntil 0 9000 = some 9005) := by decide +kernel

theorem witness_MeetingsExtendAndEndNow :
    (let s := watchedOn .paused 600;
        s.running = true ∧ s.catching = false ∧ s.lookup ⟨0, 1⟩ = .found { plain with state := .inUse, timer := some 255 } ∧
          (s.timelineOf 0).find? (fun x => 9060 < x.startMin) = none ∧ (s.room 0).closure = none ∧
          (9135 : Nat) - 9135 % 5 = 9120 + 15) ∧
      (let s := put { plain with handle := ⟨1, 1⟩, startMin := 9125, endMin := 9150 } (watchedOn .paused 600);
        (s.timelineOf 0).find? (fun x => 9060 < x.startMin) =
          some { plain with handle := ⟨1, 1⟩, startMin := 9125, endMin := 9150 } ∧ 9125 - (s.room 0).turnover < 9120 + 5) ∧
      (put plain campus).lookup ⟨0, 1⟩ = .found plain ∧
      (put { plain with state := .ended } campus).lookup ⟨0, 1⟩ = .found { plain with state := .ended } ∧
      (put { plain with state := .released } campus).lookup ⟨0, 1⟩ = .found { plain with state := .released } := by
  decide +kernel

theorem witness_OrdersArePlaced :
    campus.planAt 9000 50 9120 0 = some ⟨0, ⟨6, 31⟩, 9109, 9049⟩ ∧ campus.planAt 9000 51 9120 0 = none ∧
      ((put plain campus).taken (.order 1 ⟨0, 1⟩ ⟨50, [⟨31, 255⟩]⟩) = some (asked (put plain campus) 0x80, ⟨1, 0x80, false⟩) ∧
        (let s1 := asked (put { plain with startMin := 9120, endMin := 9150 } campus) 0x80;
          s1.lookup ⟨0, 1⟩ = .found { plain with startMin := 9120, endMin := 9150 } ∧ orderOk ⟨50, [⟨31, 255⟩]⟩ = true ∧
            s1.planningScope 6 = false ∧ s1.store.free.head? = some 100 ∧ 65 ≤ s1.store.freeCount ∧
            (s1.room 0).foodAllowed = true ∧ s1.beyond 6 = false ∧ s1.loadsShaped = true ∧ 0 < s1.kitchens.length)) ∧
      (campus.beyond 19 = false ∧ campus.beyond 20 = true) ∧
      (putRoom 0 (roomOf 0 8 0) campus).room 0 ≠ campus.room 0 ∧
      ({ campus with catering := { campus.catering with walk := some ⟨7, [20]⟩ } } : State).planningScope 20 = true ∧
      (asked (put { plain with state := .awaiting } campus) 0x80).lookup ⟨0, 1⟩ = .found { plain with state := .awaiting } :=
  ⟨by decide +kernel, by decide +kernel, ⟨taken_asked rfl rfl (by decide), by decide +kernel⟩, by decide +kernel⟩

/-- The natural window of a start of 09:20 on day 6 holds 50 covers and no more. -/
theorem witness_OrdersArePlaced_fits :
    campus.beyond (9120 / 1440) = false ∧ campus.fits 9000 50 9120 0 0 0 ∧ campus.planAt 9000 50 9120 0 ≠ none ∧
      campus.serves 0 0 = some 6 ∧ campus.planAt 9000 51 9120 0 = none :=
  ⟨by decide, ⟨by decide, 6, by decide +kernel⟩, by decide +kernel⟩

/-- AMEND that moves 0.1 with its order: a PLANNED one that finds a window, one of a room without food, one to a day beyond the
horizon, and one whose order stays as it is. -/
theorem witness_OrdersChangeAndAreVoided_amend :
    let b (st : OrderState) : Booking := { plain with startMin := 9120, endMin := 9150, order := some (counted st) }
    let s1 := asked (put (b .planned) campus) 0x31
    (put (b .planned) campus).taken (.amend 1 (moving (some 9180) none)) = some (s1, ⟨1, 0x31, false⟩) ∧
      (s1.running = true ∧ s1.catching = false ∧ s1.lookup ⟨0, 1⟩ = .found (b .planned) ∧
        amendFormOk (moving (some 9180) none) = true ∧
        amendSpan s1.clock.minute (moving (some 9180) none) (b .planned) = some ⟨9180, 9210, false, false⟩ ∧
        (s1.room 0).inTable = true ∧ (s1.room 0).closedFor 9180 9210 = false ∧ s1.blocker 0 (some ⟨0, 1⟩) 9180 9210 = none ∧
        s1.seriesScope 6 = false ∧ s1.planningScope 6 = false ∧ (s1.room 0).foodAllowed = true ∧ s1.beyond 6 = false ∧
        ((s1.setUncounted ⟨0, 1⟩ .unplaced none).planAt s1.clock.minute 10 9180 0).isSome = true) ∧
      (amendSpan s1.clock.minute (moving (some 28800) none) (b .planned) = some ⟨28800, 28830, false, false⟩ ∧
        s1.beyond 20 = true ∧ s1.planningScope 20 = false) ∧
      ((put (b .planned) (putRoom 0 (roomOf 0 8 5) campus)).room 0).foodAllowed = false ∧
      ({ moving (some 9180) none with dropCatering := true } : AmendForm).dropCatering = true ∧
      (∀ st ∈ [OrderState.committed, .dispatched, .voided, .delivered, .stranded, .discarded, .requested, .unplaced],
        (asked (put (b st) campus) 0x31).lookup ⟨0, 1⟩ = .found (b st)) ∧
      -- CHANGE_ORDER: the re-plan of new covers that fit, and of covers that do not
      ((asked (put (b .planned) campus) 0x81).planningScope 6 = false ∧
        ((asked (put (b .planned) campus) 0x81).setUncounted ⟨0, 1⟩ .unplaced none).planAt 9000 11 9120 0 =
          some ⟨0, ⟨6, 31⟩, 9109, 9049⟩ ∧
        ((asked (put (b .planned) campus) 0x81).setUncounted ⟨0, 1⟩ .unplaced none).planAt 9000 51 9120 0 = none) :=
  ⟨taken_asked rfl rfl (by decide), by decide +kernel⟩

theorem witness_OrdersChangeAndAreVoided :
    (let s := put { plain with order := some (tray .requested) } campus;
        s.taken (.changeOrder 1 ⟨0, 1⟩ ⟨11, [⟨0, 1⟩]⟩) = some (asked s 0x81, ⟨1, 0x81, false⟩) ∧
          s.taken (.voidOrder 1 ⟨0, 1⟩) = some (asked s 0x82, ⟨1, 0x82, false⟩)) ∧
      orderOk ⟨11, [⟨0, 1⟩]⟩ = true ∧
      ∀ st ∈ [OrderState.requested, .planned, .unplaced, .committed, .dispatched, .delivered, .stranded, .discarded, .voided],
        (asked (put { plain with order := some (counted st) } campus) 0x81).lookup ⟨0, 1⟩ =
          .found { plain with order := some (counted st) } :=
  ⟨⟨taken_asked rfl rfl (by decide), taken_asked rfl rfl (by decide)⟩, by decide, by decide +kernel⟩

theorem witness_TerminalsHandleOrders :
    (campus.running = true ∧ campus.catching = false ∧ hatch.panel < campus.panelBus.panels.length ∧
        campus.planningScope 6 = false ∧ (counted .committed).kitchen = some hatch.target) ∧
      (∀ st ∈ [OrderState.planned, .committed, .dispatched, .delivered, .stranded, .discarded],
        (put { plain with order := some (counted st) } campus).lookup ⟨0, 1⟩ = .found { plain with order := some (counted st) }) ∧
      (put { plain with state := .inUse, order := some (counted .dispatched) } campus).lookup ⟨0, 1⟩ =
        .found { plain with state := .inUse, order := some (counted .dispatched) } := by decide +kernel

/-- The planning walk of day 7 with the order of booking 0.1 at the head of the request list. -/
def planning (start : Nat) : State :=
  { put { plain with startMin := start, endMin := start + 30, order := some (tray .requested) } campus with
    catering := { campus.catering with horizon := some 7, walk := some ⟨7, [20]⟩, requestList := [⟨0, 1⟩] } }

theorem witness_OrdersCommitAndArePlanned :
    ((put { plain with order := some (counted .planned) } campus).bookingAt 0 = some { plain with order := some (counted .planned) } ∧
        (put { plain with order := some (tray .unplaced) } campus).bookingAt 0 =
          some { plain with order := some (tray .unplaced) }) ∧
      ({ campus with owed := { Owed.nothing with commits := [8989] } } : State).owed.commits = 8989 :: [] ∧
      (let s : State := { campus with owed := { Owed.nothing with plannings := [7] } };
        s.owed.plannings = 7 :: [] ∧ s.catering.walk = none ∧ s.catering.horizon = some 6 ∧ s.loadsShaped = true) ∧
      (planning 30239).catering.walk ≠ none ∧
      ((planning 30240).catering.requestList = ⟨0, 1⟩ :: [] ∧ 7 + 14 ≤ (planning 30240).startOf ⟨0, 1⟩ / 1440 ∧
        (planning 30240).catchUp = none ∧ (planning 30240).catering.pendingDay = none) ∧
      ((planning 29520).bookingAt 0 =
          some { plain with startMin := 29520, endMin := 29550, order := some (tray .requested) } ∧ 29520 / 1440 < 7 + 14 ∧
        (planning 29520).beyond 20 = false ∧ ((planning 29520).room 0).foodAllowed = true ∧
        (planning 29520).planAt 9000 10 29520 0 = some ⟨0, ⟨20, 47⟩, 29509, 29449⟩) := by decide +kernel

/-- CLOSE_ROOM of room 0 from now. -/
def closing : CloseForm := ⟨0, 9000, 9001, 1⟩

/-- A minute event for 9,200 owed to the sweep unit, with room 0 under a closure. -/
def closureDue (st : ServiceState) (c : Closure) : State :=
  { putRoom 0 { roomOf 0 8 0 with service := st, closure := some c } campus with owed := { Owed.nothing with closures := [9200] } }

theorem witness_RoomsCloseAndReopen_close :
    stopped.taken (.closeRoom 1 closing) = some (asked stopped 0x90, ⟨1, 0x90, false⟩) ∧
      catchingUp.taken (.closeRoom 1 closing) = some (asked catchingUp 0x90, ⟨1, 0x90, false⟩) ∧
      (campus.taken (.closeRoom 1 closing) = some (asked campus 0x90, ⟨1, 0x90, false⟩) ∧ (asked campus 0x90).running = true ∧
        (asked campus 0x90).catching = false ∧ ((asked campus 0x90).room 0).inTable = true ∧
        (asked campus 0x90).clock.minute ≤ closing.fromMin ∧ (asked campus 0x90).sweep.sweeping = false ∧
        (asked campus 0x90).inUseAfter 0 9000 = none ∧ 0 < (asked campus 0x90).rooms.length) ∧
      (closeCase.taken (.closeRoom 1 ⟨22, 58155, 58170, 0⟩) = some (asked closeCase 0x90, ⟨1, 0x90, false⟩) ∧
        (asked closeCase 0x90).inUseAfter 22 58155 =
          some { plain with handle := ⟨701, 0⟩, room := 22, startMin := 58110, endMin := 58170, state := .inUse }) ∧
      ({ campus with sweep := { Sweep.idle with sweeping := true, room := 511 } } : State).sweep.sweeping = true :=
  ⟨taken_asked rfl rfl (by decide), taken_asked rfl rfl (by decide), ⟨taken_asked rfl rfl (by decide), by decide +kernel⟩,
    ⟨taken_asked rfl rfl (by decide), by decide +kernel⟩, rfl⟩

theorem witness_RoomsCloseAndReopen_times :
    (campus.taken (.reopenRoom 1 1) = some (asked campus 0x91, ⟨1, 0x91, false⟩) ∧ ((asked campus 0x91).room 1).closure = none) ∧
      ((closureDue .closed ⟨9100, 9300, .displace, true⟩).taken (.reopenRoom 1 0) =
          some (asked (closureDue .closed ⟨9100, 9300, .displace, true⟩) 0x91, ⟨1, 0x91, false⟩) ∧
        ((asked (closureDue .closed ⟨9100, 9300, .displace, true⟩) 0x91).room 0).closure = some ⟨9100, 9300, .displace, true⟩) ∧
      (let s := closureDue .closed ⟨9100, 9200, .displace, true⟩;
        s.owed.closures = 9200 :: [] ∧ s.rooms.length = 512 ∧ (s.room 0).inTable = true ∧
          (s.room 0).closure = some ⟨9100, 9200, .displace, true⟩) ∧
      (let s := closureDue .inService ⟨9200, 9201, .displace, true⟩;
        (s.room 0).closure = some ⟨9200, 9201, .displace, true⟩ ∧ (s.room 0).service ≠ .closing) ∧
      (let s := closureDue .inService ⟨9100, 9300, .relocate, false⟩;
        s.sweep.sweeping = false ∧ (s.room 0).closure = some ⟨9100, 9300, .relocate, false⟩) :=
  ⟨⟨taken_asked rfl rfl (by decide), by decide +kernel⟩, ⟨taken_asked rfl rfl (by decide), by decide +kernel⟩,
    by decide +kernel⟩

/-- A sweep of room 0 under a closure with one booking. -/
def sweeping (c : Closure) (b : Booking) : State :=
  { put b (putRoom 0 { roomOf 0 8 0 with service := .closing, closure := some c } campus) with
    sweep := { Sweep.idle with sweeping := true } }

theorem witness_SweepDealsWithEachBooking :
    (let s := sweeping ⟨9120, 9200, .relocate, false⟩ plain;
        s.sweep.sweeping = true ∧ s.sweep.current = none ∧ (s.room 0).closure = some ⟨9120, 9200, .relocate, false⟩ ∧
          0 < s.rooms.length ∧ ∀ b ∈ s.timelineOf 0, ¬ (b.startMin < 9200 ∧ 9120 < b.endMin)) ∧
      (let s := sweeping ⟨9119, 9200, .relocate, false⟩ plain;
        (s.timelineOf 0).find? (fun b => b.startMin < 9200 && 9119 < b.endMin) = some plain ∧
          s.lookup ⟨0, 1⟩ = .found plain ∧ ⟨0, 1⟩ ∈ (s.room 0).timeline) ∧
      (sweeping ⟨9000, 9061, .displace, false⟩ plain).lookup ⟨0, 1⟩ = .found plain ∧
      (let e : QueueEntry := { lunchEntry with
          kind := .sweep, client := .booking ⟨0, 1⟩
          inputs := { lunchEntry.inputs with catering := .none_, needs := 0, headCount := 4, startMin := 9060, endMin := 9120 } };
        let c : Candidate := { room40 with room := 1, building := 0 };
        let s := searching e (found [c]) (sweeping ⟨9000, 9200, .relocate, false⟩ plain);
        s.runningEntry (found [c]) = some e ∧ (s.room 1).inTable = true ∧ s.roomTests e 0 lunch.row 1 = .ok none ∧
          s.lookup ⟨0, 1⟩ = .found plain ∧ 1 < s.rooms.length) ∧
      (let s : State := { sweeping ⟨9000, 9200, .relocate, false⟩ plain with
          sweep := { Sweep.idle with sweeping := true, current := some (⟨0, 1⟩, .searching), report := some (.noRoom [.span]) } };
        s.sweep.report = some (.noRoom [.span]) ∧ s.sweep.current = some (⟨0, 1⟩, .searching) ∧ s.lookup ⟨0, 1⟩ = .found plain ∧
          ⟨0, 1⟩ ∈ (s.room 0).timeline) := by decide +kernel

/-- A sweep's search whose first candidate, room 2, is full and whose second, room 1, passes, for an AWAITING booking on channel 3;
and one whose candidates all fail. -/
theorem witness_SweepDealsWithEachBooking_candidates :
    let e : QueueEntry := { lunchEntry with
      kind := .sweep, client := .booking ⟨0, 1⟩
      inputs := { lunchEntry.inputs with catering := .none_, needs := 0, headCount := 4, startMin := 9060, endMin := 9120 } }
    let c (r : Nat) : Candidate := { room40 with room := r, building := 0 }
    let b : Booking := { plain with state := .awaiting, timer := some 3 }
    let s := searching e (found [c 2, c 1]) (setChannel 3 ⟨.running, .window, some ⟨0, 1⟩, 9⟩
      (putRoom 2 { roomOf 0 3 0 with timeline := [] } (sweeping ⟨9000, 9200, .relocate, false⟩ b)))
    s.runningEntry (found [c 2, c 1]) = some e ∧ (found [c 2, c 1]).candidates = [c 2] ++ c 1 :: [] ∧
      (s.room 2).inTable = true ∧ s.roomTests e 0x04 lunch.row 2 = .error .needs ∧ (s.room 1).inTable = true ∧
      s.roomTests e 0 lunch.row 2 = .error .seats ∧ s.roomTests e 0 lunch.row 1 = .ok none ∧ s.lookup ⟨0, 1⟩ = .found b ∧
      b.room = s.sweep.room ∧ ⟨0, 1⟩ ∈ (s.room 0).timeline ∧ (s.room 0).closure = some ⟨9000, 9200, .relocate, false⟩ ∧
      1 < s.rooms.length ∧ s.catching = false ∧ 3 < s.bank.channels.length ∧
      (s.clock.minute + (s.room 1).earlyOpen < b.startMin ∧ s.panelAvailable 1 = false) ∧
      ({ plain with order := some (counted .committed) } : Booking).order = some (counted .committed) := by
  decide +kernel

/-- A frame of READ_TIME, and a link whose queues are full. -/
def timeFrame : Frame := ⟨1, 4, [], false⟩

/-- R188: an AMEND body that gives a note alone, with `n` characters after its length byte. -/
def noteAlone (n : Nat) : List Byte := [0, 0, 1, 0, 0, 0, 0, 0, 1, BitVec.ofNat 8 n] ++ List.replicate n 0x41 ++ [0]

/-- R188, log 21: the fields of AMEND give 51 bytes with a note of 40 characters and never more than 65. -/
theorem test_amend_length :
    (decodeRequest 1 0x31 (noteAlone 40)).isSome = true ∧ (decodeRequest 1 0x31 (noteAlone 54)).isSome = true ∧
      (noteAlone 54).length = 65 ∧ decodeRequest 1 0x31 (noteAlone 55) = none := by decide +kernel

theorem witness_TransfersMoveFramesAndAnswers :
    ([1, 4] : List Byte).length < 3 ∧ campus.link.requests.length < 8 ∧
      8 ≤ ({ campus with link := { campus.link with requests := List.replicate 8 timeFrame } } : State).link.requests.length ∧
      campus.link.filled = [] ∧ decodeRequest timeFrame.tag timeFrame.kind timeFrame.body = some (.readTime 1) ∧
      decodeRequest 1 5 [] = none ∧
      (let s : State := { campus with link := { campus.link with requests := [timeFrame], filled := [⟨2, 4, .ok, []⟩] } };
        s.link.requests = timeFrame :: [] ∧ s.link.used < 8 ∧ s.link.filled = ⟨2, 4, .ok, []⟩ :: []) := by decide +kernel

theorem witness_NoticesReadAndDrained :
    campus.taken (.setNoticeEnables 1 true ⟨true, true, true, true, true, true⟩) =
        some (asked campus 0xA0, ⟨1, 0xA0, false⟩) ∧
      campus.taken (.readNotices 1) = some (asked campus 0xA1, ⟨1, 0xA1, false⟩) ∧
      campus.taken (.nextChanged 1 3) = some (asked campus 0xA2, ⟨1, 0xA2, false⟩) ∧
      campus.taken (.readCounts 1) = some (asked campus 0xA3, ⟨1, 0xA3, false⟩) ∧
      (asked (put { plain with mark := true } campus) 0xA2).bookingAt 0 = some { plain with mark := true } ∧
      (asked (putSeries 1 { daily with mark := true } campus) 0xA2).seriesAt 1 = some { daily with mark := true } ∧
      ((asked (withPanel (fun p => { p with mark := true }) campus) 0xA2).panel 0).mark = true :=
  ⟨taken_asked rfl rfl (by decide), taken_asked rfl rfl (by decide), taken_asked rfl rfl (by decide),
    taken_asked rfl rfl (by decide), by decide +kernel⟩

/-- No record of the campus carries a mark, and none of its panels has a hold. -/
theorem witness_NoticesReadAndDrained_none (i : Nat) : campus.bookingAt i = none ∧ campus.seriesAt i = none := by
  constructor
  · show ((List.replicate 8192 (⟨0, none⟩ : DirEntry)).getD i ⟨0, none⟩).booking = none
    rw [List.getD_eq_getElem?_getD, List.getElem?_replicate]
    split <;> rfl
  · show ((List.replicate 1024 (none : Option Series))[i]?).join = none
    rw [List.getElem?_replicate]
    split <;> rfl

/-- Day events not yet taken, walks in flight and pending days: the latest of each owner's is its pending day (log 15). -/
theorem test_warm_reset_pending_days :
    gives (exec .warmReset { materialising 9 with
        owed := { Owed.nothing with materialisations := [8], plannings := [8] }
        store := { campus.store with walk := some ⟨7, .entry 5⟩, pendingDay := some 8 }
        catering := { campus.catering with pendingDay := some 9 } })
      (fun t => t.store.pendingDay = some 8 && t.series.pendingDay = some 8 && t.catering.pendingDay = some 9) = true := by
  decide +kernel

/-- R181: a set mark derives its flag anew, UNREAD, and CATERING stands by the mark of a booking. -/
theorem test_warm_reset_flags :
    ∀ marked ∈ [false, true],
      gives (exec .warmReset (putSeries 9 { daily with mark := true } (put { plain with mark := marked }
          { campus with notice := { campus.notice with catering := ⟨true, true⟩, panel := ⟨true, true⟩ } })))
        (fun t => t.notice.changed = ⟨marked, false⟩ && t.notice.catering = ⟨marked, false⟩ &&
          t.notice.series = ⟨true, false⟩ && t.notice.panel = ⟨false, false⟩) = true := by decide +kernel

theorem witness_WarmResetKeepsTheRecords : campus.retention = .good ∧ (∀ p, (campus.panel p).hold = none) ∧
    ({ campus with retention := .lost } : State).retention = .lost := by
  refine ⟨rfl, fun p => ?_, rfl⟩
  match p with
  | 0 => rfl
  | 1 => rfl
  | p + 2 =>
    have h : campus.panel (p + 2) = (List.replicate 126 Panel.powerOn).getD p Panel.powerOn := rfl
    rw [h, List.getD_eq_getElem?_getD, List.getElem?_replicate]
    split <;> rfl

/-- The catch-up walk at a stage and position, with the catch-up minute 9,090 and day 7 to deal with. -/
def atStage (st : Stage) (pos : Nat) (s : State) : State := { s with catchUp := some ⟨st, pos, 9090, [7], []⟩ }

theorem witness_CatchUpDealsWithEachRecord :
    (let s : State := { atStage .commits 0 (put { plain with order := some (counted .planned) } campus) with
          catering := { campus.catering with commitQueue := [⟨0, 1⟩] } };
        s.catering.commitQueue = ⟨0, 1⟩ :: [] ∧ s.commitOf ⟨0, 1⟩ ≤ 9090 ∧
          s.bookingAt 0 = some { plain with order := some (counted .planned) }) ∧
      (let b : Booking := { plain with order := some { tray .unplaced with commit := some 9090 } };
        let s : State := { atStage .commits 0 (put b campus) with
          catering := { campus.catering with commitQueue := [⟨0, 1⟩] } };
        s.commitOf ⟨0, 1⟩ ≤ 9090 ∧ s.bookingAt 0 = some b ∧ 0 < s.dir.entries.length) ∧
      (let s := atStage .closures 0 (closureDue .closing ⟨9100, 9300, .relocate, false⟩);
        s.catchUp = some ⟨.closures, 0, 9090, [7], []⟩ ∧ (s.room 0).inTable = true ∧
          (s.room 0).closure = some ⟨9100, 9300, .relocate, false⟩ ∧ 0 < s.rooms.length) ∧
      ((atStage .closures 511 campus).room 511).inTable = false ∧
      (∀ st ∈ [BookingState.booked, .awaiting, .inUse, .ended],
        (atStage .bookings 0 (put { plain with state := st } campus)).bookingAt 0 = some { plain with state := st }) ∧
      ((atStage .bookings 8191 campus).store.pendingDay = none ∧ (atStage .bookings 8191 campus).series.pendingDay = none ∧
        (atStage .bookings 8191 campus).catering.pendingDay = none) ∧
      (let s : State := { campus with catchUp := some ⟨.days, 3, 9090, [7], dayTasks 7⟩ };
        s.store.walk = none ∧ s.series.walk = none ∧ s.catering.walk = none ∧ s.store.lastDay = none ∧
          (dayTasks 7).head? = some ⟨.retirement, 7, false⟩) ∧
      (∀ w ∈ [DayWalk.retirement, .materialisation, .planning], ∀ waiting ∈ [false, true],
        let s : State := { campus with catchUp := some ⟨.days, 1, 9090, [7], [⟨w, 7, waiting⟩]⟩ };
        s.dayWalking = false ∧ s.series.lastDay = none ∧ s.catering.lastDay = none) ∧
      (let s : State := { campus with
          catchUp := some ⟨.days, 3, 9090, [7], dayTasks 7⟩, store := { campus.store with lastDay := some 7 } };
        s.dayWalking = false ∧ s.store.lastDay = some 7 ∧ 7 ≤ 7) := by decide +kernel

/-- R186: the planning walk of a missed day begins, and a pending one leaves no pending day. -/
theorem test_catch_up_begins_planning :
    ∀ waiting ∈ [false, true],
      gives (exec .catchUpDays { campus with
          catchUp := some ⟨.days, 1, 9090, [7], [⟨.planning, 7, waiting⟩]⟩
          catering := { campus.catering with pendingDay := some 7 } })
        (fun t => t.catering.walk = some ⟨7, [20]⟩ && t.catering.horizon = some 7 &&
          t.catering.pendingDay = (if waiting then none else some 7)) = true := by decide +kernel

/-- The idle step of the campus, and the step of its first command: both answer a next state. -/
theorem witness_EveryStepKeeps :
    step campus = .next campus ∧
      step { campus with pending := [.retentionLoss] } = .next ({ campus with retention := .lost } : State).followAttn :=
  ⟨rfl, rfl⟩

theorem witness_EveryStepKeepsTheLinkAndTheClockLegal :
    campus.attnFollows = true ∧ campus.linkFits = true ∧ campus.clockLegal = true := by decide

theorem witness_EveryStepKeepsTheStoreAndTheTables :
    step ticking = .next ticking ∧ ticking.stackCounted = true ∧ ticking.shaped = true ∧ ticking.handlesAgree ∧
      ticking.fifoRight ∧ ticking.blocksRight :=
  have h := ticking_sound
  ⟨rfl, decide_eq_true h.blocks.2.2.1, h.shaped, h.handles, h.fifo, h.blocks⟩

theorem witness_EveryStepKeepsTheTimelines : step ticking = .next ticking ∧ ticking.Sound := ⟨rfl, ticking_sound⟩

theorem witness_EveryStepKeepsTheChannels :
    step ticking = .next ticking ∧ ticking.shaped = true ∧ ticking.handlesAgree ∧ ticking.fifoRight ∧ ticking.channelsRight :=
  ⟨rfl, ticking_sound.shaped, ticking_sound.handles, ticking_sound.fifo, ticking_sound.channels⟩

theorem witness_EveryStepKeepsTheLoads :
    step ticking = .next ticking ∧ ticking.shaped = true ∧ ticking.handlesAgree ∧ ticking.fifoRight ∧ ticking.loadsRight :=
  ⟨rfl, ticking_sound.shaped, ticking_sound.handles, ticking_sound.fifo, ticking_sound.loads⟩

theorem witness_EveryStepKeepsHandlesAgreed : (put plain campus).handlesAgree := by
  intro i b h
  unfold State.bookingAt at h
  match i with
  | 0 => cases (show some plain = some b from h); rfl
  | n + 1 =>
    have he : (put plain campus).dir.entries.getD (n + 1) ⟨0, none⟩ =
        (List.replicate 8191 (⟨0, none⟩ : DirEntry)).getD n ⟨0, none⟩ := rfl
    rw [he, List.getD_eq_getElem?_getD, List.getElem?_replicate] at h
    split at h <;> exact absurd h (by simp)

end Sys2Proof.Tests
end

section
/-! SUPPORT. What no command but the clock's own changes: the time that the clock shows and the places that the link holds. -/

namespace Sys2Proof.Machine

/-! ### The clock's fields and the link's counts -/

/-- The fields of the clock that `State.clockLegal` speaks of (01 section 1.6). -/
structure Dial where
  minute : Nat
  second : Nat
  watch : Nat
  state : ClockState
  timeSet : Bool

/-- The dial and the two counts that `State.linkFits` bounds (R169, R171). -/
structure Standing where
  dial : Dial
  requests : Nat
  used : Nat

def Clock.dial (c : Clock) : Dial := ⟨c.minute, c.second, c.watch, c.state, c.timeSet⟩

def standingOf (c : Clock) (l : Link) : Standing := ⟨c.dial, l.requests.length, l.used⟩

def Outside.standing (o : Outside) : Standing := standingOf o.clock o.link

theorem standing_eq (s : State) : s.outside.standing = standingOf s.clock s.link := rfl

/-! ### Simplifying the standing of an updated state -/

variable (s : State)

@[simp] theorem standing_mk (pending : List Instr) (c : Clock) (owed : Owed) (handed : List Instr) (distance : List (List Nat))
    (rooms : List Room) (kitchens : List Kitchen) (weights : Weights) (policyRec : Policy) (store : Store) (dir : Directory)
    (series : SeriesUnit) (placement : Placement) (bank : Bank) (panelBus : PanelBus) (catering : Catering) (sweep : Sweep)
    (l : Link) (notice : Notice) (retention : Retention) (catchUpOwed : Bool) (missedDayStart : Option Nat)
    (catchUp : Option CatchUp) (attn : Bool) :
    (State.mk pending c owed handed distance rooms kitchens weights policyRec store dir series placement bank panelBus catering
      sweep l notice retention catchUpOwed missedDayStart catchUp attn).outside.standing = standingOf c l := rfl

@[simp] theorem standingOf_self : standingOf s.clock s.link = s.outside.standing := rfl

@[simp] theorem standingOf_held (c : Clock) (l : Link) (floor : Nat) (raised : Option Nat) (held : List HeldMinute) :
    standingOf ⟨c.minute, c.second, c.state, c.timeSet, floor, raised, c.watch, held⟩ l = standingOf c l := rfl

@[simp] theorem standingOf_answer (c : Clock) (ref : HostRef) (st : Status) (body : List Field) :
    standingOf c (s.answer ref st body).link = standingOf c s.link := by
  have h : (s.answer ref st body).link.requests = s.link.requests := by unfold State.answer; split <;> rfl
  simp only [standingOf, h, answer_used]

@[simp] theorem standing_answer (ref : HostRef) (st : Status) (body : List Field) :
    (s.answer ref st body).outside.standing = s.outside.standing := by
  rw [standing_eq, standingOf_answer, answer_clock, standingOf_self]

/-! ### Operations that touch what `Outside` holds, and neither the dial nor the counts -/

@[simp] theorem standing_followAttn : s.followAttn.outside.standing = s.outside.standing := rfl
@[simp] theorem standing_hand (c : Instr) : (s.hand c).outside.standing = s.outside.standing := rfl
@[simp] theorem standing_takeHanded (c : Instr) : (s.takeHanded c).outside.standing = s.outside.standing := rfl
@[simp] theorem standing_enqueue (k : SearchKind) (c : Client) (q : SearchInputs) :
    (s.enqueue k c q).outside.standing = s.outside.standing := rfl
@[simp] theorem standing_dequeue (id : Nat) : (s.dequeue id).outside.standing = s.outside.standing := rfl
@[simp] theorem standing_raiseMinute (m : Nat) (d : Option Nat) : (s.raiseMinute m d).outside.standing = s.outside.standing := rfl

/-! ### The panel buses -/

@[simp] theorem standing_rebuildView (p : Nat) : (s.rebuildView p).outside.standing = s.outside.standing := by
  unfold State.rebuildView; split <;> rfl

@[simp] theorem standing_buildList (k p : Nat) : (s.buildList k p).outside.standing = s.outside.standing := rfl

@[simp] theorem standing_emptySlot (p : Nat) : (s.emptySlot p).outside.standing = s.outside.standing := by
  unfold State.emptySlot; split <;> rfl

@[simp] theorem standing_endTransaction (p : Nat) : (s.endTransaction p).outside.standing = s.outside.standing := rfl

@[simp] theorem standing_decideFollowUp (port p : Nat) : (s.decideFollowUp port p).outside.standing = s.outside.standing := by
  unfold State.decideFollowUp; dsimp only; split <;> rfl

@[simp] theorem standing_reportUnavailable (p : Nat) : (s.reportUnavailable p).outside.standing = s.outside.standing := by
  unfold State.reportUnavailable; split <;> rfl

@[simp] theorem standing_reportAvailable (p : Nat) : (s.reportAvailable p).outside.standing = s.outside.standing := by
  unfold State.reportAvailable; split <;> rfl

@[simp] theorem standing_releaseBinding (p : Nat) : (s.releaseBinding p).outside.standing = s.outside.standing := by
  unfold State.releaseBinding; split <;> rfl

@[simp] theorem standing_makeUnbound (p : Nat) : (s.makeUnbound p).outside.standing = s.outside.standing := by
  simp [State.makeUnbound]

@[simp] theorem standing_makeBarred (p : Nat) : (s.makeBarred p).outside.standing = s.outside.standing := by
  unfold State.makeBarred; dsimp only; split <;> simp

@[simp] theorem standing_makeHold (p : Nat) (k : HoldKind) : (s.makeHold p k).outside.standing = s.outside.standing := by
  cases k <;> simp [State.makeHold]

@[simp] theorem standing_takeBattery (p n : Nat) : (s.takeBattery p n).outside.standing = s.outside.standing := by
  unfold State.takeBattery; dsimp only
  split
  · simp
  · split <;> simp

@[simp] theorem standing_makeOnline (p : Nat) : (s.makeOnline p).outside.standing = s.outside.standing := by
  unfold State.makeOnline; dsimp only; split <;> simp

@[simp] theorem standing_handReading (p : Nat) (r : PanelReply) : (s.handReading p r).outside.standing = s.outside.standing := by
  unfold State.handReading
  split
  · split
    · simp
    · split <;> simp
  · rfl

@[simp] theorem standing_takeReport (port p : Nat) (r : PanelReply) :
    (s.takeReport port p r).outside.standing = s.outside.standing := by
  unfold State.takeReport; dsimp only
  split <;> simp

@[simp] theorem standing_takePanelRequest (p : Nat) (r : PanelReply) :
    (s.takePanelRequest p r).1.outside.standing = s.outside.standing := by
  unfold State.takePanelRequest; dsimp only
  split
  · rfl
  · split <;> simp

@[simp] theorem standing_miss (p : Nat) : (s.miss p).outside.standing = s.outside.standing := by
  unfold State.miss; dsimp only
  split
  · split <;> simp
  · simp
  · split <;> simp
  all_goals simp

/-! ### The bank, the engine and the sweep -/

@[simp] theorem outside_expireWindow (c : Nat) : (s.expireWindow c).outside = s.outside := by
  unfold State.expireWindow
  split
  · split <;> simp
  · simp

@[simp] theorem outside_expireWatch (c : Nat) : (s.expireWatch c).outside = s.outside := by
  unfold State.expireWatch
  split
  · split <;> simp
  · simp

@[simp] theorem outside_countDown (n : Nat) : (s.countDown n).outside = s.outside := rfl

@[simp] theorem outside_bankSecond : s.bankSecond.outside = s.outside := by simp [State.bankSecond]

@[simp] theorem standing_takeSecond : s.takeSecond.outside.standing = s.outside.standing := by simp [State.takeSecond]

@[simp] theorem outside_closureTime (m r : Nat) : (s.closureTime m r).outside = s.outside := by
  unfold State.closureTime; dsimp only
  split
  · split
    · rfl
    · split
      · simp
      · split <;> simp
  · rfl

@[simp] theorem standing_resumeSweep : s.resumeSweep.outside.standing = s.outside.standing := by
  unfold State.resumeSweep
  split
  · rfl
  · split <;> rfl

@[simp] theorem standing_closureTimes (m : Nat) : (s.closureTimes m).outside.standing = s.outside.standing := by
  rw [State.closureTimes, standing_resumeSweep, overAll_keeps State.outside fun r t => outside_closureTime t m r]

@[simp] theorem outside_autoCheckIn (r : Nat) (o : Bool) : (s.autoCheckIn r o).outside = s.outside := by
  unfold State.autoCheckIn
  split
  · split <;> simp
  · rfl

@[simp] theorem outside_takeReading (r : Nat) (o : Bool) (n : Nat) : (s.takeReading r o n).outside = s.outside := by
  unfold State.takeReading
  split
  · rfl
  · dsimp only
    split
    · split
      · simp
      · split
        · simp
        · split <;> simp
    · rfl

@[simp] theorem outside_suspendIn (r c : Nat) : (s.suspendIn r c).outside = s.outside := by
  unfold State.suspendIn; split <;> rfl

@[simp] theorem outside_resumeIn (r c : Nat) : (s.resumeIn r c).outside = s.outside := by
  unfold State.resumeIn
  split
  · rfl
  · split
    · rfl
    · split <;> simp

@[simp] theorem standing_displaceCurrent (h : Handle) : (s.displaceCurrent h).outside.standing = s.outside.standing := by
  unfold State.displaceCurrent; dsimp only
  split <;> simp

@[simp] theorem standing_endSweep (c : Closure) : (s.endSweep c).outside.standing = s.outside.standing := by
  unfold State.endSweep; dsimp only
  split <;> simp

@[simp] theorem standing_sweepStep : s.sweepStep.outside.standing = s.outside.standing := by
  unfold State.sweepStep
  split
  · simp
  · split
    · simp
    · split <;> simp [State.enqueue]

@[simp] theorem outside_askRelocation (h : Handle) (r : Nat) : (s.askRelocation h r).1.outside = s.outside := by
  unfold State.askRelocation
  split
  · rfl
  · dsimp only; split <;> simp

@[simp] theorem outside_settleSweep (e : QueueEntry) (x : Search) (h : Handle) :
    (s.settleSweep e x h).1.outside = s.outside := by
  unfold State.settleSweep
  split <;> simp

@[simp] theorem standing_takeReportOf (h : Handle) (r : SweepReport) :
    (s.takeReportOf h r).outside.standing = s.outside.standing := by
  unfold State.takeReportOf; dsimp only
  split <;> simp

/-! ### The walks -/

@[simp] theorem outside_passVisit (id i : Nat) : (s.passVisit id i).outside = s.outside := by
  unfold State.passVisit
  split
  · split <;> simp
  · rfl

@[simp] theorem outside_beginPass : s.beginPass.outside = s.outside := by unfold State.beginPass; split <;> rfl

@[simp] theorem standing_passStep (p : CancelPass) : (s.passStep p).outside.standing = s.outside.standing := by
  unfold State.passStep; dsimp only
  split <;> simp

@[simp] theorem outside_beginRetirement (d : Nat) : (s.beginRetirement d).outside = s.outside := rfl
@[simp] theorem outside_beginMaterialisation (d : Nat) : (s.beginMaterialisation d).outside = s.outside := rfl

@[simp] theorem outside_beginPlanning (d : Nat) : (s.beginPlanning d).outside = s.outside := by
  unfold State.beginPlanning; dsimp only; split <;> rfl

@[simp] theorem outside_retirementDay (d : Nat) : (s.retirementDay d).outside = s.outside := by
  unfold State.retirementDay; split <;> rfl

@[simp] theorem outside_materialisationDay (d : Nat) : (s.materialisationDay d).outside = s.outside := by
  unfold State.materialisationDay; split <;> rfl

@[simp] theorem outside_planningDay (d : Nat) : (s.planningDay d).outside = s.outside := by
  unfold State.planningDay
  split
  · rfl
  · simp

/-- The held minutes raised at the end of the catch-up walk are owed events alone (R186). -/
@[simp] theorem standing_catchUpDone : s.catchUpDone.outside.standing = s.outside.standing := by
  unfold State.catchUpDone
  exact foldl_keeps (fun t => t.outside.standing) (fun t (h : HeldMinute) => standing_raiseMinute t h.minute h.day) _ _

@[simp] theorem standing_afterDayWalk : s.afterDayWalk.outside.standing = s.outside.standing := by
  unfold State.afterDayWalk
  split
  · rfl
  · split
    · rfl
    · dsimp only; split <;> simp

@[simp] theorem outside_retireVisit (d i : Nat) : (s.retireVisit d i).outside = s.outside := by
  unfold State.retireVisit
  split
  · split <;> simp
  · rfl

@[simp] theorem standing_retireSeries (id : Nat) (x : Series) : (s.retireSeries id x).outside.standing = s.outside.standing := by
  simp [State.retireSeries]

@[simp] theorem standing_seriesVisit (id : Nat) : (s.seriesVisit id).outside.standing = s.outside.standing := by
  unfold State.seriesVisit
  split
  · split <;> simp
  · rfl

@[simp] theorem standing_endRetirement (d : Nat) : (s.endRetirement d).outside.standing = s.outside.standing := by
  unfold State.endRetirement; dsimp only
  split <;> simp

@[simp] theorem outside_materialiseVisit (d id : Nat) : (s.materialiseVisit d id).outside = s.outside := by
  simp [State.materialiseVisit]

@[simp] theorem standing_endMaterialisation (d : Nat) : (s.endMaterialisation d).outside.standing = s.outside.standing := by
  unfold State.endMaterialisation; dsimp only
  split <;> simp

@[simp] theorem standing_endPlanning (d : Nat) : (s.endPlanning d).outside.standing = s.outside.standing := by
  unfold State.endPlanning; dsimp only
  split <;> simp

@[simp] theorem outside_planHead (b : Booking) : (s.planHead b).outside = s.outside := by
  unfold State.planHead; split <;> simp

@[simp] theorem outside_catchUpClosure (m r : Nat) (c : Closure) : (s.catchUpClosure m r c).outside = s.outside := by
  unfold State.catchUpClosure
  split
  · simp
  · split
    · split <;> simp
    · simp

@[simp] theorem outside_catchUpBooking (m : Nat) (b : Booking) : (s.catchUpBooking m b).outside = s.outside := by
  unfold State.catchUpBooking State.inUseUnknown; dsimp only
  split
  · split
    · rfl
    · split
      · split <;> simp
      · split <;> simp
  · split <;> simp
  · split <;> simp
  all_goals rfl

@[simp] theorem standing_beginTask (t : DayTask) : (s.beginTask t).outside.standing = s.outside.standing := by
  unfold State.beginTask
  split <;> dsimp only <;> split <;> simp

/-! ### Host requests on bookings and series -/

/-- The state that a creation leaves, made or refused. -/
def leftBy : Except (Status × State) (State × Handle × Bool) → State
  | .error e => e.2
  | .ok r => r.1

theorem outside_makeHostBooking (now : Nat) (mk : Taken → Booking) (note : Bool) (order : Option OrderForm) :
    (leftBy (s.makeHostBooking now mk note order)).outside = s.outside := by
  unfold State.makeHostBooking
  dsimp only
  split
  · rfl
  · rename_i hk
    have h1 := outside_takeRecord hk
    split
    · simp [leftBy, h1]
    · split
      · simp [leftBy, h1]
      · split
        · simp [leftBy, h1]
        · rename_i hp
          simp [leftBy, outside_planHost hp, h1]

theorem outside_of_makeHostBooking_error {now : Nat} {mk : Taken → Booking} {note : Bool} {order : Option OrderForm}
    {st : Status} {t : State} (h : s.makeHostBooking now mk note order = .error (st, t)) : t.outside = s.outside := by
  have := outside_makeHostBooking s now mk note order
  rwa [h] at this

theorem outside_of_makeHostBooking_ok {now : Nat} {mk : Taken → Booking} {note : Bool} {order : Option OrderForm}
    {t : State} {x : Handle × Bool} (h : s.makeHostBooking now mk note order = .ok (t, x)) : t.outside = s.outside := by
  have := outside_makeHostBooking s now mk note order
  rwa [h] at this

@[simp] theorem outside_bookSpan (f : BookForm) (sp : SpanOut) : (s.bookSpan f sp).state.outside = s.outside := by
  unfold State.bookSpan; dsimp only
  split
  · rfl
  · split
    · rfl
    · split
      · rfl
      · split
        · rfl
        · split
          · rename_i h
            exact outside_of_makeHostBooking_error s h
          · rename_i h
            exact outside_of_makeHostBooking_ok s h

@[simp] theorem outside_book (f : BookForm) : (s.book f).state.outside = s.outside := by
  unfold State.book
  repeat' split
  all_goals simp [refuse]

@[simp] theorem outside_replace (b new : Booking) : (s.replace b new).outside = s.outside := by simp [State.replace]

@[simp] theorem outside_shortenWindow (b : Booking) (m : Nat) : (s.shortenWindow b m).outside = s.outside := by
  unfold State.shortenWindow; split <;> rfl

@[simp] theorem outside_amendUndone (t : State) (st : Status) : (amendUndone s t st).state.outside = s.outside := rfl

theorem outside_amendNote {b : Booking} {n : Option (List Byte)} {t : State} (h : s.amendNote b n = some t) :
    t.outside = s.outside := by
  unfold State.amendNote at h
  split at h
  · cases h; rfl
  · cases h; rfl
  · cases h; simp
  · cases h; simp
  · split at h
    · rename_i ha
      cases h
      simp [outside_allocate ha]
    · cases h

theorem outside_amendOrder {now : Nat} {b new : Booking} {drop tight : Bool} {t : State}
    (h : s.amendOrder now b new drop = .ok (t, tight)) : t.outside = s.outside := by
  unfold State.amendOrder at h
  split at h
  · cases h; rfl
  · split at h
    iterate 4
      · cases h; rfl
    iterate 2
      · split at h <;> cases h
        simp
    iterate 3
      · split at h
        · cases h
        · split at h
          · rename_i hp
            cases h
            simp [outside_planHost hp]
          · split at h <;> cases h
            simp

@[simp] theorem outside_amendWrite (f : AmendForm) (b : Booking) (r : Nat) (sp : SpanOut) :
    (s.amendWrite f b r sp).state.outside = s.outside := by
  unfold State.amendWrite; dsimp only
  split
  · rfl
  · rename_i h
    have h1 := outside_amendNote s h
    split
    · split <;> simp [h1]
    · split
      · simp
      · rename_i ho
        split at ho
        · simp [outside_amendOrder _ ho, h1]
        · cases ho
          simp [h1]

@[simp] theorem outside_amend (f : AmendForm) : (s.amend f).state.outside = s.outside := by
  unfold State.amend State.amendPlace
  dsimp only
  repeat' split
  all_goals simp [refuse]

@[simp] theorem outside_cancelBooking (b : Booking) : (s.cancelBooking b).state.outside = s.outside := by
  unfold State.cancelBooking
  by_cases hd : b.state = .displaced <;> simp only [hd, if_true, if_false]
  all_goals
    split
    · simp
    · split <;> simp

@[simp] theorem outside_cancel (h : Handle) : (s.cancel h).state.outside = s.outside := by
  unfold State.cancel
  repeat' split
  all_goals simp [refuse]

@[simp] theorem outside_placeSeries (f : SeriesForm) : (s.placeSeries f).state.outside = s.outside := by
  unfold State.placeSeries
  split
  · rfl
  · dsimp only
    split
    · rfl
    · rename_i s1 _ h
      rw [outside_dealSeries]
      exact (show s1.outside = s.outside from outside_allocate h)

@[simp] theorem outside_createSeries (f : SeriesForm) : (s.createSeries f).state.outside = s.outside := by
  unfold State.createSeries
  repeat' split
  all_goals simp [refuse]

/-! ### Host requests on orders -/

theorem outside_orderBlock {b : Booking} {t : State} {n : Nat} (h : s.orderBlock b = some (t, n)) : t.outside = s.outside := by
  unfold State.orderBlock at h
  split at h
  · cases h; rfl
  · obtain ⟨⟨u, bs⟩, hu, hr⟩ := Option.map_eq_some_iff.mp h
    cases hr
    exact outside_allocate hu

@[simp] theorem outside_placeOrder (b : Booking) (f : OrderForm) : (s.placeOrder b f).state.outside = s.outside := by
  unfold State.placeOrder
  split
  · rfl
  · rename_i h
    split
    · rfl
    · rename_i hp
      simp [outside_planHost hp, State.writeOrder, outside_orderBlock s h]

@[simp] theorem outside_order (h : Handle) (f : OrderForm) : (s.order h f).state.outside = s.outside := by
  unfold State.order
  repeat' split
  all_goals simp [refuse]

@[simp] theorem outside_writeContents (i : Nat) (f : OrderForm) : (s.writeContents i f).outside = s.outside := rfl

@[simp] theorem outside_replan (b : Booking) (f : OrderForm) : (s.replan b f).state.outside = s.outside := by
  unfold State.replan
  split
  · rfl
  · dsimp only
    split
    · rfl
    · rename_i hp
      simp [outside_planHost hp]

@[simp] theorem outside_changeOrder (h : Handle) (f : OrderForm) : (s.changeOrder h f).state.outside = s.outside := by
  unfold State.changeOrder
  repeat' split
  all_goals simp [refuse]

/-! ### PLACE_AND_BOOK and the sweep's request -/

@[simp] theorem outside_placeBook (q : SearchInputs) (f : BookFields) (x : Search) (pre : List Field) (n : Nat) (c : Candidate) :
    (s.placeBook q f x pre n c).state.outside = s.outside := by
  unfold State.placeBook
  split
  · rename_i h
    exact outside_of_makeHostBooking_error s h
  · rename_i h
    split <;> exact outside_of_makeHostBooking_ok s h

@[simp] theorem outside_settlePlaced (e : QueueEntry) (f : BookFields) (x : Search) :
    (s.settlePlaced e f x).state.outside = s.outside := by
  unfold State.settlePlaced; dsimp only
  repeat' split
  all_goals simp

/-- The state that a request which may wait leaves. -/
def leftLater : Reply ⊕ State → State
  | .inl r => r.state
  | .inr t => t

@[simp] theorem standing_admitSearch (k : SearchKind) (f : PlaceForm) (ok : Bool) (covers : Option Nat) (book : Option BookFields)
    (ref : HostRef) : (leftLater (s.admitSearch k f ok covers book ref)).outside.standing = s.outside.standing := by
  unfold State.admitSearch
  repeat' split
  all_goals simp [leftLater, refuse]

@[simp] theorem standing_closeRoom (f : CloseForm) (ref : HostRef) :
    (leftLater (s.closeRoom f ref)).outside.standing = s.outside.standing := by
  unfold State.closeRoom
  repeat' split
  all_goals simp [leftLater, refuse, State.beginSweep]

/-! ### Panel requests -/

@[simp] theorem outside_checkIn (src : PanelRef) (badge : Id32) (h : Option Handle) :
    (s.checkIn src badge h).1.outside = s.outside := by
  unfold State.checkIn plain
  repeat' split
  all_goals simp

@[simp] theorem outside_makeWalkUp (r m : Nat) (badge : Id32) (term : Term) : (s.makeWalkUp r m badge term).1.outside = s.outside := by
  unfold State.makeWalkUp
  split
  · rfl
  · rename_i h
    simp [outside_takeRecord h]

@[simp] theorem outside_walkUpIn (r n : Nat) (badge : Id32) : (s.walkUpIn r n badge).1.outside = s.outside := by
  unfold State.walkUpIn; dsimp only
  repeat' split
  all_goals simp

@[simp] theorem outside_extendBooking (b : Booking) (n : Nat) : (s.extendBooking b n).1.outside = s.outside := by
  unfold State.extendBooking State.writeEnd; dsimp only
  split <;> simp


end Sys2Proof.Machine
end

section
/-! SUPPORT. The commands that neither move the clock nor overfill the link: all but the clock's own and the resets. -/

namespace Sys2Proof.Machine

/-- The dial is as before, and a link within its eight places stays within them. -/
structure Quiet (s t : State) : Prop where
  dial : t.outside.standing.dial = s.outside.standing.dial
  fits : s.linkFits = true → t.linkFits = true

theorem linkFits_iff {s : State} : s.linkFits = true ↔
    s.outside.standing.requests ≤ Config.linkPlaces ∧ s.outside.standing.used ≤ Config.linkPlaces := by
  simp [State.linkFits, standing_eq, standingOf]

variable {s t u : State}

theorem Quiet.refl (s : State) : Quiet s s := ⟨rfl, id⟩

theorem Quiet.of_standing (h : t.outside.standing = s.outside.standing) : Quiet s t :=
  ⟨by rw [h], fun hs => by rwa [linkFits_iff, h, ← linkFits_iff]⟩

theorem Quiet.of_outside (h : t.outside = s.outside) : Quiet s t := .of_standing (by rw [h])

theorem Quiet.trans (h : Quiet s t) (h' : Quiet t u) : Quiet s u := ⟨h'.dial.trans h.dial, fun hs => h'.fits (h.fits hs)⟩

theorem Quiet.standing (h : Quiet s t) (hu : u.outside.standing = t.outside.standing) : Quiet s u := h.trans (.of_standing hu)

/-- A command's outcome is quiet. -/
def QuietOutcome (s : State) (o : Outcome) : Prop := ∀ t, o = .next t → Quiet s t

theorem QuietOutcome.same (s : State) : QuietOutcome s (.next s) := by
  intro t h; cases h; exact .refl s

theorem QuietOutcome.done (h : Quiet s u) : QuietOutcome s (done u) := by
  intro t ht; cases ht; exact h.standing rfl

theorem QuietOutcome.doneLists (h : Quiet s u) (v : State) : QuietOutcome s (doneLists v u) := by
  intro t ht; cases ht; exact h.standing (by simp)

theorem QuietOutcome.done_of_standing (h : u.outside.standing = s.outside.standing) : QuietOutcome s (Machine.done u) :=
  .done (.of_standing h)

theorem QuietOutcome.doneLists_of_standing (v : State) (h : u.outside.standing = s.outside.standing) :
    QuietOutcome s (Machine.doneLists v u) := .doneLists (.of_standing h) v

/-! ### Requests -/

/-- A request that its owner takes leaves the dial, and reserves a place only while one is free (R170, R171). -/
theorem quiet_takeRequest {tag : Byte} {kind : Nat} {cmd : Instr} {ref : HostRef}
    (h : s.takeRequest tag kind cmd = some (t, ref)) : Quiet s t := by
  rcases takeRequest_cases h with ⟨p, -, -, -, rfl⟩ | ⟨-, hu, -, rfl⟩
  · exact .of_standing rfl
  · refine ⟨rfl, fun hs => ?_⟩
    simp only [State.linkFits, Link.used, Bool.and_eq_true, decide_eq_true_eq, List.length_append, List.length_singleton]
      at hs hu ⊢
    omega

theorem quiet_hostNow {tag : Byte} {kind : Nat} {cmd : Instr} {owner : State → Reply}
    (h : ∀ u, (owner u).state.outside.standing = u.outside.standing) (s : State) :
    QuietOutcome s (hostNow tag kind cmd owner s) := by
  unfold hostNow
  split
  · exact .same s
  · rename_i u _ hu
    exact .doneLists ((quiet_takeRequest hu).standing (by simp [h])) s

theorem quiet_hostLater {tag : Byte} {kind : Nat} {cmd : Instr} {owner : HostRef → State → Reply ⊕ State}
    (h : ∀ ref u, (leftLater (owner ref u)).outside.standing = u.outside.standing) (s : State) :
    QuietOutcome s (hostLater tag kind cmd owner s) := by
  unfold hostLater
  split
  · exact .same s
  · rename_i u ref hu
    have hq := quiet_takeRequest hu
    have ho := h ref u
    split <;> rename_i he <;> rw [he] at ho
    · exact .doneLists (hq.standing ((standing_answer _ _ _ _).trans ho)) s
    · exact .doneLists (hq.standing ho) s

theorem quiet_panelNow {src : PanelRef} {code : Nat} {cmd : Instr} {owner : State → State × PanelAnswer}
    (h : ∀ u, (owner u).1.outside.standing = u.outside.standing) (s : State) :
    QuietOutcome s (panelNow src code cmd owner s) :=
  .doneLists_of_standing s (by simp [h])

/-- A request whose owner only reads, or writes outside the clock and the link. -/
theorem quiet_hostNow_of_outside {tag : Byte} {kind : Nat} {cmd : Instr} {owner : State → Reply}
    (h : ∀ u, (owner u).state.outside = u.outside) (s : State) : QuietOutcome s (hostNow tag kind cmd owner s) :=
  quiet_hostNow (fun u => by rw [h u]) s

/-! ### Transfers and frames -/

@[simp] theorem standing_beginTransfer (s : State) : s.beginTransfer.outside.standing = s.outside.standing := rfl

theorem quiet_send (bytes : List Byte) (s : State) : QuietOutcome s (execSend bytes s) := by
  refine .done (Quiet.trans (.of_standing (standing_beginTransfer s)) ?_)
  unfold State.deliver
  split
  · split
    · rename_i hl
      refine ⟨rfl, fun hs => ?_⟩
      simp only [linkFits_iff, standing_mk, standingOf, List.length_append, List.length_singleton] at hs ⊢
      exact ⟨by omega, hs.2⟩
    · exact .of_standing rfl
  · exact .refl _

theorem quiet_fetch (n : Nat) (s : State) : QuietOutcome s (execFetch n s) := by
  refine .done ⟨rfl, fun hs => ?_⟩
  simp only [linkFits_iff, standing_mk, standingOf, Link.used] at hs ⊢
  refine ⟨hs.1, ?_⟩
  have h : s.beginTransfer.link.reserved.length + s.beginTransfer.link.filled.length ≤ Config.linkPlaces := hs.2
  split
  · simp only [List.length_drop]; omega
  · exact h

theorem quiet_linkReset (s : State) : QuietOutcome s (execLinkReset s) :=
  .done ⟨rfl, fun _ => by simp [State.linkFits, Link.used]⟩

theorem quiet_takeRequestFrame (s : State) : QuietOutcome s (execTakeRequestFrame s) := by
  unfold execTakeRequestFrame
  split
  · exact .same s
  · rename_i f rest hr
    split
    · rename_i hu
      refine .done ?_
      have hq : Quiet s { s with link := { s.link with requests := rest, reserved := s.link.reserved ++ [(f.tag, f.kind)] } } := by
        refine ⟨rfl, fun hs => ?_⟩
        simp only [State.linkFits, Link.used, hr, Bool.and_eq_true, decide_eq_true_eq, List.length_append, List.length_cons,
          List.length_nil] at hs hu ⊢
        omega
      unfold State.takeFrame
      dsimp only
      split
      · exact hq.standing rfl
      · exact hq.standing (standing_answer _ _ _ _)
    · exact .same s

end Sys2Proof.Machine
end

section
/-! SUPPORT. Every command but the clock's own and the resets is quiet. -/

namespace Sys2Proof.Machine

/-! ### Commands that are no request -/

theorem quiet_retentionLoss (s : State) : QuietOutcome s (execRetentionLoss s) := .done_of_standing rfl

theorem quiet_secondEvent (s : State) : QuietOutcome s (execSecondEvent s) := by
  unfold execSecondEvent
  split
  · exact .same s
  · exact .doneLists_of_standing s (by simp)

theorem quiet_windowExpiry (c : Nat) (s : State) : QuietOutcome s (execWindowExpiry c s) := by
  unfold execWindowExpiry
  split
  · exact .same s
  · split
    · exact .doneLists_of_standing s (by simp)
    · split
      · exact .doneLists_of_standing s (by simp)
      · exact .same s

theorem quiet_absenceExpiry (c : Nat) (s : State) : QuietOutcome s (execAbsenceExpiry c s) := by
  unfold execAbsenceExpiry
  split
  · exact .same s
  · split
    · exact .doneLists_of_standing s (by simp)
    · split
      · exact .doneLists_of_standing s (by simp)
      · exact .same s

theorem quiet_startsAndEnds (s : State) : QuietOutcome s (execStartsAndEnds s) := by
  unfold execStartsAndEnds
  split
  · exact .same s
  · exact .doneLists_of_standing s (by simp)

theorem quiet_windowOpening (s : State) : QuietOutcome s (execWindowOpening s) := by
  unfold execWindowOpening
  split
  · exact .same s
  · exact .doneLists_of_standing s (by simp)

theorem quiet_commit (s : State) : QuietOutcome s (execCommit s) := by
  unfold execCommit
  split
  · exact .same s
  · exact .doneLists_of_standing s (by simp)

theorem quiet_closureTimes (s : State) : QuietOutcome s (execClosureTimes s) := by
  unfold execClosureTimes
  split
  · exact .same s
  · exact .done_of_standing (by simp)

theorem quiet_retirementWalk (s : State) : QuietOutcome s (execRetirementWalk s) := by
  unfold execRetirementWalk
  split
  · exact .same s
  · exact .done_of_standing (by simp)

theorem quiet_materialisationWalk (s : State) : QuietOutcome s (execMaterialisationWalk s) := by
  unfold execMaterialisationWalk
  split
  · exact .same s
  · exact .done_of_standing (by simp)

theorem quiet_planningWalk (s : State) : QuietOutcome s (execPlanningWalk s) := by
  unfold execPlanningWalk
  split
  · exact .same s
  · exact .done_of_standing (by simp)

theorem quiet_retirementWalkStep (s : State) : QuietOutcome s (execRetirementWalkStep s) := by
  unfold execRetirementWalkStep
  split
  · exact .doneLists_of_standing s (by simp)
  · exact .same s

theorem quiet_seriesPassStep (s : State) : QuietOutcome s (execSeriesPassStep s) := by
  unfold execSeriesPassStep
  split
  · refine .done_of_standing ?_
    dsimp only
    split <;> simp
  · exact .same s

theorem quiet_materialisationWalkStep (s : State) : QuietOutcome s (execMaterialisationWalkStep s) := by
  unfold execMaterialisationWalkStep
  split
  · exact .same s
  · refine .doneLists_of_standing s ?_
    split <;> simp

theorem quiet_planningWalkStep (s : State) : QuietOutcome s (execPlanningWalkStep s) := by
  unfold execPlanningWalkStep
  split
  · exact .same s
  · split
    · exact .done_of_standing (by simp)
    · split
      · exact .doneLists_of_standing s (by simp)
      · exact .done_of_standing (by simp)

theorem quiet_cancelPassStep (s : State) : QuietOutcome s (execCancelPassStep s) := by
  unfold execCancelPassStep
  dsimp only
  split
  · exact .same s
  · exact .doneLists_of_standing s (by simp)

theorem quiet_searchTake (s : State) : QuietOutcome s (execSearchTake s) := by
  unfold execSearchTake
  split
  · exact .done_of_standing (by simp)
  · exact .same s

theorem quiet_placementWalkStep (s : State) : QuietOutcome s (execPlacementWalkStep s) := by
  unfold execPlacementWalkStep
  split
  · exact .same s
  · split
    · exact .same s
    · split
      · exact .same s
      · exact .done_of_standing (by simp)

theorem quiet_placeCompletion (s : State) : QuietOutcome s (execPlaceCompletion s) := by
  unfold execPlaceCompletion
  split
  · exact .same s
  · dsimp only
    split <;> exact .done_of_standing (by simp)

theorem quiet_placeAndBookCompletion (s : State) : QuietOutcome s (execPlaceAndBookCompletion s) := by
  unfold execPlaceAndBookCompletion
  split
  · exact .same s
  · split
    · exact .doneLists_of_standing s (by simp)
    · exact .done_of_standing (by simp)

theorem quiet_findNearbyCompletion (s : State) : QuietOutcome s (execFindNearbyCompletion s) := by
  unfold execFindNearbyCompletion
  split
  · exact .same s
  · dsimp only
    split
    · split <;> exact .done_of_standing (by simp)
    all_goals exact .done_of_standing (by simp)

theorem quiet_sweepSearchCompletion (s : State) : QuietOutcome s (execSweepSearchCompletion s) := by
  unfold execSweepSearchCompletion
  split
  · exact .same s
  · dsimp only
    split
    · exact .doneLists_of_standing s (by simp)
    all_goals exact .done_of_standing (by simp)

theorem quiet_withdrawal (p n : Nat) (s : State) : QuietOutcome s (execWithdrawal p n s) := by
  unfold execWithdrawal
  dsimp only
  split <;> exact .done_of_standing (by simp)

theorem quiet_sweepStep (s : State) : QuietOutcome s (execSweepStep s) := by
  unfold execSweepStep
  split
  · exact .doneLists_of_standing s (by simp)
  · exact .same s

theorem quiet_sweepReport (s : State) : QuietOutcome s (execSweepReport s) := by
  unfold execSweepReport
  split
  · exact .doneLists_of_standing s (by simp)
  · exact .same s

theorem quiet_deferredViewBuild (p : Nat) (s : State) : QuietOutcome s (execDeferredViewBuild p s) := by
  unfold execDeferredViewBuild
  dsimp only
  split
  · exact .done_of_standing (by simp)
  · exact .same s

theorem quiet_poll (p : Nat) (s : State) : QuietOutcome s (execPoll p s) := by
  unfold execPoll
  split
  · exact .same s
  · split
    · exact .same s
    · exact .done_of_standing (by simp)

theorem quiet_reply (p : Nat) (frame : List Byte) (s : State) : QuietOutcome s (execReply p frame s) := by
  unfold execReply
  dsimp only
  split
  · refine .done_of_standing ?_
    split <;> simp
  · exact .same s

theorem quiet_followUpReply (p : Nat) (frame : List Byte) (s : State) : QuietOutcome s (execFollowUpReply p frame s) := by
  unfold execFollowUpReply
  dsimp only
  split
  · refine .done_of_standing ?_
    split <;> simp
  · exact .same s

theorem quiet_replyTimeout (p : Nat) (s : State) : QuietOutcome s (execReplyTimeout p s) := by
  unfold execReplyTimeout
  dsimp only
  split
  any_goals exact .same s
  all_goals exact .done_of_standing (by simp)

theorem quiet_holdTakesEffect (p : Nat) (s : State) : QuietOutcome s (execHoldTakesEffect p s) := by
  unfold execHoldTakesEffect
  split
  · exact .same s
  · split
    · exact .same s
    · exact .done_of_standing (by simp)

theorem quiet_viewBuild (r : Nat) (s : State) : QuietOutcome s (execViewBuild r s) := by
  unfold execViewBuild
  dsimp only
  split <;> exact .done_of_standing (by simp)

theorem quiet_listBuild (k : Nat) (s : State) : QuietOutcome s (execListBuild k s) := by
  refine .done_of_standing ?_
  rw [foldl_keeps (fun t => t.outside.standing) fun t p => standing_buildList t k p]
  rfl

theorem quiet_panelUnavailable (r : Nat) (s : State) : QuietOutcome s (execPanelUnavailable r s) := by
  refine .done_of_standing ?_
  rw [overAll_keeps State.outside fun c t => outside_suspendIn t r c]
  rfl

theorem quiet_panelAvailable (r : Nat) (s : State) : QuietOutcome s (execPanelAvailable r s) := by
  refine .doneLists_of_standing s ?_
  rw [overAll_keeps State.outside fun c t => outside_resumeIn t r c]
  rfl

theorem quiet_occupancyReading (r : Nat) (o : Bool) (n : Nat) (s : State) : QuietOutcome s (execOccupancyReading r o n s) :=
  .doneLists_of_standing s (by simp)

theorem quiet_catchUpCommitStep (s : State) : QuietOutcome s (execCatchUpCommitStep s) := by
  unfold execCatchUpCommitStep
  split
  · split
    · exact .same s
    · split
      · split
        · exact .doneLists_of_standing s (by simp)
        · exact .done_of_standing (by simp)
      · exact .done_of_standing (by simp)
  · exact .same s

theorem quiet_catchUpClosureStep (s : State) : QuietOutcome s (execCatchUpClosureStep s) := by
  unfold execCatchUpClosureStep
  split
  · split
    · exact .same s
    · split
      · exact .done_of_standing (by simp)
      · refine .done_of_standing ?_
        split <;> simp
  · exact .same s

theorem quiet_catchUpBookingStep (s : State) : QuietOutcome s (execCatchUpBookingStep s) := by
  unfold execCatchUpBookingStep
  split
  · split
    · exact .same s
    · refine .doneLists_of_standing s ?_
      dsimp only
      split <;> simp
  · exact .same s

theorem quiet_catchUpDays (s : State) : QuietOutcome s (execCatchUpDays s) := by
  unfold execCatchUpDays
  split
  · split
    · exact .same s
    · split <;> exact .done_of_standing (by simp)
  · exact .same s

/-! ### Host requests -/

section HostRequests

variable (tag : Byte) (s : State)

@[simp] theorem refuse_state (u : State) (st : Status) : (refuse u st).state = u := rfl

theorem quiet_readTime : QuietOutcome s (execReadTime tag s) := quiet_hostNow_of_outside (fun _ => rfl) s
theorem quiet_readRetention : QuietOutcome s (execReadRetention tag s) := quiet_hostNow_of_outside (fun _ => rfl) s
theorem quiet_readStore : QuietOutcome s (execReadStore tag s) := quiet_hostNow_of_outside (fun _ => rfl) s
theorem quiet_readPlacement : QuietOutcome s (execReadPlacement tag s) := quiet_hostNow_of_outside (fun _ => rfl) s
theorem quiet_readTimers : QuietOutcome s (execReadTimers tag s) := quiet_hostNow_of_outside (fun _ => rfl) s
theorem quiet_readSweep : QuietOutcome s (execReadSweep tag s) := quiet_hostNow_of_outside (fun _ => rfl) s
theorem quiet_readNotices : QuietOutcome s (execReadNotices tag s) := quiet_hostNow_of_outside (fun _ => rfl) s
theorem quiet_readCounts : QuietOutcome s (execReadCounts tag s) := quiet_hostNow_of_outside (fun _ => rfl) s

theorem quiet_setNoticeEnables (m : Bool) (e : Enables) : QuietOutcome s (execSetNoticeEnables tag m e s) :=
  quiet_hostNow_of_outside (fun _ => rfl) s

theorem quiet_book (f : BookForm) : QuietOutcome s (execBook tag f s) := quiet_hostNow_of_outside (fun u => outside_book u f) s
theorem quiet_amend (f : AmendForm) : QuietOutcome s (execAmend tag f s) :=
  quiet_hostNow_of_outside (fun u => outside_amend u f) s
theorem quiet_cancel (h : Handle) : QuietOutcome s (execCancel tag h s) :=
  quiet_hostNow_of_outside (fun u => outside_cancel u h) s
theorem quiet_createSeries (f : SeriesForm) : QuietOutcome s (execCreateSeries tag f s) :=
  quiet_hostNow_of_outside (fun u => outside_createSeries u f) s
theorem quiet_order (h : Handle) (f : OrderForm) : QuietOutcome s (execOrder tag h f s) :=
  quiet_hostNow_of_outside (fun u => outside_order u h f) s
theorem quiet_changeOrder (h : Handle) (f : OrderForm) : QuietOutcome s (execChangeOrder tag h f s) :=
  quiet_hostNow_of_outside (fun u => outside_changeOrder u h f) s

theorem quiet_setDistances (a : Nat) (row : List Nat) : QuietOutcome s (execSetDistances tag a row s) := by
  refine quiet_hostNow (fun u => ?_) s
  split
  · rfl
  · split <;> simp

theorem quiet_setWeights (w : Weights) : QuietOutcome s (execSetWeights tag w s) := by
  refine quiet_hostNow (fun u => ?_) s
  split <;> simp

theorem quiet_setPolicy (f : PolicyForm) : QuietOutcome s (execSetPolicy tag f s) := by
  refine quiet_hostNow (fun u => ?_) s
  split
  · rfl
  · split <;> simp

theorem quiet_setRoom (f : RoomForm) : QuietOutcome s (execSetRoom tag f s) := by
  refine quiet_hostNow_of_outside (fun u => ?_) s
  split
  · rfl
  · unfold State.setRoom State.storeRoom
    dsimp only
    repeat' split
    all_goals simp

theorem quiet_removeRoom (r : Nat) : QuietOutcome s (execRemoveRoom tag r s) := by
  refine quiet_hostNow_of_outside (fun u => ?_) s
  dsimp only
  repeat' split
  all_goals simp

theorem quiet_readRoom (r : Nat) : QuietOutcome s (execReadRoom tag r s) := by
  refine quiet_hostNow_of_outside (fun u => ?_) s
  split
  · rfl
  · split <;> rfl

theorem quiet_setKitchen (f : KitchenForm) : QuietOutcome s (execSetKitchen tag f s) := by
  refine quiet_hostNow_of_outside (fun u => ?_) s
  split
  · rfl
  · split <;> rfl

theorem quiet_setKitchenProfile (k : Nat) (p : List Nat) : QuietOutcome s (execSetKitchenProfile tag k p s) := by
  refine quiet_hostNow_of_outside (fun u => ?_) s
  repeat' split
  all_goals rfl

theorem quiet_removeKitchen (k : Nat) : QuietOutcome s (execRemoveKitchen tag k s) := by
  refine quiet_hostNow_of_outside (fun u => ?_) s
  dsimp only
  repeat' split
  all_goals rfl

theorem quiet_readKitchen (k : Nat) : QuietOutcome s (execReadKitchen tag k s) := by
  refine quiet_hostNow_of_outside (fun u => ?_) s
  split
  · rfl
  · split <;> rfl

theorem quiet_readBooking (h : Handle) : QuietOutcome s (execReadBooking tag h s) := by
  refine quiet_hostNow_of_outside (fun u => ?_) s
  split <;> rfl

theorem quiet_listRoom (r : Nat) (m n : Option Nat) : QuietOutcome s (execListRoom tag r m n s) := by
  refine quiet_hostNow_of_outside (fun u => ?_) s
  split
  · rfl
  · split <;> rfl

theorem quiet_endSeries (id : Nat) : QuietOutcome s (execEndSeries tag id s) := by
  refine quiet_hostNow_of_outside (fun u => ?_) s
  split
  · rfl
  · split
    · rfl
    · split <;> rfl

theorem quiet_resumeSeries (id : Nat) : QuietOutcome s (execResumeSeries tag id s) := by
  refine quiet_hostNow_of_outside (fun u => ?_) s
  split
  · rfl
  · split
    · rfl
    · rfl
    · split <;> simp

theorem quiet_readSeries (id : Nat) : QuietOutcome s (execReadSeries tag id s) := by
  refine quiet_hostNow_of_outside (fun u => ?_) s
  split
  · rfl
  · split <;> rfl

theorem quiet_place (f : PlaceForm) : QuietOutcome s (execPlace tag f s) :=
  quiet_hostLater (fun _ u => standing_admitSearch u _ _ _ _ _ _) s

theorem quiet_placeAndBook (f : PlaceBookForm) : QuietOutcome s (execPlaceAndBook tag f s) :=
  quiet_hostLater (fun _ u => standing_admitSearch u _ _ _ _ _ _) s

theorem quiet_closeRoom (f : CloseForm) : QuietOutcome s (execCloseRoom tag f s) :=
  quiet_hostLater (fun ref u => standing_closeRoom u f ref) s

theorem quiet_reopenRoom (r : Nat) : QuietOutcome s (execReopenRoom tag r s) := by
  refine quiet_hostNow_of_outside (fun u => ?_) s
  unfold State.reopenRoom
  repeat' split
  all_goals simp

theorem quiet_bindPanel (p k r : Nat) : QuietOutcome s (execBindPanel tag p k r s) := by
  refine quiet_hostNow (fun u => ?_) s
  split
  · rfl
  · unfold State.bindPanel
    dsimp only
    split <;> simp

theorem quiet_unbind (p : Nat) : QuietOutcome s (execUnbind tag p s) := by
  refine quiet_hostLater (fun ref u => ?_) s
  dsimp only
  repeat' split
  all_goals simp [leftLater, State.holdPanel]

theorem quiet_bar (p : Nat) : QuietOutcome s (execBar tag p s) := by
  refine quiet_hostLater (fun ref u => ?_) s
  repeat' split
  all_goals simp [leftLater, State.holdPanel]

theorem quiet_unbar (p : Nat) : QuietOutcome s (execUnbar tag p s) := by
  refine quiet_hostNow_of_outside (fun u => ?_) s
  repeat' split
  all_goals rfl

theorem quiet_setPoll (p e : Nat) : QuietOutcome s (execSetPoll tag p e s) := by
  refine quiet_hostNow_of_outside (fun u => ?_) s
  split
  · rfl
  · split <;> rfl

theorem quiet_readPanel (p : Nat) : QuietOutcome s (execReadPanel tag p s) := by
  refine quiet_hostNow_of_outside (fun u => ?_) s
  split <;> rfl

theorem quiet_voidOrder (h : Handle) : QuietOutcome s (execVoidOrder tag h s) := by
  refine quiet_hostNow_of_outside (fun u => ?_) s
  split
  · rfl
  · split
    all_goals simp

theorem quiet_readLoad (k day w : Nat) (n : Option Nat) : QuietOutcome s (execReadLoad tag k day w n s) := by
  refine quiet_hostNow_of_outside (fun u => ?_) s
  split
  · rfl
  · split <;> rfl

theorem quiet_nextChanged (category : Nat) : QuietOutcome s (execNextChanged tag category s) := by
  refine quiet_hostNow_of_outside (fun u => ?_) s
  split
  · unfold State.nextBooking; split <;> rfl
  · unfold State.nextSeries; split <;> rfl
  · unfold State.nextPanel; split <;> rfl
  · rfl

end HostRequests

/-! ### Panel requests -/

section PanelRequests

variable (src : PanelRef) (h : Option Handle) (s : State)

@[simp] theorem plain_state (u : State) (st : Status) : (plain u st).1 = u := rfl

@[simp] theorem outside_setOrderState (u : State) (i : Nat) (st : OrderState) : (u.setOrderState i st).outside = u.outside := rfl

theorem quiet_panelNow_of_outside {src : PanelRef} {code : Nat} {cmd : Instr} {owner : State → State × PanelAnswer}
    (h : ∀ u, (owner u).1.outside = u.outside) (s : State) : QuietOutcome s (panelNow src code cmd owner s) :=
  quiet_panelNow (fun u => by rw [h u]) s

theorem quiet_checkIn (badge : Id32) : QuietOutcome s (execCheckIn src badge h s) :=
  quiet_panelNow_of_outside (fun u => outside_checkIn u src badge h) s

theorem quiet_walkUp (n : Nat) (badge : Id32) : QuietOutcome s (execWalkUp src n badge s) := by
  refine quiet_panelNow_of_outside (fun u => ?_) s
  split
  · rfl
  · split <;> simp

theorem quiet_extend (n : Nat) : QuietOutcome s (execExtend src n h s) := by
  refine quiet_panelNow_of_outside (fun u => ?_) s
  split
  · rfl
  · split
    · rfl
    · split <;> simp

theorem quiet_endNow : QuietOutcome s (execEndNow src h s) := by
  refine quiet_panelNow_of_outside (fun u => ?_) s
  split
  · rfl
  · split
    · rfl
    · split <;> simp

theorem quiet_findNearby : QuietOutcome s (execFindNearby src s) := by
  refine quiet_panelNow (fun u => ?_) s
  repeat' split
  all_goals simp

theorem quiet_out : QuietOutcome s (execOut src h s) := by
  refine quiet_panelNow_of_outside (fun u => ?_) s
  split
  · rfl
  · split <;> simp

theorem quiet_handed : QuietOutcome s (execHanded src h s) := by
  refine quiet_panelNow_of_outside (fun u => ?_) s
  split
  · rfl
  · split <;> simp

theorem quiet_discard : QuietOutcome s (execDiscard src h s) := by
  refine quiet_panelNow_of_outside (fun u => ?_) s
  split
  · rfl
  · split <;> simp

theorem quiet_received : QuietOutcome s (execReceived src h s) := by
  refine quiet_panelNow_of_outside (fun u => ?_) s
  split
  · rfl
  · split <;> simp

end PanelRequests

/-! ### All of them -/

/-- START moves the clock's state and no minute (R14). -/
def runsTheClock : Instr → Bool
  | .start _ => true
  | c => movesMinute c

/-- Every command but the clock's own and the resets is quiet. -/
theorem exec_quiet (c : Instr) (s : State) (h : runsTheClock c = false) : QuietOutcome s (exec c s) :=
  match c, h with
  | .retentionLoss, _ => quiet_retentionLoss s
  | .secondEvent, _ => quiet_secondEvent s
  | .windowExpiry _, _ => quiet_windowExpiry _ s
  | .absenceExpiry _, _ => quiet_absenceExpiry _ s
  | .startsAndEnds, _ => quiet_startsAndEnds s
  | .windowOpening, _ => quiet_windowOpening s
  | .commit, _ => quiet_commit s
  | .closureTimes, _ => quiet_closureTimes s
  | .retirementWalk, _ => quiet_retirementWalk s
  | .retirementWalkStep, _ => quiet_retirementWalkStep s
  | .seriesPassStep, _ => quiet_seriesPassStep s
  | .materialisationWalk, _ => quiet_materialisationWalk s
  | .materialisationWalkStep, _ => quiet_materialisationWalkStep s
  | .planningWalk, _ => quiet_planningWalk s
  | .planningWalkStep, _ => quiet_planningWalkStep s
  | .cancelPassStep, _ => quiet_cancelPassStep s
  | .status, _ => .done_of_standing (standing_beginTransfer s)
  | .otherTransferCommand _, _ => .done_of_standing (standing_beginTransfer s)
  | .send _, _ => quiet_send _ s
  | .fetch _, _ => quiet_fetch _ s
  | .linkReset, _ => quiet_linkReset s
  | .takeRequestFrame, _ => quiet_takeRequestFrame s
  | .readTime _, _ => quiet_readTime _ s
  | .readRetention _, _ => quiet_readRetention _ s
  | .setDistances _ _ _, _ => quiet_setDistances _ s _ _
  | .setRoom _ _, _ => quiet_setRoom _ s _
  | .removeRoom _ _, _ => quiet_removeRoom _ s _
  | .readRoom _ _, _ => quiet_readRoom _ s _
  | .setKitchen _ _, _ => quiet_setKitchen _ s _
  | .setKitchenProfile _ _ _, _ => quiet_setKitchenProfile _ s _ _
  | .removeKitchen _ _, _ => quiet_removeKitchen _ s _
  | .readKitchen _ _, _ => quiet_readKitchen _ s _
  | .setWeights _ _, _ => quiet_setWeights _ s _
  | .setPolicy _ _, _ => quiet_setPolicy _ s _
  | .readStore _, _ => quiet_readStore _ s
  | .book _ _, _ => quiet_book _ s _
  | .amend _ _, _ => quiet_amend _ s _
  | .cancel _ _, _ => quiet_cancel _ s _
  | .readBooking _ _, _ => quiet_readBooking _ s _
  | .listRoom _ _ _ _, _ => quiet_listRoom _ s _ _ _
  | .createSeries _ _, _ => quiet_createSeries _ s _
  | .endSeries _ _, _ => quiet_endSeries _ s _
  | .resumeSeries _ _, _ => quiet_resumeSeries _ s _
  | .readSeries _ _, _ => quiet_readSeries _ s _
  | .place _ _, _ => quiet_place _ s _
  | .placeAndBook _ _, _ => quiet_placeAndBook _ s _
  | .readPlacement _, _ => quiet_readPlacement _ s
  | .readTimers _, _ => quiet_readTimers _ s
  | .bindPanel _ _ _ _, _ => quiet_bindPanel _ s _ _ _
  | .unbind _ _, _ => quiet_unbind _ s _
  | .bar _ _, _ => quiet_bar _ s _
  | .unbar _ _, _ => quiet_unbar _ s _
  | .setPoll _ _ _, _ => quiet_setPoll _ s _ _
  | .readPanel _ _, _ => quiet_readPanel _ s _
  | .order _ _ _, _ => quiet_order _ s _ _
  | .changeOrder _ _ _, _ => quiet_changeOrder _ s _ _
  | .voidOrder _ _, _ => quiet_voidOrder _ s _
  | .readLoad _ _ _ _ _, _ => quiet_readLoad _ s _ _ _ _
  | .closeRoom _ _, _ => quiet_closeRoom _ s _
  | .reopenRoom _ _, _ => quiet_reopenRoom _ s _
  | .readSweep _, _ => quiet_readSweep _ s
  | .setNoticeEnables _ _ _, _ => quiet_setNoticeEnables _ s _ _
  | .readNotices _, _ => quiet_readNotices _ s
  | .nextChanged _ _, _ => quiet_nextChanged _ s _
  | .readCounts _, _ => quiet_readCounts _ s
  | .searchTake, _ => quiet_searchTake s
  | .placementWalkStep, _ => quiet_placementWalkStep s
  | .placeCompletion, _ => quiet_placeCompletion s
  | .placeAndBookCompletion, _ => quiet_placeAndBookCompletion s
  | .findNearbyCompletion, _ => quiet_findNearbyCompletion s
  | .sweepSearchCompletion, _ => quiet_sweepSearchCompletion s
  | .withdrawal _ _, _ => quiet_withdrawal _ _ s
  | .sweepStep, _ => quiet_sweepStep s
  | .sweepReport, _ => quiet_sweepReport s
  | .panelSecond, _ => .done_of_standing rfl
  | .deferredViewBuild _, _ => quiet_deferredViewBuild _ s
  | .poll _, _ => quiet_poll _ s
  | .reply _ _, _ => quiet_reply _ _ s
  | .followUpReply _ _, _ => quiet_followUpReply _ _ s
  | .replyTimeout _, _ => quiet_replyTimeout _ s
  | .frameDiscarded _ _, _ => .same s
  | .holdTakesEffect _, _ => quiet_holdTakesEffect _ s
  | .viewBuild _, _ => quiet_viewBuild _ s
  | .listBuild _, _ => quiet_listBuild _ s
  | .checkIn _ _ _, _ => quiet_checkIn _ _ s _
  | .occupancyReading _ _ _, _ => quiet_occupancyReading _ _ _ s
  | .panelUnavailable _, _ => quiet_panelUnavailable _ s
  | .panelAvailable _, _ => quiet_panelAvailable _ s
  | .walkUp _ _ _, _ => quiet_walkUp _ s _ _
  | .extend _ _ _, _ => quiet_extend _ _ s _
  | .endNow _ _, _ => quiet_endNow _ _ s
  | .findNearby _, _ => quiet_findNearby _ s
  | .out _ _, _ => quiet_out _ _ s
  | .handed _ _, _ => quiet_handed _ _ s
  | .discard _ _, _ => quiet_discard _ _ s
  | .received _ _, _ => quiet_received _ _ s
  | .catchUpCommitStep, _ => quiet_catchUpCommitStep s
  | .catchUpClosureStep, _ => quiet_catchUpClosureStep s
  | .catchUpBookingStep, _ => quiet_catchUpBookingStep s
  | .catchUpDays, _ => quiet_catchUpDays s

end Sys2Proof.Machine
end

section
/-! SUPPORT. The clock's own commands and the resets, and the two statements about every step. -/

namespace Sys2Proof.Machine

variable {s t u : State}

/-! ### Laws of the clock -/

/-- The dial of a legal clock (01 section 1.6, R14). -/
def Dial.Legal (d : Dial) : Prop :=
  d.minute ≤ Config.maxMinute ∧ d.second < 60 ∧ d.watch < 3 ∧ (d.state ≠ .stopped → d.timeSet = true)

theorem minute_eq (s : State) : s.clock.minute = s.outside.standing.dial.minute := rfl

theorem clockLegal_iff : s.clockLegal = true ↔ s.outside.standing.dial.Legal := by
  simp only [State.clockLegal, State.running, Dial.Legal, standing_eq, standingOf, Clock.dial, Bool.and_eq_true, Bool.or_eq_true,
    Bool.not_eq_true', decide_eq_true_eq, decide_eq_false_iff_not, not_not, and_assoc]
  by_cases h : s.clock.state = .stopped <;> simp [h]

/-- What every command keeps: a link within its places, and a legal clock. -/
structure Lawful (s t : State) : Prop where
  fits : s.linkFits = true → t.linkFits = true
  legal : s.clockLegal = true → t.clockLegal = true

theorem Quiet.lawful (h : Quiet s t) : Lawful s t :=
  ⟨h.fits, fun hs => by rw [clockLegal_iff, h.dial]; exact clockLegal_iff.mp hs⟩

theorem Lawful.refl (s : State) : Lawful s s := ⟨id, id⟩

theorem Lawful.trans (h : Lawful s t) (h' : Lawful t u) : Lawful s u := ⟨fun hs => h'.fits (h.fits hs), fun hs => h'.legal (h.legal hs)⟩

/-- A change of the clock alone. -/
theorem lawful_of_clock (hl : t.link = s.link)
    (h : s.outside.standing.dial.Legal → t.clock.dial.Legal) : Lawful s t :=
  ⟨fun hs => by rw [linkFits_iff, standing_eq] at *; simpa [standingOf, hl] using hs,
    fun hs => clockLegal_iff.mpr (h (clockLegal_iff.mp hs))⟩

theorem lawful_followAttn (s : State) : Lawful s s.followAttn := (Quiet.of_standing (standing_followAttn s)).lawful

theorem lawful_raiseClock (s : State) : Lawful s s.raiseClock := (Quiet.of_standing (t := s.raiseClock) (by simp [State.raiseClock])).lawful

/-! ### Counted seconds and minutes -/

theorem nextMinute_link : s.nextMinute.link = s.link := by
  unfold State.nextMinute
  split
  · rfl
  · dsimp only; split <;> rfl

/-- The minute that follows, and nothing else of the dial (R15). -/
theorem nextMinute_dial : s.nextMinute.clock.dial =
    { s.clock.dial with minute := if Config.maxMinute ≤ s.clock.minute then s.clock.minute else s.clock.minute + 1 } := by
  unfold State.nextMinute
  split
  · rfl
  · dsimp only; split <;> rfl

theorem lawful_nextMinute (s : State) : Lawful s s.nextMinute := by
  refine lawful_of_clock nextMinute_link fun ⟨hm, hs, hw, hr⟩ => ?_
  rw [nextMinute_dial]
  refine ⟨?_, hs, hw, hr⟩
  have hm' : s.clock.minute ≤ Config.maxMinute := hm
  dsimp only
  split <;> omega

theorem lawful_countSecond (s : State) : Lawful s s.countSecond := by
  unfold State.countSecond
  dsimp only
  split
  · rename_i h
    exact lawful_of_clock rfl fun ⟨hm, _, hw, hr⟩ => ⟨hm, h, hw, hr⟩
  · refine .trans ?_ (lawful_nextMinute _)
    exact lawful_of_clock rfl fun ⟨hm, _, hw, hr⟩ => ⟨hm, by simp [Clock.dial], hw, hr⟩

theorem lawful_holdover (h : s.running = true) : Lawful s s.holdover := by
  have h0 : Lawful s { s with clock := { s.clock with state := .holdover, watch := 0 } } :=
    lawful_of_clock rfl fun ⟨hm, hs, _, hr⟩ =>
      ⟨hm, hs, by simp [Clock.dial], fun _ => hr (of_decide_eq_true h)⟩
  unfold State.holdover
  exact (((h0.trans (lawful_countSecond _)).trans (lawful_countSecond _)).trans (lawful_countSecond _)).trans
    (lawful_raiseClock _)

/-! ### The clock's commands -/

/-- A command's outcome is lawful. -/
def LawfulOutcome (s : State) (o : Outcome) : Prop := ∀ t, o = .next t → Lawful s t

theorem LawfulOutcome.same (s : State) : LawfulOutcome s (.next s) := by
  intro t h; cases h; exact .refl s

theorem LawfulOutcome.done (h : Lawful s u) : LawfulOutcome s (done u) := by
  intro t ht; cases ht; exact h.trans (lawful_followAttn u)

theorem lawful_secEdge (n : Nat) (s : State) : LawfulOutcome s (execSecEdge n s) := by
  unfold execSecEdge
  have hw (st : ClockState) (h : s.clock.state ≠ .stopped) :
      Lawful s { s with clock := { s.clock with state := st, watch := 0 } } :=
    lawful_of_clock rfl fun ⟨hm, hs, _, hr⟩ => ⟨hm, hs, by simp [Clock.dial], fun _ => hr h⟩
  split
  · exact .same s
  · rename_i h
    have hw' := hw s.clock.state (by simp [h])
    exact .done (hw'.trans (lawful_countSecond _))
  · rename_i h
    have hw' := hw .running (by simp [h])
    refine .done ?_
    split
    · exact hw'.trans (lawful_countSecond _)
    · exact hw'

theorem lawful_dividerTick (s : State) : LawfulOutcome s (execDividerTick s) := by
  unfold execDividerTick
  split
  · exact .same s
  · rename_i h
    split
    · rename_i hw
      exact .done (lawful_of_clock rfl fun ⟨hm, hs, _, hr⟩ => ⟨hm, hs, hw, hr⟩)
    · exact .done (lawful_holdover (by simp [State.running, h]))
  · exact .done (lawful_countSecond s)

theorem lawful_enterHoldover (s : State) : LawfulOutcome s (execEnterHoldover s) := by
  unfold execEnterHoldover
  split
  · rename_i h
    exact .done (lawful_holdover (by simp [State.running, h.1]))
  · exact .same s

theorem lawful_minuteEvent (s : State) : LawfulOutcome s (execMinuteEvent s) := by
  unfold execMinuteEvent
  split
  · exact .done (lawful_countSecond s)
  · exact .same s

/-! ### The resets -/

theorem standing_powerOn (s : State) : s.powerOn.outside.standing = ⟨⟨0, 0, 0, .stopped, false⟩, 0, 0⟩ := by
  have hc : s.powerOn.clock = ⟨0, 0, .stopped, false, 0, none, 0, []⟩ := by unfold State.powerOn State.reset; rfl
  have hl : s.powerOn.link = ⟨[], [], [], [], false, []⟩ := by unfold State.powerOn State.reset; rfl
  rw [standing_eq, hc, hl]
  rfl

theorem lawful_powerOn (s : State) : Lawful s s.powerOn :=
  ⟨fun _ => by simp [linkFits_iff, standing_powerOn], fun _ => by simp [clockLegal_iff, standing_powerOn, Dial.Legal]⟩

@[simp] theorem standing_rebuildPanel (s : State) (p : Nat) : (s.rebuildPanel p).outside.standing = s.outside.standing := by
  unfold State.rebuildPanel; split <;> rfl

@[simp] theorem standing_warmPanels (s : State) : s.warmPanels.outside.standing = s.outside.standing := by
  unfold State.warmPanels
  rw [overAll_keeps (fun t => t.outside.standing) fun p t => standing_rebuildPanel t p]
  rfl

@[simp] theorem standing_makeHolds (s : State) : s.makeHolds.outside.standing = s.outside.standing := by
  unfold State.makeHolds
  exact overAll_keeps (fun t => t.outside.standing) (fun p t => by split <;> simp) s

@[simp] theorem standing_abandonSweep (s : State) : s.abandonSweep.outside.standing = s.outside.standing := by
  unfold State.abandonSweep; split <;> rfl

theorem standing_warmBlocks (s : State) :
    s.warmBlocks.outside.standing = ⟨⟨s.clock.minute, 0, 0, .stopped, false⟩, 0, 0⟩ := by
  rw [State.warmBlocks, standing_mk]
  rfl

/-- A warm reset stops the clock at its minute with no time set, and empties the link (R13, R174). -/
theorem standing_warm (s : State) :
    s.warm.outside.standing = ⟨⟨s.clock.minute, 0, 0, .stopped, false⟩, 0, 0⟩ := by
  have h : s.makeHolds.abandonSweep.outside.standing = s.outside.standing := by simp
  have hm : s.makeHolds.abandonSweep.clock.minute = s.clock.minute := by
    rw [minute_eq, h, ← minute_eq]
  have hr (u : State) : u.rederive.outside.standing = u.outside.standing := rfl
  have hc (u : State) : u.abandonWalks.dropTimers.clock = u.clock := rfl
  rw [State.warm, hr]
  rw [standing_warmPanels, standing_warmBlocks, hc, hm]

theorem lawful_warmReset (s : State) : LawfulOutcome s (execWarmReset s) := by
  unfold execWarmReset
  split
  · refine .done ⟨fun _ => ?_, fun hs => ?_⟩
    · rw [linkFits_iff, standing_warm]
      simp
    · have hm := (clockLegal_iff.mp hs).1
      rw [clockLegal_iff, standing_warm]
      exact ⟨hm, by simp⟩
  · exact .done (lawful_powerOn s)

/-! ### SET_TIME, START and TRIM_TIME -/

theorem lawful_hostNow {tag : Byte} {kind : Nat} {cmd : Instr} {owner : State → Reply}
    (h : ∀ u, Lawful u (owner u).state) (s : State) : LawfulOutcome s (hostNow tag kind cmd owner s) := by
  unfold hostNow
  split
  · exact .same s
  · rename_i u ref hu
    intro t ht
    cases ht
    exact ((quiet_takeRequest hu).lawful.trans (h u)).trans (Quiet.of_standing (by simp)).lawful

theorem lawful_setTime (tag : Byte) (m sec : Nat) (s : State) : LawfulOutcome s (execSetTime tag m sec s) := by
  refine lawful_hostNow (fun u => ?_) s
  split
  · exact .refl u
  · split
    · exact .refl u
    · exact lawful_of_clock rfl fun ⟨_, _, hw, _⟩ => ⟨by simp [Clock.dial, State.storeTime]; omega,
        by simp [Clock.dial, State.storeTime]; omega, hw, fun _ => rfl⟩

/-- START leaves the minute, the second and the link, zeroes watch and runs the clock (R14). -/
theorem startClock_dial (s : State) : s.startClock.clock.dial = { s.clock.dial with watch := 0, state := .running } := by
  unfold State.startClock; dsimp only; split <;> rfl

theorem startClock_link (s : State) : s.startClock.link = s.link := by
  unfold State.startClock; dsimp only; split <;> rfl

theorem lawful_start (tag : Byte) (s : State) : LawfulOutcome s (execStart tag s) := by
  refine lawful_hostNow (fun u => ?_) s
  split
  · exact .refl u
  · split
    · exact .refl u
    · rename_i ht
      refine lawful_of_clock (startClock_link u) fun ⟨hm, hs, _, _⟩ => ?_
      rw [startClock_dial]
      exact ⟨hm, hs, by simp, fun _ => by simpa [Clock.dial] using ht⟩

/-- Steps that each keep the standing keep it together. -/
theorem standing_stepped {f : State → State} (h : ∀ u, (f u).outside.standing = u.outside.standing) (s : State) :
    (s.stepped f).outside.standing = s.outside.standing := by
  simp [State.stepped, h]

theorem standing_takeSeconds (n : Nat) (s : State) : (State.takeSeconds n s).outside.standing = s.outside.standing := by
  induction n generalizing s with
  | zero => rfl
  | succ n ih => rw [State.takeSeconds, ih, standing_stepped (by simp)]

/-- What is owed is taken without the clock or the link (log 9). -/
theorem standing_takeOwed (s : State) : s.takeOwed.outside.standing = s.outside.standing := by
  have fold {f : Nat → State → State} (h : ∀ m u, (f m u).outside.standing = u.outside.standing) (l : List Nat) (u : State) :
      (l.foldl (fun t m => t.stepped (f m)) u).outside.standing = u.outside.standing :=
    foldl_keeps (fun t => t.outside.standing) (fun t m => standing_stepped (h m) t) l u
  unfold State.takeOwed
  rw [fold (by simp), fold (by simp), fold (by simp), fold (by simp), standing_takeSeconds]
  rfl

theorem lawful_trimForward (n : Nat) (s : State) : Lawful s (State.trimForward n s) := by
  induction n generalizing s with
  | zero => exact .refl s
  | succ n ih =>
    refine Lawful.trans ?_ (ih _)
    refine (lawful_nextMinute s).trans (Quiet.of_standing ?_).lawful
    simp [State.trimForwardStep, standing_takeOwed, State.stepped, State.trimMinute]

theorem lawful_trim (n : Int) (s : State) : Lawful s (s.trim n) := by
  refine Lawful.trans (Quiet.of_standing (standing_takeOwed s)).lawful ?_
  unfold State.trim
  dsimp only
  refine Lawful.trans ?_ (lawful_raiseClock _)
  split
  · exact lawful_trimForward _ _
  · exact lawful_of_clock rfl fun ⟨hm, hs, hw, hr⟩ => ⟨le_trans (Nat.sub_le _ _) hm, hs, hw, hr⟩

theorem lawful_trimTime (tag : Byte) (n : Int) (s : State) : LawfulOutcome s (execTrimTime tag n s) := by
  unfold execTrimTime hostStepped
  split
  · exact .same s
  · rename_i u ref hu
    refine .done ((quiet_takeRequest hu).lawful.trans (Lawful.trans ?_ (Quiet.of_standing (standing_answer _ _ _ _)).lawful))
    dsimp only
    split
    · exact .refl u
    · split
      · exact .refl u
      · split
        · exact .refl u
        · split
          · exact .refl u
          · exact lawful_trim n u

/-! ### The statements -/

/-- What every command keeps of the clock and the link. -/
theorem exec_lawful (c : Instr) (s : State) : LawfulOutcome s (exec c s) := by
  by_cases h : runsTheClock c = false
  · exact fun t ht => (exec_quiet c s h t ht).lawful
  · cases c <;> simp only [runsTheClock, movesMinute, not_true_eq_false] at h
    case powerOnReset => exact .done (lawful_powerOn s)
    case warmReset => exact lawful_warmReset s
    case secEdge n => exact lawful_secEdge n s
    case dividerTick => exact lawful_dividerTick s
    case enterHoldover => exact lawful_enterHoldover s
    case minuteEvent => exact lawful_minuteEvent s
    case setTime tag m sec => exact lawful_setTime tag m sec s
    case start tag => exact lawful_start tag s
    case trimTime tag n => exact lawful_trimTime tag n s

/-- START leaves the minute (R14). -/
theorem start_minute {tag : Byte} (h : execStart tag s = .next t) : t.clock.minute = s.clock.minute := by
  unfold execStart hostNow at h
  split at h
  · cases h; rfl
  · rename_i u ref hu
    cases h
    have hs : u.clock.minute = s.clock.minute := by rw [(takeRequest_keeps hu).1]
    rw [minute_eq, standing_followAttn, outside_relist, standing_answer, ← hs, ← minute_eq]
    dsimp only
    split
    · rfl
    · split
      · rfl
      · exact congrArg Dial.minute (startClock_dial u)

/-- ATTN follows its terms after every command that changed anything (R173). -/
theorem exec_attnFollows {c : Instr} (h : exec c s = .next t) (hs : s.attnFollows = true) : t.attnFollows = true := by
  rcases exec_settles c s with h' | ⟨u, h'⟩
  · rw [h'] at h; cases h; exact hs
  · rw [h'] at h; cases h
    simp [State.attnFollows, State.followAttn, State.attnTerms]

/-- Settles O10. -/
theorem onlyTheClockMovesTheMinute : Obligations.OnlyTheClockMovesTheMinute := by
  intro s t c hc h
  by_cases hq : runsTheClock c = false
  · exact congrArg Dial.minute (exec_quiet c s hq t h).dial
  · cases c <;> simp only [runsTheClock, movesMinute, not_true_eq_false, Bool.true_eq_false] at hq hc
    case start tag => exact start_minute h

/-- Settles O55. -/
theorem everyStepKeepsTheLinkAndTheClockLegal : Obligations.EveryStepKeepsTheLinkAndTheClockLegal := by
  intro s t h
  unfold step at h
  split at h
  · cases h; exact ⟨id, id, id⟩
  · rename_i c rest _
    have hl := exec_lawful c _ t h
    exact ⟨exec_attnFollows (s := { s with pending := rest }) h, hl.fits, hl.legal⟩

end Sys2Proof.Machine
end

section
/-! SUPPORT. The configuration requests of chapter 1 (R1 to R12): distances, weights, the policy record, kitchens and rooms. -/

namespace Sys2Proof.Machine

variable {s s1 t u : State} {tag : Byte} {kind : Nat} {ref : HostRef} {c : Instr}

/-! ### Requests taken by their owners -/

/-- What `State.taken` says of a host request, as the wrappers read it. -/
theorem takeRequest_of_taken (hr : requestOf c = some (tag, kind)) (h : s.taken c = some (s1, ref)) :
    s.takeRequest tag kind c = some (s1, ref) := (taken_eq hr).symm.trans h

/-- A request of a known kind that its owner answers without a change. -/
theorem taken_reads {owner : State → Reply} {st : Status} {body : List Field} (hr : requestOf c = some (tag, kind))
    (h : s.taken c = some (s1, ref)) (ho : owner s1 = ⟨s1, st, body⟩) :
    hostNow tag kind c owner s = .next (s1.answered ref st body) := hostNow_reads (takeRequest_of_taken hr h) ho

/-- A kitchen's list depends on its dispatch queue, the directory and the buildings of the rooms. -/
theorem kitchenList_of_dispatch (k : Nat) (hk : (t.kitchen k).dispatch = (s.kitchen k).dispatch) (hd : t.dir = s.dir)
    (hb : ∀ r, (t.room r).building = (s.room r).building) : t.kitchenList k = s.kitchenList k := by
  simp [State.kitchenList, State.bookingAt, hk, hd, hb]

/-- A request whose owner leaves every kitchen's list as it was. -/
theorem taken_keepsLists {owner : State → Reply} {st : Status} {body : List Field} (hr : requestOf c = some (tag, kind))
    (h : s.taken c = some (s1, ref)) (ho : owner s1 = ⟨u, st, body⟩) (hl : ∀ k, u.kitchenList k = s1.kitchenList k) :
    hostNow tag kind c owner s = .next (u.answered ref st body) := by
  have ht := takeRequest_of_taken hr h
  have hs := (takeRequest_keeps ht).1
  rw [hostNow_taken owner ht, ho, State.answered, relist_eq_self]
  intro k
  rw [kitchenList_congr (answer_kitchens st body) (answer_dir st body) (answer_rooms st body), hl k]
  exact (kitchenList_congr (by rw [hs]) (by rw [hs]) (by rw [hs]) k).symm

/-! ### Lists over a range -/

theorem upFrom_eq_range' (a n : Nat) : upFrom a n = List.range' a n := by
  induction n generalizing a with
  | zero => rfl
  | succ n ih => rw [upFrom, ih, List.range'_succ]

theorem upFrom_zero_eq_range (n : Nat) : upFrom 0 n = List.range n := by rw [upFrom_eq_range', List.range_eq_range']

/-- An entry of a list tabulated over a range. -/
theorem getD_map_upFrom {α : Type} {f : Nat → α} {n i : Nat} {d : α} (h : i < n) : ((upFrom 0 n).map f).getD i d = f i := by
  simp [upFrom_zero_eq_range, List.getD_eq_getElem?_getD, h]

/-- A list is tabulated by its own entries. -/
theorem map_getD_upFrom (l : List Nat) : (upFrom 0 l.length).map (fun i => l.getD i 0) = l := by
  refine List.ext_getElem (by simp) fun i h _ => ?_
  have hi : i < l.length := by simpa using h
  simp [upFrom_zero_eq_range, hi]

/-- How many of the values that a request carries were clamped. -/
theorem countClamped_map {n : Nat} {l : List Nat} (hl : l.length = n) (f : Nat → Nat) :
    countClamped l ((upFrom 0 n).map f) =
      ((upFrom 0 n).filter fun b => l.getD b 0 ≠ ((upFrom 0 n).map f).getD b 0).length := by
  have hz : l.zip ((upFrom 0 n).map f) = (upFrom 0 n).map fun i => (l.getD i 0, f i) := by
    conv_lhs => rw [← map_getD_upFrom l, hl]
    rw [List.zip_map']
  rw [countClamped, hz, List.filter_map, List.length_map]
  congr 1
  refine List.filter_congr fun i hi => ?_
  have hi' : i < n := by simpa [mem_upFrom] using hi
  simp only [Function.comp_apply, getD_map_upFrom hi']

/-! ### R12: configuration waits -/

/-- During the catch-up walk every configuration request is answered WAIT (R12). -/
theorem configuration_waits (hc : isConfiguration c = true) (h : s.taken c = some (s1, ref)) (hw : s1.catching = true) :
    exec c s = .next (s1.answered ref .wait []) := by
  cases c with
  | setDistances | setRoom | removeRoom | setKitchen | setKitchenProfile | removeKitchen | setWeights | setPolicy =>
    exact taken_reads rfl h (if_pos hw)
  | _ => simp [isConfiguration, requestOf] at hc

/-! ### R1, R10, R11: distances, weights and the policy record -/

/-- The row that SET_DISTANCES stores (R1). -/
theorem distanceRow_getD {a b : Nat} (row : List Nat) (h : b < 64) :
    (distanceRow a row).getD b 0 = if b = a then 0 else min (row.getD b 0) 63 := getD_map_upFrom h

theorem setDistances_stores {a : Nat} {row : List Nat} (h : s.taken (.setDistances tag a row) = some (s1, ref))
    (hw : s1.catching = false) (ha : a ≤ 63) : exec (.setDistances tag a row) s = .next
      (({ s1 with distance := s1.distance.set a (distanceRow a row) }).answered ref .ok
        ((distanceRow a row).map u8 ++ [u8 (countClamped row (distanceRow a row))])) := by
  refine hostNow_plain (takeRequest_of_taken rfl h) ?_ rfl rfl rfl
  have ha' : ¬ Config.buildings ≤ a := by simp only [Config.buildings]; omega
  simp [hw, ha']

theorem setDistances_refused {a : Nat} {row : List Nat} (h : s.taken (.setDistances tag a row) = some (s1, ref))
    (hw : s1.catching = false) (ha : 63 < a) : exec (.setDistances tag a row) s = .next (s1.answered ref .badField []) := by
  have ha' : Config.buildings ≤ a := ha
  exact taken_reads rfl h (by simp [hw, ha', refuse])

theorem setWeights_stores {w : Weights} (h : s.taken (.setWeights tag w) = some (s1, ref)) (hw : s1.catching = false) :
    exec (.setWeights tag w) s = .next
      (({ s1 with weights := ⟨min w.wF 15, min w.wD 15, min w.wW 15, min w.wR 15⟩ }).answered ref .ok
        [u8 (min w.wF 15), u8 (min w.wD 15), u8 (min w.wW 15), u8 (min w.wR 15)]) :=
  hostNow_plain (takeRequest_of_taken rfl h) (by simp [hw]) rfl rfl rfl

theorem setPolicy_stores {f : PolicyForm} (h : s.taken (.setPolicy tag f) = some (s1, ref)) (hw : s1.catching = false)
    (hp : f.policy ≤ 1) (ho : f.who ≤ 1) :
    ∃ body, exec (.setPolicy tag f) s = .next (({ s1 with policyRec := storedPolicy f }).answered ref .ok body) := by
  have hr : ¬ (1 < f.policy ∨ 1 < f.who) := by omega
  exact ⟨_, hostNow_plain (takeRequest_of_taken rfl h) (by simp only [hw, hr, if_false, Bool.false_eq_true]; rfl) rfl rfl rfl⟩

theorem ceilGrid_eq (n : Nat) : ceilGrid n = (n + 4) / 5 * 5 := by unfold ceilGrid floorGrid; omega

/-- turnover is rounded up to the grid and clamped to 30 (R3, R11). -/
theorem clampTurnover_eq (n : Nat) : clampTurnover n = min ((n + 4) / 5 * 5) 30 := by rw [clampTurnover, ceilGrid_eq]

theorem policyOf_eq_required {n : Nat} : policyOf n = .required ↔ n = 0 := by
  unfold policyOf; split <;> simp_all

theorem whoOf_eq_anyone {n : Nat} : whoOf n = .anyone ↔ n = 0 := by
  unfold whoOf; split <;> simp_all

theorem clampAbsence_range (n : Nat) : clampAbsence n = 0 ∨ 5 ≤ clampAbsence n ∧ clampAbsence n ≤ 60 := by
  unfold clampAbsence; split <;> omega

theorem clampAbsence_of_range {n : Nat} (h : n = 0 ∨ 5 ≤ n ∧ n ≤ 60) : clampAbsence n = n := by
  unfold clampAbsence; split <;> omega

/-- Settles O4. -/
theorem configurationWaitsOrIsStored : Obligations.ConfigurationWaitsOrIsStored := by
  refine ⟨fun s s1 ref c h hc hw => configuration_waits hc h hw, fun s s1 ref tag a row h hw hl => ⟨fun ha => ?_, fun ha => ?_⟩,
    fun s s1 ref tag w h hw => setWeights_stores h hw, fun s s1 ref tag f h hw hp ho => ?_⟩
  · refine ⟨distanceRow a row, by simp [distanceRow, Config.buildings], fun b hb => distanceRow_getD row hb, ?_⟩
    rw [setDistances_stores h hw ha]
    exact congrArg (fun n => Host.Outcome.next (State.answered _ ref .ok ((distanceRow a row).map u8 ++ [u8 n])))
      (countClamped_map hl _)
  · exact setDistances_refused h hw ha
  · obtain ⟨body, he⟩ := setPolicy_stores h hw hp ho
    refine ⟨storedPolicy f, body, he, ?_, ?_, ?_, ?_, ?_, clampAbsence_range _, Nat.min_le_right _ _, policyOf_eq_required,
      whoOf_eq_anyone, ?_, ?_, ?_, clampAbsence_of_range, fun hn => Nat.min_eq_left hn⟩
    all_goals
      simp only [storedPolicy, clampTurnover_eq, clampEarly, clampGrace]
      omega

end Sys2Proof.Machine
end

section
/-! SUPPORT. The kitchens and the rooms of the Campus Tables (R2 to R8). -/

namespace Sys2Proof.Machine

variable {s s1 t u : State} {tag : Byte} {ref : HostRef}

/-! ### Kitchens -/

/-- A kitchen changed without its dispatch queue leaves every kitchen's dispatch queue. -/
theorem dispatch_modKitchen {k : Nat} {f : Kitchen → Kitchen} (h : (f (s.kitchen k)).dispatch = (s.kitchen k).dispatch) (q : Nat) :
    ((s.modKitchen k f).kitchen q).dispatch = (s.kitchen q).dispatch := by
  by_cases hk : k < s.kitchens.length
  · by_cases hq : k = q
    · rw [← hq, State.kitchen_modKitchen_same hk, h]
    · rw [State.kitchen_modKitchen_other hq]
  · have hs : s.modKitchen k f = s := by
      have hm : s.kitchens.modify k f = s.kitchens := List.modify_eq_self (Nat.le_of_not_lt hk)
      rw [State.modKitchen, hm]
    rw [hs]

theorem kitchenList_modKitchen {k : Nat} {f : Kitchen → Kitchen} (h : (f (s.kitchen k)).dispatch = (s.kitchen k).dispatch)
    (q : Nat) : (s.modKitchen k f).kitchenList q = s.kitchenList q :=
  kitchenList_of_dispatch q (dispatch_modKitchen h q) rfl fun _ => rfl

/-- The record that SET_KITCHEN stores for a kitchen in the table keeps what it does not carry (R6). -/
theorem kitchenOver_of_inTable {f : KitchenForm} {k : Kitchen} (h : k.inTable = true) : kitchenOver f k = { k with
    reach := (upFrom 0 64).map fun b => reachOf (f.reach.getD b 255), lead := clampLead f.lead, spill := min f.spill 3 } := by
  simp [kitchenOver, h, Config.buildings]

/-- For a kitchen that enters the table it starts from the values of R6. -/
theorem kitchenOver_of_absent {f : KitchenForm} {k : Kitchen} (h : k.inTable = false) : kitchenOver f k =
    { Kitchen.absent with
      inTable := true, reach := (upFrom 0 64).map fun b => reachOf (f.reach.getD b 255), lead := clampLead f.lead
      spill := min f.spill 3 } := by
  simp [kitchenOver, h, Config.buildings]

theorem kitchenOver_dispatch {f : KitchenForm} {k : Kitchen} (h : k.inTable = false → k.dispatch = []) :
    (kitchenOver f k).dispatch = k.dispatch := by
  cases hk : k.inTable
  · rw [kitchenOver_of_absent hk, h hk]
    rfl
  · rw [kitchenOver_of_inTable hk]

/-- The fields of the stored record that R6 gives for every SET_KITCHEN. -/
theorem kitchenOver_fields (f : KitchenForm) (k : Kitchen) :
    (kitchenOver f k).inTable = true ∧ (kitchenOver f k).lead = max 30 (min f.lead 240) ∧
      (kitchenOver f k).spill = min f.spill 3 ∧
      ∀ b < 64, (kitchenOver f k).reach.getD b none = if f.reach.getD b 255 = 255 then none else some (f.reach.getD b 255) := by
  have hr : (kitchenOver f k).reach = (upFrom 0 64).map fun b => reachOf (f.reach.getD b 255) := rfl
  refine ⟨?_, rfl, rfl, fun b hb => by rw [hr, getD_map_upFrom hb, reachOf]⟩
  cases hk : k.inTable
  · rw [kitchenOver_of_absent hk]
  · rw [kitchenOver_of_inTable hk]
    exact hk

theorem setKitchen_stores {f : KitchenForm} (h : s.taken (.setKitchen tag f) = some (s1, ref)) (hw : s1.catching = false)
    (hk : f.kitchen ≤ 7) (hr : (f.reach.all fun n => n ≤ 63 || n = 255) = true)
    (hd : (s1.kitchen f.kitchen).inTable = false → (s1.kitchen f.kitchen).dispatch = []) :
    ∃ body, exec (.setKitchen tag f) s = .next
      ((s1.modKitchen f.kitchen fun _ => kitchenOver f (s1.kitchen f.kitchen)).answered ref .ok body) := by
  have hk' : ¬ Config.kitchens ≤ f.kitchen := by simp only [Config.kitchens]; omega
  have hr' : f.reach.all reachOk = true := hr
  exact ⟨_, taken_keepsLists rfl h
    (by simp only [hw, hk', hr', Bool.not_true, Bool.false_eq_true, or_self, if_false]; rfl)
    (kitchenList_modKitchen (kitchenOver_dispatch hd))⟩

theorem setKitchenProfile_stores {k : Nat} {profile : List Nat}
    (h : s.taken (.setKitchenProfile tag k profile) = some (s1, ref)) (hw : s1.catching = false) (hk : k ≤ 7)
    (ht : (s1.kitchen k).inTable = true) : ∃ body, exec (.setKitchenProfile tag k profile) s = .next
      ((s1.modKitchen k fun x => { x with profile := (upFrom 0 96).map fun w => min (profile.getD w 0) 1000 }).answered
        ref .ok body) := by
  have hk' : ¬ Config.kitchens ≤ k := by simp only [Config.kitchens]; omega
  exact ⟨_, taken_keepsLists rfl h (by simp only [hw, hk', ht, Bool.not_true, Bool.false_eq_true, if_false]; rfl)
    (kitchenList_modKitchen (by rfl))⟩

theorem removeKitchen_refused {k : Nat} (h : s.taken (.removeKitchen tag k) = some (s1, ref)) (hw : s1.catching = false)
    (hk : k ≤ 7) (ht : (s1.kitchen k).inTable = true) (hd : (s1.kitchen k).dispatch ≠ [] ∨ (s1.kitchen k).terminals ≠ []) :
    exec (.removeKitchen tag k) s = .next (s1.answered ref .badState []) := by
  have hk' : ¬ Config.kitchens ≤ k := by simp only [Config.kitchens]; omega
  exact taken_reads rfl h (by simp only [hw, hk', ht, hd, Bool.not_true, Bool.false_eq_true, if_false, if_true]; rfl)

theorem removeKitchen_removes {k : Nat} (h : s.taken (.removeKitchen tag k) = some (s1, ref)) (hw : s1.catching = false)
    (hk : k ≤ 7) (ht : (s1.kitchen k).inTable = true) (hd : (s1.kitchen k).dispatch = [])
    (hm : (s1.kitchen k).terminals = []) : exec (.removeKitchen tag k) s = .next
      ((s1.modKitchen k fun x => { x with inTable := false }).answered ref .ok []) := by
  have hk' : ¬ Config.kitchens ≤ k := by simp only [Config.kitchens]; omega
  refine taken_keepsLists rfl h ?_ (kitchenList_modKitchen (by rfl))
  simp [hw, hk', ht, hd, hm]

/-- Settles O6. -/
theorem kitchensEnterChangeAndLeave : Obligations.KitchensEnterChangeAndLeave := by
  intro s s1 ref tag
  refine ⟨fun f h hw hk hr hd => ?_, fun k profile h hw hk ht => ?_, fun k h hw hk ht => ⟨?_, ?_⟩⟩
  · obtain ⟨body, he⟩ := setKitchen_stores h hw hk hr hd
    obtain ⟨hin, hlead, hspill, hreach⟩ := kitchenOver_fields f (s1.kitchen f.kitchen)
    refine ⟨_, body, he, hin, hlead, hspill, hreach, fun hi => ?_, fun hi => ?_⟩
    · rw [kitchenOver_of_inTable hi]
      exact ⟨rfl, rfl, rfl, rfl⟩
    · rw [kitchenOver_of_absent hi]
      exact ⟨rfl, rfl, rfl, rfl⟩
  · obtain ⟨body, he⟩ := setKitchenProfile_stores h hw hk ht
    exact ⟨_, body, by simp, fun w hw' => getD_map_upFrom hw', he⟩
  · exact removeKitchen_refused h hw hk ht
  · exact removeKitchen_removes h hw hk ht

/-! ### Rooms -/

/-- An answer's effect on the link depends on the link alone. -/
theorem answer_link_congr (h : t.link = s.link) (st : Status) (body : List Field) :
    (t.answer ref st body).link = (s.answer ref st body).link := by
  unfold State.answer
  rw [h]
  split
  · rfl
  · exact h

/-- Two neighbours of a timeline between which a new turnover does not fit (R3). -/
theorem tightPair_eq_some {n : Nat} {a b : Booking} (post : List Booking) (h : b.startMin < a.endMin + n) (pre : List Booking)
    (hc : List.IsChain (fun x y : Booking => x.endMin + n ≤ y.startMin) (pre ++ [a])) :
    tightPair n (pre ++ a :: b :: post) = some a.handle := by
  induction pre with
  | nil => simp [tightPair, Nat.not_le.mpr h]
  | cons x pre ih =>
    cases pre with
    | nil =>
      obtain ⟨hx, -⟩ := List.isChain_cons_cons.mp hc
      simpa [tightPair, hx] using ih (by simp)
    | cons y pre =>
      obtain ⟨hx, hc'⟩ := List.isChain_cons_cons.mp hc
      simpa [tightPair, hx] using ih hc'

/-- What SET_ROOM leaves when it stores a record: that room's record, the view reports and the kitchen lists (R2, R3). -/
theorem setRoom_stores {f : RoomForm} {x : Room} {body : List Field} (h : s.taken (.setRoom tag f) = some (s1, ref))
    (hw : s1.catching = false) (hr : f.room < s1.rooms.length)
    (ho : s1.setRoom f = ⟨s1.storeRoom f.room x, .ok, body⟩) :
    ∃ t, exec (.setRoom tag f) s = .next t ∧ t.room f.room = x ∧ (∀ r, r ≠ f.room → t.room r = s1.room r) ∧
      t.link = (s1.answer ref .ok body).link ∧
      t = { s1 with rooms := t.rooms, kitchens := t.kitchens, panelBus := t.panelBus, link := t.link, attn := t.attn } := by
  have ho' : (if s1.catching = true then refuse s1 .wait else s1.setRoom f) = ⟨s1.storeRoom f.room x, .ok, body⟩ := by
    simpa [hw] using ho
  have he : exec (.setRoom tag f) s = _ := hostNow_taken _ (takeRequest_of_taken rfl h)
  simp only [ho'] at he
  have hrooms : ((((s1.storeRoom f.room x).answer ref .ok body).relist s).followAttn).rooms = (s1.storeRoom f.room x).rooms := by
    simp
  have hroom (q : Nat) : ((((s1.storeRoom f.room x).answer ref .ok body).relist s).followAttn).room q =
      (s1.modRoom f.room fun _ => x).room q := congrArg (fun l : List Room => l.getD q .absent) hrooms
  refine ⟨_, he, ?_, fun r hne => ?_, ?_, ?_⟩
  · rw [hroom, State.room_modRoom_same hr]
  · rw [hroom, State.room_modRoom_other (Ne.symm hne)]
  · rw [State.followAttn_link, link_of_outside (outside_relist _ _)]
    exact answer_link_congr (t := s1.storeRoom f.room x) (s := s1) rfl _ _
  · rw [relist_keeps, answer_keeps]
    rfl

/-- A room that is not in the table enters it with its required fields (R2). -/
theorem setRoom_of_absent {f : RoomForm} (hr : f.room ≤ 511) (hf : roomFormOk f = true)
    (ht : (s.room f.room).inTable = false) (hb : f.building.isSome) (hl : f.floor.isSome) (hn : f.seats.isSome) :
    ∃ body, s.setRoom f = ⟨s.storeRoom f.room (roomOver f s.policyRec.freshRoom), .ok, body⟩ := by
  have hr' : ¬ Config.rooms ≤ f.room := by simp only [Config.rooms]; omega
  exact ⟨_, by simp only [State.setRoom, hr', hf, ht, hb, hl, hn, Bool.not_true, Bool.not_false, Bool.false_eq_true, or_self,
    and_self, if_true, if_false]; rfl⟩

/-- The turnover of a change that fits the room's timeline: no pair of neighbours is in its way (R3). -/
theorem tightPair_of_fits {n : Nat} {f : RoomForm} {r : Room}
    (h : s.timelineOf n = [] ∨ f.turnover.all (fun m => clampTurnover m ≤ r.turnover) = true) :
    (if r.turnover < (roomOver f r).turnover then tightPair (roomOver f r).turnover (s.timelineOf n) else none) = none := by
  rcases h with h | h
  · rw [h]
    split <;> rfl
  · refine if_neg (Nat.not_lt.mpr ?_)
    cases hf : f.turnover with
    | none => simp [roomOver, hf]
    | some m => simpa [roomOver, hf] using h

theorem timelineOf_eq_nil {r : Nat} (h : (s.room r).timeline = []) : s.timelineOf r = [] := by simp [State.timelineOf, h]

/-- A configured room changes its present fields (R3). -/
theorem setRoom_of_configured {f : RoomForm} (hr : f.room ≤ 511) (hf : roomFormOk f = true)
    (ht : (s.room f.room).inTable = true) (hc : (s.room f.room).service ≠ .closing)
    (hb : (s.room f.room).timeline = [] ∨ ∀ b, f.building = some b → b = (s.room f.room).building)
    (hn : (s.room f.room).timeline = [] ∨ f.turnover.all (fun n => clampTurnover n ≤ (s.room f.room).turnover) = true) :
    ∃ body, s.setRoom f = ⟨s.storeRoom f.room (roomOver f (s.room f.room)), .ok, body⟩ := by
  have hr' : ¬ Config.rooms ≤ f.room := by simp only [Config.rooms]; omega
  have hb' : ¬ ((roomOver f (s.room f.room)).building ≠ (s.room f.room).building ∧ (s.room f.room).timeline ≠ []) := by
    rintro ⟨hne, htl⟩
    refine hne ?_
    have hb := hb.resolve_left htl
    cases hfb : f.building with
    | none => simp [roomOver, hfb]
    | some b => simp [roomOver, hfb, hb b hfb]
  exact ⟨_, by simp only [State.setRoom, hr', hf, ht, hc, hb', tightPair_of_fits (hn.imp_left timelineOf_eq_nil), Bool.not_true,
    Bool.false_eq_true, or_self, if_false]; rfl⟩

/-- A SET_ROOM of a configured room, in the order of the conditions of R3. -/
theorem setRoom_refusals {f : RoomForm} (hr : f.room ≤ 511) (hf : roomFormOk f = true) (ht : (s.room f.room).inTable = true) :
    ((s.room f.room).service = .closing → s.setRoom f = refuse s .wait) ∧
    ((s.room f.room).service ≠ .closing → (s.room f.room).timeline ≠ [] →
      (roomOver f (s.room f.room)).building ≠ (s.room f.room).building → s.setRoom f = refuse s .badState) ∧
    (∀ x, (s.room f.room).service ≠ .closing → (roomOver f (s.room f.room)).building = (s.room f.room).building →
      (s.room f.room).turnover < (roomOver f (s.room f.room)).turnover →
      tightPair (roomOver f (s.room f.room)).turnover (s.timelineOf f.room) = some x →
      s.setRoom f = ⟨s, .conflict, [handleField x]⟩) := by
  have hr' : ¬ Config.rooms ≤ f.room := by simp only [Config.rooms]; omega
  refine ⟨fun hc => ?_, fun hc htl hb => ?_, fun x hc hb hlt hx => ?_⟩
  · simp [State.setRoom, hr', hf, ht, hc]
  · simp [State.setRoom, hr', hf, ht, hc, hb, htl]
  · simp [State.setRoom, hr', hf, ht, hc, hb, hlt, hx]

/-- A request of SET_ROOM that is refused is answered with nothing changed. -/
theorem setRoom_answers {f : RoomForm} {st : Status} {body : List Field} (h : s.taken (.setRoom tag f) = some (s1, ref))
    (hw : s1.catching = false) (ho : s1.setRoom f = ⟨s1, st, body⟩) :
    exec (.setRoom tag f) s = .next (s1.answered ref st body) :=
  taken_reads rfl h (by simpa [hw] using ho)

/-- REMOVE_ROOM, in the order of the conditions of R4. -/
theorem removeRoom_refusals {r : Nat} (h : s.taken (.removeRoom tag r) = some (s1, ref)) (hw : s1.catching = false) :
    (511 < r → exec (.removeRoom tag r) s = .next (s1.answered ref .badField [])) ∧
    (r ≤ 511 → (s1.room r).inTable = false → exec (.removeRoom tag r) s = .next (s1.answered ref .noSuch [])) ∧
    (r ≤ 511 → (s1.room r).inTable = true → (s1.room r).service = .closing →
      exec (.removeRoom tag r) s = .next (s1.answered ref .wait [])) ∧
    (r ≤ 511 → (s1.room r).inTable = true → (s1.room r).service ≠ .closing →
      (s1.room r).timeline ≠ [] ∨ (s1.room r).panel ≠ none ∨ s1.seriesNames r = true →
        exec (.removeRoom tag r) s = .next (s1.answered ref .badState [])) := by
  have hr' (hr : r ≤ 511) : ¬ Config.rooms ≤ r := by simp only [Config.rooms]; omega
  refine ⟨fun hr => ?_, fun hr ht => ?_, fun hr ht hc => ?_, fun hr ht hc hx => ?_⟩
  · have hr'' : Config.rooms ≤ r := hr
    exact taken_reads rfl h (by simp [hw, hr'', refuse])
  · exact taken_reads rfl h (by simp [hw, hr' hr, ht, refuse])
  · exact taken_reads rfl h (by simp [hw, hr' hr, ht, hc, refuse])
  · have hx' : (s1.room r).timeline ≠ [] ∨ (s1.room r).panel.isSome ∨ s1.seriesNames r = true := by
      simpa [Option.isSome_iff_ne_none] using hx
    exact taken_reads rfl h (by simp only [hw, hr' hr, ht, hc, hx', Bool.not_true, Bool.false_eq_true, if_false, if_true]; rfl)

/-- A room changed without its building leaves every kitchen's list. -/
theorem kitchenList_modRoom {r : Nat} {f : Room → Room} (h : (f (s.room r)).building = (s.room r).building) (k : Nat) :
    (s.modRoom r f).kitchenList k = s.kitchenList k := by
  refine kitchenList_of_dispatch k rfl rfl fun q => ?_
  by_cases hr : r < s.rooms.length
  · by_cases hq : r = q
    · rw [← hq, State.room_modRoom_same hr, h]
    · rw [State.room_modRoom_other hq]
  · have hm : s.rooms.modify r f = s.rooms := List.modify_eq_self (Nat.le_of_not_lt hr)
    rw [State.modRoom, hm]

/-- A REMOVE_ROOM that nothing refuses (R4, R155). -/
theorem removeRoom_removes {r : Nat} (h : s.taken (.removeRoom tag r) = some (s1, ref)) (hw : s1.catching = false)
    (hr : r ≤ 511) (ht : (s1.room r).inTable = true) (hc : (s1.room r).service ≠ .closing) (hl : (s1.room r).timeline = [])
    (hp : (s1.room r).panel = none) (hn : s1.seriesNames r = false) : exec (.removeRoom tag r) s = .next
      (((s1.modRoom r fun x => { x with inTable := false, closure := none, noShow := 0 }).reportRoom r).answered ref .ok
        [u8 (s1.room r).noShow]) := by
  have hr' : ¬ Config.rooms ≤ r := by simp only [Config.rooms]; omega
  exact taken_keepsLists rfl h (by simp [hw, hr', ht, hc, hl, hp, hn])
    fun k => (kitchenList_congr (s := s1.modRoom r _) rfl rfl rfl k).trans (kitchenList_modRoom (by rfl) k)

/-- Settles O5. -/
theorem roomsEnterChangeAndLeave : Obligations.RoomsEnterChangeAndLeave := by
  refine ⟨fun s s1 ref tag f h hw hlen hr hf => ⟨fun b fl n ht hb hfl hn => ?_, fun ht hc hb hn => ?_⟩,
    fun s s1 ref tag => ⟨fun f h hw hr hf ht => ?_, fun r h hw => ?_⟩⟩
  · obtain ⟨body, ho⟩ := setRoom_of_absent (s := s1) hr hf ht (by simp [hb]) (by simp [hfl]) (by simp [hn])
    obtain ⟨t, he, hx, hother, hlink, hframe⟩ := setRoom_stores h hw hlen ho
    refine ⟨t, body, he, ?_⟩
    rw [hx]
    refine ⟨rfl, ?_, ?_, ?_, rfl, rfl, ?_, ?_, ?_, ?_, ?_, ?_, rfl, rfl, rfl, rfl, rfl, hother, hlink, hframe⟩
    any_goals
      intro hd
      simp [roomOver, Policy.freshRoom, hd]
    · simp [roomOver, hb]
    · simp [roomOver, hfl]
    · simp [roomOver, hn]
  · obtain ⟨body, ho⟩ := setRoom_of_configured (s := s1) hr hf ht hc hb hn
    obtain ⟨t, he, hx, hother, hlink, hframe⟩ := setRoom_stores h hw hlen ho
    refine ⟨t, body, he, ?_, hother, hlink, hframe⟩
    rw [hx, roomOver, funext clampTurnover_eq]
    rfl
  · obtain ⟨hwait, hbad, hconflict⟩ := setRoom_refusals (s := s1) hr hf ht
    refine ⟨fun hc => setRoom_answers h hw (hwait hc), fun hc htl ⟨b, hb, hne⟩ => ?_, fun n pre a b post hc hb hn hlt htl hch hab => ?_⟩
    · exact setRoom_answers h hw (hbad hc htl (by simpa [roomOver, hb] using hne))
    · have hturn : (roomOver f (s1.room f.room)).turnover = min ((n + 4) / 5 * 5) 30 := by
        simp [roomOver, hn, clampTurnover_eq]
      refine setRoom_answers h hw (hconflict a.handle hc (by simp [roomOver, hb]) (by rwa [hturn]) ?_)
      rw [hturn, htl]
      exact tightPair_eq_some post hab pre hch
  · obtain ⟨hfield, hnone, hwait, hbad⟩ := removeRoom_refusals h hw
    exact ⟨hfield, hnone, hwait, fun hr ht hc => ⟨hbad hr ht hc, removeRoom_removes h hw hr ht hc⟩⟩

end Sys2Proof.Machine
end

section
/-! SUPPORT. The Campus Clock: SET_TIME, START, counted seconds, and the SEC watch (R13 to R16). -/

namespace Sys2Proof.Machine

variable {s s1 t u : State} {tag : Byte} {ref : HostRef}

/-! ### SET_TIME and START -/

theorem running_eq_false (h : s.clock.state = .stopped) : s.running = false := by simp [State.running, h]
theorem running_eq_true (h : s.clock.state ≠ .stopped) : s.running = true := by simp [State.running, h]

/-- The day_raised that SET_TIME leaves: kept when present, else the day of the new minute (R13). -/
theorem storeTime_eq (m sec : Nat) : s.storeTime m sec = { s with clock := { s.clock with
    minute := m, second := sec, timeSet := true
    dayRaised := if s.clock.dayRaised = none then some (m / 1440) else s.clock.dayRaised } } := by
  unfold State.storeTime
  cases s.clock.dayRaised <;> rfl

/-- SET_TIME, in the order of R13. -/
theorem setTime_answers {m sec : Nat} (h : s.taken (.setTime tag m sec) = some (s1, ref)) :
    (s1.clock.state ≠ .stopped → exec (.setTime tag m sec) s = .next (s1.answered ref .badState [])) ∧
    (s1.clock.state = .stopped → 59 < sec ∨ 3999999999 < m ∨ m < s1.clock.timeFloor →
      exec (.setTime tag m sec) s = .next (s1.answered ref .badField [])) ∧
    (s1.clock.state = .stopped → ¬ (59 < sec ∨ 3999999999 < m ∨ m < s1.clock.timeFloor) →
      exec (.setTime tag m sec) s = .next ((s1.storeTime m sec).answered ref .ok [.num 4 (some m), .num 1 (some sec)])) := by
  refine ⟨fun hs => ?_, fun hs hf => ?_, fun hs hf => ?_⟩
  · exact taken_reads rfl h (if_pos (running_eq_true hs))
  · refine taken_reads rfl h ?_
    have hf' : 59 < sec ∨ Config.maxMinute < m ∨ m < s1.clock.timeFloor := hf
    simp only [running_eq_false hs, Bool.false_eq_true, if_false, if_pos hf']
    rfl
  · refine hostNow_plain (takeRequest_of_taken rfl h) ?_ rfl rfl rfl
    have hf' : ¬ (59 < sec ∨ Config.maxMinute < m ∨ m < s1.clock.timeFloor) := hf
    simp only [running_eq_false hs, Bool.false_eq_true, if_false, if_neg hf']
    rfl

/-- START refused (R14). -/
theorem start_refusals (h : s.taken (.start tag) = some (s1, ref)) :
    (s1.clock.state ≠ .stopped → exec (.start tag) s = .next (s1.answered ref .already [])) ∧
    (s1.clock.state = .stopped → s1.clock.timeSet = false → exec (.start tag) s = .next (s1.answered ref .badState [])) :=
  ⟨fun hs => taken_reads rfl h (if_pos (running_eq_true hs)),
    fun hs ht => taken_reads rfl h (by simp [running_eq_false hs, ht, refuse])⟩

/-- START taken (R14). -/
theorem start_starts (h : s.taken (.start tag) = some (s1, ref)) (hs : s1.clock.state = .stopped)
    (ht : s1.clock.timeSet = true) : exec (.start tag) s = .next (s1.startClock.answered ref .ok []) := by
  have hk : s1.startClock.kitchens = s1.kitchens ∧ s1.startClock.dir = s1.dir ∧ s1.startClock.rooms = s1.rooms := by
    unfold State.startClock
    dsimp only
    split <;> exact ⟨rfl, rfl, rfl⟩
  exact hostNow_plain (takeRequest_of_taken rfl h) (by simp [running_eq_false hs, ht]) hk.1 hk.2.1 hk.2.2

/-- What START changes: the clock, the catering horizon and the catch-up walk (R14, R136, R183). -/
theorem startClock_eq (s : State) : s.startClock = { s with
    clock := { s.clock with
      state := .running, watch := 0
      dayRaised := if s.catchUpOwed then some (s.clock.minute / 1440) else s.clock.dayRaised }
    catering := { s.catering with horizon := some (s.catering.horizon.getD (s.clock.minute / 1440)) }
    catchUp := if s.catchUpOwed then some ⟨.commits, 0, s.clock.minute, s.missedDays, []⟩ else s.catchUp } := by
  unfold State.startClock
  cases h : s.catchUpOwed <;> rfl

theorem missedDays_sorted (s : State) : s.missedDays.Pairwise (· < ·) := by
  unfold State.missedDays
  rw [upFrom_eq_range']
  exact List.pairwise_lt_range'

/-- The missed days run from the missed-day start, or else from the day after day_raised, up to today (R183). -/
theorem mem_missedDays {first : Nat} (h : s.missedDayStart = some first ∨
      s.missedDayStart = none ∧ (∃ d, s.clock.dayRaised = some d ∧ first = d + 1) ∨
      s.missedDayStart = none ∧ s.clock.dayRaised = none ∧ first = s.clock.minute / 1440 + 1) (d : Nat) :
    d ∈ s.missedDays ↔ first ≤ d ∧ d ≤ s.clock.minute / 1440 := by
  have hf : s.missedDays = upFrom first (s.clock.minute / 1440 + 1 - first) := by
    rcases h with h | ⟨h, r, hr, rfl⟩ | ⟨h, hr, rfl⟩
    · simp only [State.missedDays, h]; rfl
    · simp only [State.missedDays, h, hr]; rfl
    · simp only [State.missedDays, h, hr]; rfl
  rw [hf, mem_upFrom]
  omega

/-- Settles O7. -/
theorem timeSetAndStarted : Obligations.TimeSetAndStarted := by
  refine ⟨fun s s1 ref tag m sec h => ?_, fun s s1 ref tag h => ?_⟩
  · obtain ⟨hstate, hfield, hok⟩ := setTime_answers h
    refine ⟨hstate, hfield, fun hs hsec hm hfl => ?_⟩
    rw [hok hs (by omega), storeTime_eq]
  · obtain ⟨halready, hbad⟩ := start_refusals h
    refine ⟨halready, hbad, fun hs ht => ⟨_, start_starts h hs ht, ?_⟩⟩
    have hlink : (s1.startClock.answered ref .ok []).link = (s1.answer ref .ok []).link :=
      answer_link_congr (startClock_link s1) _ _
    rw [State.answered, State.followAttn_link] at hlink
    rw [State.answered, answer_keeps, hlink, startClock_eq]
    refine ⟨rfl, rfl, rfl, rfl, rfl, rfl, fun ho => ?_, fun ho => ?_, fun f hf => ?_, fun hf => ?_, rfl, rfl⟩
    · simp [State.followAttn, ho]
    · exact ⟨⟨.commits, 0, s1.clock.minute, s1.missedDays, []⟩, by simp [State.followAttn, ho], rfl, rfl, rfl,
        by simp [State.followAttn, ho], rfl, missedDays_sorted s1, fun first hf => mem_missedDays hf⟩
    · simp [State.followAttn, hf]
    · simp [State.followAttn, hf]

/-! ### Counted seconds -/

/-- A counted second below the 60th (R15). -/
theorem countSecond_within (h : s.clock.second < 59) : s.countSecond =
    { s with clock := { s.clock with second := s.clock.second + 1 }, owed := { s.owed with seconds := s.owed.seconds + 1 } } :=
  if_pos (show s.clock.second + 1 < 60 by omega)

/-- The 60th counted second at the largest minute: the minute stays (R15). -/
theorem countSecond_at_max (h : 59 ≤ s.clock.second) (hm : 3999999999 ≤ s.clock.minute) : s.countSecond =
    { s with clock := { s.clock with second := 0 }, owed := { s.owed with seconds := s.owed.seconds + 1 } } := by
  have hm' : Config.maxMinute ≤ s.clock.minute := hm
  unfold State.countSecond
  dsimp only
  rw [if_neg (by omega), State.nextMinute, if_pos hm']

/-- The 60th counted second ends the minute: its event is raised, with its day event (R15). -/
theorem countSecond_ends_minute (hc : s.catching = false) (h : 59 ≤ s.clock.second) (hm : s.clock.minute < 3999999999) :
    s.countSecond = ({ s with
      clock := { s.clock with
        second := 0, minute := s.clock.minute + 1
        dayRaised := (s.clock.dayEvent (s.clock.minute + 1)).or s.clock.dayRaised }
      owed := { s.owed with seconds := s.owed.seconds + 1 } }).raiseMinute (s.clock.minute + 1)
        (s.clock.dayEvent (s.clock.minute + 1)) := by
  have hm' : ¬ Config.maxMinute ≤ s.clock.minute := by simp only [Config.maxMinute]; omega
  have hc' : s.catchUp.isSome = false := hc
  unfold State.countSecond
  dsimp only
  rw [if_neg (by omega), State.nextMinute, if_neg hm']
  simp only [State.catching, hc', Bool.false_eq_true, if_false]
  have he : Clock.dayEvent { s.clock with second := 0 } (s.clock.minute + 1) = s.clock.dayEvent (s.clock.minute + 1) := rfl
  rw [he]
  cases s.clock.dayEvent (s.clock.minute + 1) <;> rfl

/-- A minute of day 0 on a day after the last raised has its day event (R15). -/
theorem dayEvent_eq_some {c : Clock} {m d : Nat} (hm : m % 1440 = 0) (hd : m / 1440 = d)
    (hr : ∀ r, c.dayRaised = some r → r < d) : c.dayEvent m = some d := by
  subst hd
  refine if_pos ⟨hm, ?_⟩
  cases h : c.dayRaised with
  | none => rfl
  | some r => exact decide_eq_true (hr r h)

/-- No other minute has one (R15). -/
theorem dayEvent_eq_none {c : Clock} {m : Nat} (h : m % 1440 ≠ 0 ∨ ∃ r, c.dayRaised = some r ∧ m / 1440 ≤ r) :
    c.dayEvent m = none := by
  refine if_neg ?_
  rintro ⟨hm, hall⟩
  rcases h with h | ⟨r, hr, hle⟩
  · exact h hm
  · rw [hr] at hall
    exact absurd (of_decide_eq_true hall) (Nat.not_lt.mpr hle)

/-- A counted second changes the clock and what is owed (R15). -/
theorem countSecond_keeps (s : State) : s.countSecond = { s with clock := s.countSecond.clock, owed := s.countSecond.owed } := by
  unfold State.countSecond State.nextMinute
  dsimp only
  split
  · rfl
  · split
    · rfl
    · split <;> rfl

/-- A counted second raises one second event, in every case (R15). -/
theorem countSecond_seconds (s : State) : s.countSecond.owed.seconds = s.owed.seconds + 1 := by
  unfold State.countSecond State.nextMinute
  dsimp only
  split
  · rfl
  · split
    · rfl
    · split <;> rfl

theorem countSecond_state (s : State) :
    s.countSecond.clock.state = s.clock.state ∧ s.countSecond.clock.watch = s.clock.watch := by
  unfold State.countSecond State.nextMinute
  dsimp only
  split
  · exact ⟨rfl, rfl⟩
  · split
    · exact ⟨rfl, rfl⟩
    · split <;> exact ⟨rfl, rfl⟩

theorem countSecond_link (s : State) : s.countSecond.link = s.link := by rw [countSecond_keeps]

/-- The third tick without an edge (R16). -/
theorem holdover_enters (s : State) : s.holdover.clock.state = .holdover ∧ s.holdover.clock.watch = 0 ∧
    s.holdover.owed.seconds = s.owed.seconds + 3 ∧ s.holdover.notice.clock = true ∧ s.holdover.link = s.link := by
  unfold State.holdover
  simp [countSecond_seconds, countSecond_state, countSecond_link, State.raiseClock]

/-! ### The SEC watch -/

theorem secEdge_running (n : Nat) (h : s.clock.state = .running) :
    execSecEdge n s = .next ({ s with clock := { s.clock with watch := 0 } }).countSecond.followAttn := by
  simp [execSecEdge, h, done]

theorem secEdge_holdover (n : Nat) (h : s.clock.state = .holdover) : execSecEdge n s = .next
    (if 500 < n then ({ s with clock := { s.clock with state := .running, watch := 0 } }).countSecond
      else { s with clock := { s.clock with state := .running, watch := 0 } }).followAttn := by
  simp [execSecEdge, h, done]

theorem dividerTick_running (h : s.clock.state = .running) : execDividerTick s = .next
    (if s.clock.watch + 1 < 3 then { s with clock := { s.clock with watch := s.clock.watch + 1 } }
      else s.holdover).followAttn := by
  simp only [execDividerTick, h]
  split <;> rfl

/-- Settles O8. -/
theorem secondsMakeMinutesAndHoldover : Obligations.SecondsMakeMinutesAndHoldover := by
  refine ⟨fun s hc => ⟨countSecond_within, fun h hm => ?_, countSecond_at_max⟩, fun s ms => ⟨fun h => ⟨?_, fun hw => ?_, fun hw => ?_⟩,
    fun h => ⟨?_, fun hms => ?_, fun hms => ?_⟩, fun h => ?_, fun h hsec => ?_⟩⟩
  · have he := countSecond_ends_minute hc h hm
    refine ⟨by rw [he]; rfl, by rw [he]; rfl, by rw [he]; rfl, by rw [he]; rfl, by rw [he]; rfl, by rw [he]; rfl,
      by rw [he]; rfl, fun d h0 hd hr => ?_, fun hno => ?_, countSecond_keeps s⟩
    · rw [he, dayEvent_eq_some h0 hd hr]
      exact ⟨rfl, rfl, rfl, rfl⟩
    · rw [he, dayEvent_eq_none hno]
      simp [State.raiseMinute]
  · exact secEdge_running ms h
  · have hw' : s.clock.watch + 1 < 3 := by omega
    refine ⟨(dividerTick_running h).trans (by rw [if_pos hw']), if_neg (by omega)⟩
  · obtain ⟨hstate, hwatch, hsec, hclock, hlink⟩ := holdover_enters s
    have hw' : ¬ s.clock.watch + 1 < 3 := by omega
    exact ⟨s.holdover.followAttn, (dividerTick_running h).trans (by rw [if_neg hw']), if_pos ⟨h, hw⟩, hstate, hwatch, hsec,
      hclock, hlink⟩
  · simp [exec, execDividerTick, h, done]
  · exact (secEdge_holdover ms h).trans (by rw [if_pos hms])
  · exact (secEdge_holdover ms h).trans (by rw [if_neg (by omega)])
  · simp [exec, execSecEdge, execDividerTick, h]
  · exact if_pos ⟨running_eq_true h, hsec⟩

end Sys2Proof.Machine
end

section
/-! SUPPORT. The readings (R5, R9, R18, R25, R31, R46, R47, R68, R84, R101, R107, R153, R167, R187). -/

namespace Sys2Proof.Machine

variable {s s1 : State} {tag : Byte} {ref : HostRef}

/-! ### The clock, the store and the retention -/

theorem readTime_answers (h : s.taken (.readTime tag) = some (s1, ref)) : exec (.readTime tag) s = .next (s1.answered ref .ok
    [.num 4 (some s1.clock.minute), .num 1 (some s1.clock.second), .num 1 (some s1.clock.state.code),
      .num 1 (some (if s1.clock.state = .stopped then 0 else 1)), .num 1 (some s1.clock.timeSet.toNat),
      .num 4 s1.clock.dayRaised, .num 4 (some s1.clock.timeFloor)]) := by
  refine taken_reads rfl h ?_
  have hr : flagField s1.running = .num 1 (some (if s1.clock.state = .stopped then 0 else 1)) := by
    by_cases hs : s1.clock.state = .stopped <;> simp [flagField, State.running, hs]
  rw [hr]
  rfl

/-- The entry that the retirement walk visits next, when it walks the entries (R31). -/
def WalkPos.entryOf : WalkPos → Option Nat
  | .entry n => some n
  | .series _ => none

/-- The id that it visits next, when it walks the series. -/
def WalkPos.seriesOf : WalkPos → Option Nat
  | .entry _ => none
  | .series n => some n

theorem WalkPos.eq_entry_iff (p : WalkPos) (n : Nat) : p = .entry n ↔ p.entryOf = some n := by
  cases p <;> simp [WalkPos.entryOf]

theorem WalkPos.eq_series_iff (p : WalkPos) (n : Nat) : p = .series n ↔ p.seriesOf = some n := by
  cases p <;> simp [WalkPos.seriesOf]

theorem readStore_answers (h : s.taken (.readStore tag) = some (s1, ref)) : exec (.readStore tag) s = .next (s1.answered ref .ok
    [.num 2 (some s1.store.freeCount), .signed 4 ((s1.store.freeCount : Int) - 64), .num 2 (some s1.dir.fifo.length),
      .num 2 (some (s1.dir.entries.filter fun e => e.booking.isSome).length), .num 2 (some s1.store.heldHead),
      .num 2 (some s1.store.heldNote), .num 2 (some s1.store.heldOrder), .num 2 (some s1.store.heldSeries),
      .num 1 (some (if s1.store.freeCount < 512 then 1 else 0)), .num 1 (some s1.store.walk.isSome.toNat),
      .num 4 (s1.store.walk.map RetirementWalk.day), .num 2 (s1.store.walk.bind fun w => w.pos.entryOf),
      .num 2 (s1.store.walk.bind fun w => w.pos.seriesOf), .num 4 s1.store.pendingDay, .num 4 s1.store.lastDay]) := by
  refine taken_reads rfl h ?_
  have hl : flagField s1.lowWater = .num 1 (some (if s1.store.freeCount < 512 then 1 else 0)) := by
    by_cases hs : s1.store.freeCount < 512 <;> simp [flagField, State.lowWater, Config.lowWater, hs]
  rw [← hl]
  rfl

theorem readRetention_answers (h : s.taken (.readRetention tag) = some (s1, ref)) :
    ∃ walk : List Field, exec (.readRetention tag) s = .next (s1.answered ref .ok
      ([u8 (if s1.retention = .good then 0 else 1), flagField s1.catchUpOwed, .num 4 s1.missedDayStart] ++ walk)) ∧
      (s1.catchUp = none → walk = [.num 1 none, .num 2 none, .num 4 none, .num 2 none]) ∧
      (∀ c, s1.catchUp = some c → walk = [u8 c.stage.code, u16 c.pos, minuteField c.minute, u16 c.missed.length] ++
        c.missed.map minuteField) := by
  refine ⟨_, taken_reads rfl h (congrArg (fun n => Reply.mk s1 .ok (u8 n :: _)) ?_), fun hc => ?_, fun c hc => ?_⟩
  · cases s1.retention <;> rfl
  · rw [hc]
  · rw [hc]
    simp [listField, List.map_eq_flatMap]

/-! ### Bookings, series and rooms -/

theorem readBooking_answers {x : Handle} (h : s.taken (.readBooking tag x) = some (s1, ref)) :
    (8191 < x.idx → exec (.readBooking tag x) s = .next (s1.answered ref .badField [])) ∧
    (x.idx ≤ 8191 → s1.bookingAt x.idx = none → exec (.readBooking tag x) s = .next (s1.answered ref .noSuch [])) ∧
    (∀ b, x.idx ≤ 8191 → s1.bookingAt x.idx = some b →
      ((s1.dir.entries.getD x.idx ⟨0, none⟩).generation ≠ x.gen →
        exec (.readBooking tag x) s = .next (s1.answered ref .stale [])) ∧
      ((s1.dir.entries.getD x.idx ⟨0, none⟩).generation = x.gen →
        exec (.readBooking tag x) s = .next (s1.answered ref .ok (s1.bookingFields b false false false)))) := by
  have hlt (hx : x.idx ≤ 8191) : ¬ Config.handles ≤ x.idx := by simp only [Config.handles]; omega
  refine ⟨fun hx => ?_, fun hx hb => ?_, fun b hx hb => ⟨fun hg => ?_, fun hg => ?_⟩⟩
  · have hx' : Config.handles ≤ x.idx := hx
    exact taken_reads rfl h (by simp [State.lookupOr, State.lookup, hx', refuse])
  · rw [State.bookingAt] at hb
    exact taken_reads rfl h (by simp only [State.lookupOr, State.lookup, if_neg (hlt hx), hb]; rfl)
  · rw [State.bookingAt] at hb
    exact taken_reads rfl h (by simp only [State.lookupOr, State.lookup, if_neg (hlt hx), hb, if_neg hg]; rfl)
  · rw [State.bookingAt] at hb
    exact taken_reads rfl h (by simp only [State.lookupOr, State.lookup, if_neg (hlt hx), hb, if_pos hg]; rfl)

theorem readSeries_answers {id : Nat} (h : s.taken (.readSeries tag id) = some (s1, ref)) :
    (1023 < id → exec (.readSeries tag id) s = .next (s1.answered ref .badField [])) ∧
    (id ≤ 1023 → s1.seriesAt id = none → exec (.readSeries tag id) s = .next (s1.answered ref .noSuch [])) ∧
    (∀ x, id ≤ 1023 → s1.seriesAt id = some x →
      exec (.readSeries tag id) s = .next (s1.answered ref .ok (s1.seriesFields id x))) := by
  have hlt (hx : id ≤ 1023) : ¬ Config.seriesIds ≤ id := by simp only [Config.seriesIds]; omega
  refine ⟨fun hx => ?_, fun hx hn => ?_, fun x hx hs => ?_⟩
  · have hx' : Config.seriesIds ≤ id := hx
    exact taken_reads rfl h (if_pos hx')
  · exact taken_reads rfl h (by simp only [if_neg (hlt hx), hn]; rfl)
  · exact taken_reads rfl h (by simp only [if_neg (hlt hx), hs])

/-- What READ_SERIES gives, in the order of R68. -/
theorem seriesFields_eq (id : Nat) (x : Series) : s.seriesFields id x =
    [.num 2 (some id), .num 2 (some x.room), .num 4 (some x.firstStart), .num 2 (some x.length),
      .num 1 (some x.period), .num 1 (some x.count), .num 2 (some x.headCount), .num 4 (some x.organiser.toNat)] ++
      templateFields x.template ++ ([match x.note with | some n => .text n.text | none => .num 1 none] ++
        [.num 4 (some x.nextStart), .num 1 (some x.state.code), .num 1 (some x.noShows), .num 1 (some x.threshold),
          .num 1 (some x.skipCount), .num 1 (some x.mark.toNat), .num 1 (some x.passOwed.toNat),
          .num 2 (some (s.dir.refs.getD id 0)),
          .num 2 (s.series.pass.bind fun p => if p.series = id then some p.entry else none),
          .num 2 (s.series.passQueue.findIdx? (· = id))]) := by
  unfold State.seriesFields
  cases x.note <;> rfl

/-- The count of LIST_ROOM: 12 for an absent or 0 count, and at most 12 (R47). -/
theorem listCount_eq (count : Option Nat) : listCount count ≤ 12 ∧ (count = none ∨ count = some 0 → listCount count = 12) ∧
    (∀ k, count = some k → 1 ≤ k → k ≤ 12 → listCount count = k) ∧ (∀ k, count = some k → 12 ≤ k → listCount count = 12) := by
  rcases count with _ | _ | k
  · simp [listCount]
  · simp [listCount]
  · have hk : listCount (some (k + 1)) = min (k + 1) 12 := rfl
    rw [hk]
    exact ⟨Nat.min_le_right _ _, by simp, fun _ h _ hle => by cases h; exact Nat.min_eq_left hle,
      fun _ h hle => by cases h; exact Nat.min_eq_right hle⟩

theorem listRoom_answers {r : Nat} {fromMin count : Option Nat} (h : s.taken (.listRoom tag r fromMin count) = some (s1, ref)) :
    (511 < r → exec (.listRoom tag r fromMin count) s = .next (s1.answered ref .badField [])) ∧
    (r ≤ 511 → (s1.room r).inTable = false → exec (.listRoom tag r fromMin count) s = .next (s1.answered ref .noSuch [])) ∧
    (r ≤ 511 → (s1.room r).inTable = true →
      exec (.listRoom tag r fromMin count) s = .next (s1.answered ref .ok
        ([u8 (s1.room r).service.code] ++ closureFields (s1.room r).closure ++
          [u8 (s1.room r).turnover, u16 (s1.room r).timeline.length] ++
          listField (fun b => bookingHead b false false ++ [orderStateField b.order])
            (((s1.timelineOf r).filter fun b => fromMin.getD s1.clock.minute < b.endMin).take (listCount count)) ++
          [flagField (listCount count < ((s1.timelineOf r).filter fun b => fromMin.getD s1.clock.minute < b.endMin).length)]))) := by
  have hlt (hx : r ≤ 511) : ¬ Config.rooms ≤ r := by simp only [Config.rooms]; omega
  refine ⟨fun hx => ?_, fun hx ht => ?_, fun hx ht => ?_⟩
  · have hx' : Config.rooms ≤ r := hx
    exact taken_reads rfl h (if_pos hx')
  · exact taken_reads rfl h (by simp [hlt hx, ht, refuse])
  · exact taken_reads rfl h (by simp only [if_neg (hlt hx), ht, Bool.not_true, Bool.false_eq_true, if_false])

/-- Whether more follow the entries shown: something is left when the count is below their number. -/
theorem flagField_more {α : Type} (l : List α) (n : Nat) :
    flagField (n < l.length) = .num 1 (some (if l.drop n = [] then 0 else 1)) := by
  by_cases h : n < l.length <;> simp [flagField, h, Nat.not_lt.mp]

theorem readRoom_answers {r : Nat} (h : s.taken (.readRoom tag r) = some (s1, ref)) :
    (511 < r → exec (.readRoom tag r) s = .next (s1.answered ref .badField [])) ∧
    (r ≤ 511 → (s1.room r).inTable = false → exec (.readRoom tag r) s = .next (s1.answered ref .noSuch [])) ∧
    (r ≤ 511 → (s1.room r).inTable = true → exec (.readRoom tag r) s = .next (s1.answered ref .ok (s1.room r).fields)) := by
  have hlt (hx : r ≤ 511) : ¬ Config.rooms ≤ r := by simp only [Config.rooms]; omega
  refine ⟨fun hx => ?_, fun hx ht => ?_, fun hx ht => ?_⟩
  · have hx' : Config.rooms ≤ r := hx
    exact taken_reads rfl h (if_pos hx')
  · exact taken_reads rfl h (by simp [hlt hx, ht, refuse])
  · exact taken_reads rfl h (by simp [hlt hx, ht])

theorem readKitchen_answers {k : Nat} (h : s.taken (.readKitchen tag k) = some (s1, ref)) :
    (7 < k → exec (.readKitchen tag k) s = .next (s1.answered ref .badField [])) ∧
    (k ≤ 7 → (s1.kitchen k).inTable = false → exec (.readKitchen tag k) s = .next (s1.answered ref .noSuch [])) ∧
    (k ≤ 7 → (s1.kitchen k).inTable = true →
      exec (.readKitchen tag k) s = .next (s1.answered ref .ok (s1.kitchen k).fields)) := by
  have hlt (hx : k ≤ 7) : ¬ Config.kitchens ≤ k := by simp only [Config.kitchens]; omega
  refine ⟨fun hx => ?_, fun hx ht => ?_, fun hx ht => ?_⟩
  · have hx' : Config.kitchens ≤ k := hx
    exact taken_reads rfl h (if_pos hx')
  · exact taken_reads rfl h (by simp [hlt hx, ht, refuse])
  · exact taken_reads rfl h (by simp [hlt hx, ht])

theorem readPanel_answers {p : Nat} (h : s.taken (.readPanel tag p) = some (s1, ref)) :
    (127 < p → exec (.readPanel tag p) s = .next (s1.answered ref .badField [])) ∧
    (p ≤ 127 → exec (.readPanel tag p) s = .next (s1.answered ref .ok (s1.panelFields p))) := by
  refine ⟨fun hx => ?_, fun hx => ?_⟩
  · have hx' : Config.panels ≤ p := hx
    exact taken_reads rfl h (if_pos hx')
  · exact taken_reads rfl h (if_neg (by simp only [Config.panels]; omega))

/-! ### Loads, timers, searches and the sweep -/

/-- The windows of READ_LOAD: 96 for an absent or 0 count, cut at window 95 (R153). -/
theorem loadCount_eq (w : Nat) (count : Option Nat) : loadCount w count ≤ 96 - w ∧
    (count = none ∨ count = some 0 → loadCount w count = 96 - w) ∧
    (∀ c, count = some c → 1 ≤ c → loadCount w count = min c (96 - w)) := by
  rcases count with _ | _ | k
  · simp [loadCount, Config.windows]
  · simp [loadCount, Config.windows]
  · simp [loadCount, Config.windows]

theorem readLoad_answers {k day w : Nat} {count : Option Nat} (h : s.taken (.readLoad tag k day w count) = some (s1, ref)) :
    (7 < k ∨ 95 < w → exec (.readLoad tag k day w count) s = .next (s1.answered ref .badField [])) ∧
    (k ≤ 7 → w ≤ 95 → s1.held day = false → exec (.readLoad tag k day w count) s = .next (s1.answered ref .noSuch [])) ∧
    (k ≤ 7 → w ≤ 95 → s1.held day = true →
      exec (.readLoad tag k day w count) s = .next (s1.answered ref .ok
        (listField (fun v => [u16 (s1.load k ⟨day, v⟩), u16 (s1.capacity k v)]) (upFrom w (loadCount w count)) ++
          [.num 4 s1.catering.horizon, u16 s1.catering.requestList.length, u16 s1.catering.commitQueue.length]))) := by
  have hlt (hk : k ≤ 7) (hw : w ≤ 95) : ¬ (Config.kitchens ≤ k ∨ Config.windows ≤ w) := by
    simp only [Config.kitchens, Config.windows]; omega
  refine ⟨fun hx => ?_, fun hk hw ht => ?_, fun hk hw ht => ?_⟩
  · have hx' : Config.kitchens ≤ k ∨ Config.windows ≤ w := hx
    exact taken_reads rfl h (if_pos hx')
  · exact taken_reads rfl h (by simp only [if_neg (hlt hk hw), ht, Bool.not_false, if_true]; rfl)
  · exact taken_reads rfl h (by simp only [if_neg (hlt hk hw), ht, Bool.not_true, Bool.false_eq_true, if_false])

theorem inState_eq (b : Bank) (st : ChannelState) : b.inState st = b.channels.countP fun c => c.state = st :=
  List.countP_eq_length_filter.symm

theorem readTimers_answers (h : s.taken (.readTimers tag) = some (s1, ref)) : exec (.readTimers tag) s = .next (s1.answered ref .ok
    ([u16 (s1.bank.channels.countP fun c => c.state = .free), u16 (s1.bank.channels.countP fun c => c.state = .running),
      u16 (s1.bank.channels.countP fun c => c.state = .paused),
      u16 (s1.bank.channels.countP fun c => c.state = .suspended), u8 s1.bank.timerCount] ++
      listField s1.timerFields ((upFrom 0 256).filter fun c => (s1.channel c).state ≠ .free))) :=
  taken_reads rfl h (by simp only [inState_eq]; rfl)

/-- The places that are not general are the sweep's (R70). -/
theorem sweepPlaces_eq (p : Placement) : p.queue.length - p.general = p.queue.countP fun e => e.kind = .sweep := by
  have hl := List.length_eq_countP_add_countP (fun e : QueueEntry => decide (e.kind = .sweep)) (l := p.queue)
  have hg : p.general = p.queue.countP fun e => ¬ decide (e.kind = .sweep) = true := by
    simp [Placement.general, List.countP_eq_length_filter]
  omega

theorem readPlacement_answers (h : s.taken (.readPlacement tag) = some (s1, ref)) :
    ∃ engine : List Field, exec (.readPlacement tag) s = .next (s1.answered ref .ok
      ([u8 s1.placement.general, u8 (s1.placement.queue.countP fun e => e.kind = .sweep)] ++
        listField (fun e => [u8 e.kind.code, clientField e.client, flagField e.isRunning]) s1.placement.queue ++ engine)) ∧
      (s1.placement.search = none → engine = [flagField false, .num 1 none, .num 2 none, .num 2 none, .num 1 none,
        .num 2 none]) ∧
      (∀ x, s1.placement.search = some x → engine = [flagField true, u8 x.level] ++ listField (fun i => [u8 i]) x.dropped ++
        [u16 x.cursor, u8 x.candidates.length, u16 x.eligible]) := by
  refine ⟨_, taken_reads rfl h (by simp only [sweepPlaces_eq]; rfl), fun hs => ?_, fun x hs => ?_⟩
  · rw [hs]
  · rw [hs]

/-- The bookings that lie in a closure, as READ_SWEEP counts them (R167). -/
theorem length_filter_holds (l : List Booking) (c : Closure) :
    (l.filter c.holds).length = l.countP fun b => b.startMin < c.toMin && c.fromMin < b.endMin :=
  List.countP_eq_length_filter.symm

theorem readSweep_answers (h : s.taken (.readSweep tag) = some (s1, ref)) :
    ∃ context closure : List Field, exec (.readSweep tag) s = .next (s1.answered ref .ok (context ++
      [.handle (s1.sweep.current.map Prod.fst), .num 1 (s1.sweep.current.map fun p => p.2.code), u16 s1.sweep.relocated,
        u16 s1.sweep.displaced, u16 s1.sweep.left, .handle s1.sweep.clamp] ++ closure)) ∧
      (s1.sweep.sweeping = false → context = [flagField false, .num 2 none, .num 1 none, .num 1 none] ∧
        closure = closureFields none ++ [.num 2 none]) ∧
      (s1.sweep.sweeping = true →
        (∀ r, s1.sweep.origin = .host r → context = [flagField true, u16 s1.sweep.room, u8 0, u8 r.tag.toNat]) ∧
        (s1.sweep.origin = .resumed → context = [flagField true, u16 s1.sweep.room, u8 1, .num 1 none]) ∧
        (∀ c, (s1.room s1.sweep.room).closure = some c → closure = closureFields (some c) ++
          [u16 ((s1.timelineOf s1.sweep.room).countP fun b => b.startMin < c.toMin && c.fromMin < b.endMin)])) := by
  refine ⟨_, _, taken_reads rfl h (congrArg (Reply.mk s1 .ok) (List.append_assoc _ _ _)), fun hs => ?_, fun hs => ⟨fun r hr => ?_,
    fun hr => ?_, fun c hc => ?_⟩⟩
  · simp [hs]
  · simp [hs, hr, originFields, u16]
  · simp [hs, hr, originFields, u16]
  · simp [hs, hc, length_filter_holds, u16]

/-- Settles O38. -/
theorem readingsAnswerAndChangeNothing : Obligations.ReadingsAnswerAndChangeNothing := by
  intro s s1 ref tag
  refine ⟨readTime_answers, fun h => ⟨_, _, readStore_answers h, fun w hw => ?_, fun hw => ?_⟩, fun x h => readBooking_answers h,
    fun id h => ?_, fun r fromMin count h => ?_, fun r h => readRoom_answers h, fun k h => readKitchen_answers h,
    fun p h => readPanel_answers h, fun k day w count h => ?_, readTimers_answers, readRetention_answers, readPlacement_answers,
    readSweep_answers⟩
  · rw [hw]
    exact ⟨w.pos.eq_entry_iff, w.pos.eq_series_iff⟩
  · rw [hw]
    exact ⟨rfl, rfl⟩
  · obtain ⟨hfield, hnone, hok⟩ := readSeries_answers h
    refine ⟨hfield, hnone, fun x hid hx => ⟨_, _, rfl, fun n hn => ?_, fun hn => ?_, by rw [hok x hid hx, seriesFields_eq]⟩⟩
    · rw [hn]
    · rw [hn]
  · obtain ⟨hfield, hnone, hok⟩ := listRoom_answers h
    obtain ⟨hle, htwelve, hcount, hclamp⟩ := listCount_eq count
    refine ⟨hfield, hnone, fun hr ht => ⟨listCount count, _, _, List.take_append_drop (listCount count) _,
      List.length_take_le _ _, fun hrest => ?_, hle, htwelve, hcount, hclamp, ?_⟩⟩
    · have hlt := List.length_lt_of_drop_ne_nil hrest
      exact List.length_take_of_le (Nat.le_of_lt hlt)
    · rw [hok hr ht, flagField_more]
      rfl
  · obtain ⟨hfield, hnone, hok⟩ := readLoad_answers h
    obtain ⟨hle, hall, hcount⟩ := loadCount_eq w count
    exact ⟨hfield, hnone, fun hk hw ht => ⟨_, hle, hall, hcount, hok hk hw ht⟩⟩

end Sys2Proof.Machine
end

section
/-! SUPPORT. The warm reset (R13, R32, R55, R69, R85, R86, R121, R154, R166, R174, R181, R182). -/

namespace Sys2Proof.Machine

variable {s t u : State}

/-! ### Lists and days -/

/-- Some entry of a table satisfies a test that its out-of-range reading fails. -/
theorem any_iff_getD {α : Type} {f : α → Bool} {d : α} (hd : f d = false) (l : List α) :
    l.any f = true ↔ ∃ i, f (l.getD i d) = true := by
  rw [List.any_eq_true]
  constructor
  · rintro ⟨x, hx, hf⟩
    obtain ⟨i, hi, rfl⟩ := List.mem_iff_getElem.mp hx
    exact ⟨i, by simpa [hi] using hf⟩
  · rintro ⟨i, hf⟩
    by_cases hi : i < l.length
    · exact ⟨l[i], List.getElem_mem hi, by simpa [hi] using hf⟩
    · simp [Nat.le_of_not_lt hi, hd] at hf

theorem foldl_laterDay (l : List Nat) (a : Nat) :
    l.foldl (fun p d => laterDay p (some d)) (some a) = some (l.foldl max a) := by
  induction l generalizing a with
  | nil => rfl
  | cons d l ih => exact ih (max a d)

/-- The pending day after a warm reset is the latest of the days it may be (R32, R69, R152, log 15). -/
theorem pendingAfter_eq_max (pending walk : Option Nat) (owed : List Nat) :
    pendingAfter pending walk owed = (pending.toList ++ walk.toList ++ owed).max? := by
  have key (l : List Nat) : l.foldl (fun p d => laterDay p (some d)) none = l.max? := by
    cases l with
    | nil => rfl
    | cons a l => exact foldl_laterDay l a
  cases pending <;> cases walk
  · exact key owed
  · exact foldl_laterDay owed _
  · exact foldl_laterDay owed _
  · exact foldl_laterDay owed _

/-! ### The parts of a warm reset -/

/-- With no hold waiting there is none to make (R121). -/
theorem makeHolds_eq_self (h : ∀ p, (s.panel p).hold = none) : s.makeHolds = s := by
  refine overAll_invariant (P := fun t => t = s) (fun p t ht => ?_) rfl
  subst ht
  rw [h p]

/-- A sweep in flight is abandoned and its room taken back into service (R166). -/
theorem abandonSweep_eq (s : State) : s.abandonSweep = { s with
    rooms := if s.sweep.sweeping then s.rooms.modify s.sweep.room fun r => { r with service := .inService } else s.rooms
    sweep := .idle } := by
  unfold State.abandonSweep
  split <;> rfl

/-- What a panel's entry keeps when its view or list is built anew. -/
structure PanelKept where
  kind : Option PanelKind
  boundTo : Option Nat
  missed : Nat
  mark : Bool
  power : PowerClass
  slot : ResultSlot
  ackedSeq : Option Nat

def Panel.kept (p : Panel) : PanelKept := ⟨p.kind, p.boundTo, p.missed, p.mark, p.power, p.slot, p.ackedSeq⟩

theorem kept_modPanel {p : Nat} {f : Panel → Panel} (h : ∀ e, (f e).kept = e.kept) (q : Nat) :
    ((s.modPanel p f).panel q).kept = (s.panel q).kept := by
  have hq : (s.modPanel p f).panel q = if p = q ∧ q < s.panelBus.panels.length then f (s.panel q) else s.panel q :=
    getD_modify _ _ _ _ _
  rw [hq]
  split
  · exact h _
  · rfl

theorem kept_rebuildPanel (p q : Nat) : ((s.rebuildPanel p).panel q).kept = (s.panel q).kept := by
  unfold State.rebuildPanel
  split
  · exact kept_modPanel (f := fun e => e.publish _) (fun _ => rfl) q
  · exact kept_modPanel (f := fun e => e.swapIn _ _) (fun _ => rfl) q
  · rfl

theorem rebuildPanel_keeps (p : Nat) :
    s.rebuildPanel p = { s with panelBus := { s.panelBus with panels := (s.rebuildPanel p).panelBus.panels } } := by
  unfold State.rebuildPanel
  split <;> rfl

/-- The panel buses before their views and lists are built (R121). -/
def PanelBus.warmed (b : PanelBus) : PanelBus := ⟨b.panels.map Panel.warm, List.replicate Config.ports .idle, [], []⟩

theorem warmPanels_keeps (s : State) :
    s.warmPanels = { s with panelBus := { s.panelBus.warmed with panels := s.warmPanels.panelBus.panels } } := by
  unfold State.warmPanels
  exact overAll_invariant (P := fun u => u = { s with panelBus := { s.panelBus.warmed with panels := u.panelBus.panels } })
    (fun p u hu => by rw [rebuildPanel_keeps, hu]) rfl

/-- Every panel's entry keeps its binding, its marks and its power class, with its slot empty (R121). -/
theorem warmPanels_kept (p : Nat) : (s.warmPanels.panel p).kept =
    ⟨(s.panel p).kind, (s.panel p).boundTo, (s.panel p).missed, (s.panel p).mark, (s.panel p).power, .empty, none⟩ := by
  have h : (s.warmPanels.panel p).kept = (({ s with panelBus := s.panelBus.warmed } : State).panel p).kept :=
    overAll_keeps (fun u => (u.panel p).kept) (fun q u => kept_rebuildPanel q p) _
  refine h.trans ?_
  by_cases hp : p < s.panelBus.panels.length
  · simp [State.panel, PanelBus.warmed, hp, Panel.kept, Panel.warm]
  · simp [State.panel, PanelBus.warmed, Nat.le_of_not_lt hp, Panel.kept, Panel.powerOn]

/-! ### The state after it -/

/-- The bookings after a warm reset are those before it, without their timers (R55). -/
theorem bookingAt_dropTimers (i : Nat) :
    s.dropTimers.bookingAt i = (s.bookingAt i).map fun b => { b with timer := none } := by
  by_cases hi : i < s.dir.entries.length
  · simp [State.bookingAt, State.dropTimers, hi]
  · simp [State.bookingAt, State.dropTimers, Nat.le_of_not_lt hi]

theorem anyBookingMark_iff : s.anyBookingMark = true ↔ ∃ i b, s.bookingAt i = some b ∧ b.mark = true := by
  rw [State.anyBookingMark, any_iff_getD (d := ⟨0, none⟩) rfl]
  simp [State.bookingAt, Option.any_eq_true]

theorem anySeriesMark_iff : (s.series.list.any fun o => o.any (·.mark)) = true ↔ ∃ id x, s.seriesAt id = some x ∧ x.mark = true := by
  rw [any_iff_getD (d := none) rfl]
  have hj (i : Nat) : s.series.list.getD i none = s.seriesAt i := by
    rw [State.seriesAt, List.getD_eq_getElem?_getD]
    cases s.series.list[i]? <;> rfl
  simp only [hj, Option.any_eq_true]

theorem anyPanelMark_iff : s.panelBus.panels.any (·.mark) = true ↔ ∃ p, (s.panel p).mark = true :=
  any_iff_getD (d := Panel.powerOn) rfl _

/-- The marks that the flags are derived from are those of the kept records (R181). -/
theorem anyBookingMark_dropTimers : s.dropTimers.anyBookingMark = s.anyBookingMark := by
  rw [Bool.eq_iff_iff, anyBookingMark_iff, anyBookingMark_iff]
  simp only [bookingAt_dropTimers]
  constructor
  · rintro ⟨i, b, hb, hm⟩
    obtain ⟨x, hx, rfl⟩ := Option.map_eq_some_iff.mp hb
    exact ⟨i, x, hx, hm⟩
  · rintro ⟨i, b, hb, hm⟩
    exact ⟨i, { b with timer := none }, by rw [hb]; rfl, hm⟩

/-- A warm reset of a part without holds, block by block. -/
theorem warm_eq (h : ∀ p, (s.panel p).hold = none) : ∃ panels : List Panel,
    s.warm = { s with
      clock := s.clock.warm
      owed := .nothing
      handed := []
      rooms := if s.sweep.sweeping then s.rooms.modify s.sweep.room fun r => { r with service := .inService } else s.rooms
      store := { s.store with
        walk := none
        pendingDay := pendingAfter s.store.pendingDay (s.store.walk.map (·.day)) s.owed.retirements }
      dir := s.dropTimers.dir
      series := { s.series with
        walk := none
        pendingDay := pendingAfter s.series.pendingDay (s.series.walk.map (·.day)) s.owed.materialisations
        passQueue := []
        pass := none }
      placement := { s.placement with queue := [], search := none }
      bank := { s.bank with channels := List.replicate Config.channels .idle }
      panelBus := { s.panelBus.warmed with panels := panels }
      catering := { s.catering with
        walk := none
        pendingDay := pendingAfter s.catering.pendingDay (s.catering.walk.map (·.day)) s.owed.plannings }
      sweep := .idle
      link := ⟨[], [], [], [], false, []⟩
      notice := { s.notice with
        changed := ⟨s.anyBookingMark, false⟩
        series := ⟨s.series.list.any fun o => o.any (·.mark), false⟩
        panel := ⟨panels.any (·.mark), false⟩
        catering := ⟨s.notice.catering.isSet && s.anyBookingMark, false⟩
        store := decide (s.store.freeCount < Config.lowWater)
        clock := false }
      retention := .good
      catchUpOwed := true
      missedDayStart := s.warmBlocks.missedDayStart
      catchUp := none } ∧
    ∀ p, (panels.getD p .powerOn).kept =
      ⟨(s.panel p).kind, (s.panel p).boundTo, (s.panel p).missed, (s.panel p).mark, (s.panel p).power, .empty, none⟩ := by
  have hb := warmPanels_keeps s.abandonSweep.abandonWalks.dropTimers.warmBlocks
  have hk (p : Nat) := warmPanels_kept (s := s.abandonSweep.abandonWalks.dropTimers.warmBlocks) p
  have hp (p : Nat) : s.abandonSweep.abandonWalks.dropTimers.warmBlocks.panel p = s.panel p := by
    rw [abandonSweep_eq]
    rfl
  simp only [State.panel] at hk hp
  simp only [hp] at hk
  generalize s.abandonSweep.abandonWalks.dropTimers.warmBlocks.warmPanels.panelBus.panels = panels at hb hk
  refine ⟨panels, ?_, hk⟩
  rw [State.warm, makeHolds_eq_self h, hb, abandonSweep_eq, State.rederive]
  rw [← anyBookingMark_dropTimers (s := s)]
  rfl

theorem room_inService (r : Nat) : (s.sweep.sweeping = true → s.sweep.room = r → r < s.rooms.length →
      (if s.sweep.sweeping then s.rooms.modify s.sweep.room fun r => { r with service := .inService } else s.rooms).getD r
        .absent = { s.room r with service := .inService }) ∧
    (s.sweep.sweeping = false ∨ s.sweep.room ≠ r →
      (if s.sweep.sweeping then s.rooms.modify s.sweep.room fun r => { r with service := .inService } else s.rooms).getD r
        .absent = s.room r) := by
  refine ⟨fun hs hr hlt => ?_, fun h => ?_⟩
  · rw [if_pos hs, hr]
    exact getD_modify_same hlt
  · split
    · rename_i hs
      exact getD_modify_other (h.resolve_left (by simp [hs]))
    · rfl

/-- Settles O52. -/
theorem warmResetKeepsTheRecords : Obligations.WarmResetKeepsTheRecords := by
  refine ⟨fun s => rfl, fun s hl => ?_, fun s hg hh => ?_⟩
  · change execWarmReset s = execPowerOnReset s
    rw [execWarmReset, hl]
    rfl
  · obtain ⟨panels, hw, hk⟩ := warm_eq hh
    refine ⟨s.warm.followAttn, ?_, ?_⟩
    · change execWarmReset s = _
      rw [execWarmReset, hg]
      rfl
    · rw [hw, pendingAfter_eq_max, pendingAfter_eq_max, pendingAfter_eq_max]
      have hpanel : panels.any (·.mark) = true ↔ ∃ p, (s.panel p).mark = true := by
        rw [any_iff_getD (d := Panel.powerOn) rfl]
        exact exists_congr fun p => by rw [show (panels.getD p .powerOn).mark = (s.panel p).mark from congrArg PanelKept.mark (hk p)]
      refine ⟨rfl, rfl, rfl, rfl, rfl, rfl, rfl, rfl, room_inService, bookingAt_dropTimers, rfl, rfl, rfl, rfl, rfl, rfl, rfl,
        rfl, rfl, rfl, rfl, rfl, rfl, rfl, rfl, fun c hc => ?_, rfl, rfl, rfl, rfl, rfl, rfl, rfl, rfl, rfl, rfl, rfl, rfl,
        anyBookingMark_iff, rfl, anySeriesMark_iff, rfl, hpanel, rfl, ?_, rfl, decide_eq_true_iff, rfl, rfl, rfl, fun hn => ?_,
        fun c hc => ?_, fun p => ?_, rfl⟩
      · have hi : (List.replicate Config.channels Channel.idle).getD c .idle = .idle := by
          rw [List.getD_eq_getElem?_getD, List.getElem?_replicate]
          split <;> rfl
        exact hi
      · rw [← anyBookingMark_iff]
        exact Bool.and_eq_true_iff
      · simp [State.followAttn, State.warmBlocks, hn]
      · simp [State.followAttn, State.warmBlocks, hc]
      · have hp := hk p
        exact ⟨congrArg PanelKept.kind hp, congrArg PanelKept.boundTo hp, congrArg PanelKept.missed hp,
          congrArg PanelKept.mark hp, congrArg PanelKept.power hp, congrArg PanelKept.slot hp, congrArg PanelKept.ackedSeq hp⟩

end Sys2Proof.Machine
end

section
/-! SUPPORT. The clock of a trim (R17): the minutes that a forward trim counts, the day events it raises, and what it leaves
owed. -/

namespace Sys2Proof.Machine

variable {s t : State} {c : Clock}

/-! ### What the blocks' own steps leave -/

/-- The part of the state outside the records, but for the sweep, which a minute event may begin (R165). -/
def State.timing (s : State) : Outside := { s.outside with sweep := Sweep.idle }

theorem timing_of_outside (h : t.outside = s.outside) : t.timing = s.timing := by simp [State.timing, h]

theorem timing_owed (s : State) : s.timing.owed = s.owed := rfl

theorem timing_resumeSweep (s : State) : s.resumeSweep.timing = s.timing := by
  unfold State.resumeSweep
  split
  · rfl
  · split <;> rfl

theorem timing_closureTimes (m : Nat) (s : State) : (s.closureTimes m).timing = s.timing := by
  rw [State.closureTimes, timing_resumeSweep]
  exact timing_of_outside (overAll_keeps State.outside (fun r u => outside_closureTime u m r) s)

theorem timing_stepped {f : State → State} (h : ∀ u, (f u).timing = u.timing) (s : State) :
    (s.stepped f).timing = s.timing := by
  rw [State.stepped, timing_of_outside (outside_relist _ _), h]

theorem timing_takeSeconds (n : Nat) (s : State) : (State.takeSeconds n s).timing = s.timing := by
  induction n generalizing s with
  | zero => rfl
  | succ n ih => rw [State.takeSeconds, ih, timing_stepped fun u => timing_of_outside (outside_bankSecond u)]

/-- What stays owed when the second and minute events have been taken: the walks' days (log 9). -/
def Owed.daysOnly (o : Owed) : Owed := { o with seconds := 0, starts := [], openings := [], commits := [], closures := [] }

/-- Taking what is owed leaves the clock and the link, and only the walks' days owed (log 9). -/
theorem timing_takeOwed (s : State) : s.takeOwed.timing = { s.timing with owed := s.owed.daysOnly } := by
  have fold {f : Nat → State → State} (h : ∀ m u, (f m u).timing = u.timing) (l : List Nat) (u : State) :
      (l.foldl (fun t m => t.stepped (f m)) u).timing = u.timing :=
    foldl_keeps State.timing (fun t m => timing_stepped (h m) t) l u
  unfold State.takeOwed
  rw [fold timing_closureTimes, fold fun m u => timing_of_outside (outside_commits u m),
    fold fun m u => timing_of_outside (outside_windowOpenings u m),
    fold fun m u => timing_of_outside (outside_startsAndEnds u m), timing_takeSeconds]
  rfl

/-! ### A counted minute -/

/-- The clock one minute later (R15). -/
def Clock.next (c : Clock) : Clock :=
  { c with minute := c.minute + 1, dayRaised := (c.dayEvent (c.minute + 1)).or c.dayRaised }

/-- The owed walks with more days (R15). -/
def Owed.withDays (o : Owed) (l : List Nat) : Owed :=
  { o with retirements := o.retirements ++ l, materialisations := o.materialisations ++ l, plannings := o.plannings ++ l }

/-- A minute counted outside the catch-up walk, below the largest minute (R15). -/
theorem nextMinute_eq (hm : s.clock.minute < Config.maxMinute) (hc : s.catching = false) : s.nextMinute =
    ({ s with clock := s.clock.next }).raiseMinute (s.clock.minute + 1) (s.clock.dayEvent (s.clock.minute + 1)) := by
  unfold State.nextMinute
  rw [if_neg (Nat.not_le.mpr hm)]
  simp only [State.catching] at hc
  simp only [State.catching, hc, Bool.false_eq_true, if_false, Clock.next]
  cases s.clock.dayEvent (s.clock.minute + 1) <;> rfl

/-- One step of a forward trim moves the clock one minute and leaves its day event owed (R17, log 9). -/
theorem timing_trimForwardStep (hm : s.clock.minute < Config.maxMinute) (hc : s.catching = false) :
    s.trimForwardStep.timing = { s.timing with
      clock := s.clock.next
      owed := (s.owed.withDays (s.clock.dayEvent (s.clock.minute + 1)).toList).daysOnly } := by
  have h : (s.stepped State.trimMinute).timing = s.nextMinute.timing := by
    rw [State.stepped, timing_of_outside (outside_relist _ _), State.trimMinute,
      timing_of_outside ((outside_expireAll _).trans (outside_countDown _ _))]
  have ho : (s.stepped State.trimMinute).owed = s.nextMinute.owed := congrArg Outside.owed h
  rw [State.trimForwardStep, timing_takeOwed, h, ho, nextMinute_eq hm hc]
  rfl

/-! ### The minutes of a forward trim -/

/-- The clock `n` minutes later. -/
def Clock.after : Nat → Clock → Clock
  | 0, c => c
  | n + 1, c => Clock.after n c.next

/-- The day events of the next `n` minutes, in order (R15). -/
def Clock.daysIn : Nat → Clock → List Nat
  | 0, _ => []
  | n + 1, c => (c.dayEvent (c.minute + 1)).toList ++ Clock.daysIn n c.next

theorem withDays_append (o : Owed) (l l' : List Nat) : (o.withDays l).withDays l' = o.withDays (l ++ l') := by
  simp [Owed.withDays]

theorem withDays_nil (o : Owed) : o.withDays [] = o := by simp [Owed.withDays]

theorem daysOnly_withDays (o : Owed) (l : List Nat) : (o.withDays l).daysOnly = o.daysOnly.withDays l := rfl

/-- What a forward trim of `n` minutes does to the clock and to what is owed (R17). -/
theorem timing_trimForward (n : Nat) (s : State) (hm : s.clock.minute + n ≤ Config.maxMinute) (hc : s.catching = false)
    (ho : s.owed.daysOnly = s.owed) : (State.trimForward n s).timing =
      { s.timing with clock := s.clock.after n, owed := s.owed.withDays (s.clock.daysIn n) } := by
  induction n generalizing s with
  | zero => simp only [State.trimForward, Clock.after, Clock.daysIn, withDays_nil]; rfl
  | succ n ih =>
    have h := timing_trimForwardStep (s := s) (by omega) hc
    have hclock : s.trimForwardStep.clock = s.clock.next := congrArg Outside.clock h
    have howed : s.trimForwardStep.owed = s.owed.withDays (s.clock.dayEvent (s.clock.minute + 1)).toList := by
      rw [← timing_owed, h, daysOnly_withDays, ho]
    have hcatch : s.trimForwardStep.catching = false :=
      (congrArg Option.isSome (congrArg Outside.catchUp h)).trans hc
    rw [State.trimForward, ih _ (by rw [hclock, Clock.next]; dsimp only; omega) hcatch
      (by rw [howed, daysOnly_withDays, ho]), h, hclock, howed, withDays_append]
    rfl

/-! ### The day events of the next minutes -/

/-- Counting minutes changes the minute and day_raised alone. -/
theorem after_eq (n : Nat) (c : Clock) :
    c.after n = { c with minute := c.minute + n, dayRaised := (c.after n).dayRaised } := by
  induction n generalizing c with
  | zero => rfl
  | succ n ih =>
    rw [Clock.after, ih]
    simp only [Clock.next, Clock.mk.injEq, and_true]
    omega

/-- A minute raises the day event of its day exactly when it is the day's minute 0 and the day is after day_raised (R15). -/
theorem dayEvent_eq_some_iff {m d : Nat} :
    c.dayEvent m = some d ↔ m % 1440 = 0 ∧ m / 1440 = d ∧ ∀ r, c.dayRaised = some r → r < d := by
  refine ⟨fun h => ?_, fun ⟨hz, hd, hr⟩ => dayEvent_eq_some hz hd hr⟩
  have hz : m % 1440 = 0 := by
    by_contra hz
    rw [dayEvent_eq_none (.inl hz)] at h
    cases h
  have hr : ∀ r, c.dayRaised = some r → r < m / 1440 := by
    intro r hr
    by_contra hlt
    rw [dayEvent_eq_none (.inr ⟨r, hr, by omega⟩)] at h
    cases h
  rw [dayEvent_eq_some hz rfl hr] at h
  obtain rfl : m / 1440 = d := by simpa using h
  exact ⟨hz, rfl, hr⟩

/-- The day events of the next `n` minutes are those of their new days (R15). -/
theorem mem_daysIn (n : Nat) (c : Clock) (d : Nat) : d ∈ c.daysIn n ↔ ∃ k, c.minute < k ∧ k ≤ c.minute + n ∧ k % 1440 = 0 ∧
    k / 1440 = d ∧ ∀ r, c.dayRaised = some r → r < d := by
  induction n generalizing c with
  | zero => simp only [Clock.daysIn, List.not_mem_nil, false_iff]; rintro ⟨k, h1, h2, _⟩; omega
  | succ n ih =>
    have hraised : (∃ k, c.minute + 1 < k ∧ k ≤ c.minute + 1 + n ∧ k % 1440 = 0 ∧ k / 1440 = d ∧
          ∀ r, c.next.dayRaised = some r → r < d) ↔
        ∃ k, c.minute + 1 < k ∧ k ≤ c.minute + 1 + n ∧ k % 1440 = 0 ∧ k / 1440 = d ∧
          ∀ r, c.dayRaised = some r → r < d := by
      refine exists_congr fun k => and_congr_right fun hk => and_congr_right fun _ => and_congr_right fun hz =>
        and_congr_right fun hd => ?_
      cases he : c.dayEvent (c.minute + 1) with
      | none => simp [Clock.next, he]
      | some e =>
        obtain ⟨hez, hed, her⟩ := dayEvent_eq_some_iff.mp he
        have hlt : e < d := by omega
        simp only [Clock.next, he, Option.some_or, Option.some.injEq, forall_eq', hlt, true_iff]
        exact fun r hr => (her r hr).trans hlt
    rw [Clock.daysIn, List.mem_append, Option.mem_toList, ih, dayEvent_eq_some_iff]
    rw [show c.next.minute = c.minute + 1 from rfl, hraised]
    constructor
    · rintro (⟨hz, hd, hr⟩ | ⟨k, h1, h2, hk⟩)
      · exact ⟨c.minute + 1, by omega, by omega, hz, hd, hr⟩
      · exact ⟨k, by omega, by omega, hk⟩
    · rintro ⟨k, h1, h2, hz, hd, hr⟩
      by_cases hk : k = c.minute + 1
      · exact .inl ⟨hk ▸ hz, hk ▸ hd, hr⟩
      · exact .inr ⟨k, by omega, by omega, hz, hd, hr⟩

/-- Within a day's length at most one new day begins, and its day event is the last raised. -/
theorem daysIn_cases {n : Nat} (hn : n ≤ 1440) (c : Clock) :
    (c.daysIn n = [] ∧ (c.after n).dayRaised = c.dayRaised) ∨ ∃ d, c.daysIn n = [d] ∧ (c.after n).dayRaised = some d := by
  induction n generalizing c with
  | zero => exact .inl ⟨rfl, rfl⟩
  | succ n ih =>
    have hrest := ih (by omega) c.next
    cases he : c.dayEvent (c.minute + 1) with
    | none => simpa [Clock.daysIn, Clock.after, he, Clock.next] using hrest
    | some e =>
      obtain ⟨hez, -, -⟩ := dayEvent_eq_some_iff.mp he
      have hnil : c.next.daysIn n = [] := by
        refine List.eq_nil_iff_forall_not_mem.mpr fun d hd => ?_
        obtain ⟨k, h1, h2, hz, -⟩ := (mem_daysIn n c.next d).mp hd
        rw [show c.next.minute = c.minute + 1 from rfl] at h1 h2
        omega
      refine .inr ⟨e, by simp [Clock.daysIn, he, hnil], ?_⟩
      rcases hrest with ⟨-, hr⟩ | ⟨d, hd, -⟩
      · rw [Clock.after, hr]; simp [Clock.next, he]
      · simp [hnil] at hd

end Sys2Proof.Machine
end

section
/-! SUPPORT. What one operation of the engine and the bank may do: change one booking and one channel, and leave every other
booking where it stands (R33, R36, R86). -/

namespace Sys2Proof.Machine

variable {s t u : State} {j c : Nat} {d : Option Nat} {a b x : Booking}

/-! ### A booking before and after -/

/-- `x` is `b` but for its order, and for a change mark that may have been set (R52). -/
def Kept (b x : Booking) : Prop := ∃ m o, (b.mark = true → m = true) ∧ x = { b with mark := m, order := o }

/-- `x` is what an operation may make of `b`: if it is active it stood there before, with its room and its span, and its
timer is `d` or the timer it had. -/
structure Turned (d : Option Nat) (b x : Booking) : Prop where
  handle : x.handle = b.handle
  active : x.state.active = true → b.state.active = true
  room : x.room = b.room
  startMin : x.startMin = b.startMin
  endMin : x.state.active = true → x.endMin = b.endMin
  timer : ∀ c, x.timer = some c → d = some c ∨ b.timer = some c

theorem Kept.refl (b : Booking) : Kept b b := ⟨b.mark, b.order, id, rfl⟩

theorem Kept.trans (h : Kept a b) (h' : Kept b x) : Kept a x := by
  obtain ⟨m, o, hm, rfl⟩ := h
  obtain ⟨m', o', hm', rfl⟩ := h'
  exact ⟨m', o', fun ha => hm' (hm ha), rfl⟩

theorem Kept.turned (h : Kept b x) : Turned d b x := by
  obtain ⟨m, o, -, rfl⟩ := h
  exact ⟨rfl, id, rfl, rfl, fun _ => rfl, fun _ => .inr⟩

theorem Turned.trans (h : Turned d a b) (h' : Turned d b x) : Turned d a x where
  handle := h'.handle.trans h.handle
  active hx := h.active (h'.active hx)
  room := h'.room.trans h.room
  startMin := h'.startMin.trans h.startMin
  endMin hx := (h'.endMin hx).trans (h.endMin (h'.active hx))
  timer c hc := (h'.timer c hc).elim .inl (h.timer c)

/-- Two readings of an entry: both empty, or two bookings related by `R`. -/
theorem rel_trans {R : Booking → Booking → Prop} (hR : ∀ {a b x}, R a b → R b x → R a x) {p q r : Option Booking}
    (h : Option.Rel R p q) (h' : Option.Rel R q r) : Option.Rel R p r := by
  cases h with
  | none => exact h'
  | some hab => cases h' with | some hbx => exact .some (hR hab hbx)

theorem rel_map {R : Booking → Booking → Prop} {p : Option Booking} {f : Booking → Booking}
    (h : ∀ b, p = some b → R b (f b)) : Option.Rel R p (p.map f) := by
  cases p with
  | none => exact .none
  | some b => exact .some (h b rfl)

theorem rel_refl (p : Option Booking) : Option.Rel Kept p p := by
  cases p with
  | none => exact .none
  | some b => exact .some (.refl b)

theorem rel_turned {p q : Option Booking} (h : Option.Rel Kept p q) : Option.Rel (Turned d) p q := by
  cases h with
  | none => exact .none
  | some h => exact .some h.turned

/-! ### One booking and one channel change -/

/-- From `s` to `t` no booking but that of entry `j` moves, and no channel but `d` changes: the other bookings keep their
places on the timelines, and so does that of entry `j` while it is active; a channel that changed is FREE or belongs to
entry `j`. -/
structure Touches (j : Nat) (d : Option Nat) (s t : State) : Prop where
  others : ∀ i, i ≠ j → Option.Rel Kept (s.bookingAt i) (t.bookingAt i)
  own : Option.Rel (Turned d) (s.bookingAt j) (t.bookingAt j)
  generation : ∀ i, (t.dir.entries.getD i ⟨0, none⟩).generation = (s.dir.entries.getD i ⟨0, none⟩).generation
  shrinks : ∀ r h, h ∈ (t.room r).timeline → h ∈ (s.room r).timeline
  stays : ∀ r h, h ∈ (s.room r).timeline → (h.idx = j → ∃ x, t.bookingAt j = some x ∧ x.state.active = true) →
    h ∈ (t.room r).timeline
  channel : ∀ c, t.channel c = s.channel c ∨
    d = some c ∧ ((t.channel c).state = .free ∨ ∃ h, (t.channel c).booking = some h ∧ h.idx = j)

/-- A step that leaves the directory, the timelines and the channels. -/
theorem touches_of_eq (hd : t.dir = s.dir) (hr : ∀ r, (t.room r).timeline = (s.room r).timeline)
    (hb : t.bank.channels = s.bank.channels) : Touches j d s t where
  others i _ := by rw [State.bookingAt_congr hd]; exact rel_refl _
  own := by rw [State.bookingAt_congr hd]; exact rel_turned (rel_refl _)
  generation i := by rw [hd]
  shrinks r h := by rw [hr]; exact id
  stays r h hh _ := by rw [hr]; exact hh
  channel c := .inl (by rw [State.channel, State.channel, hb])

theorem Touches.refl (s : State) : Touches j d s s := touches_of_eq rfl (fun _ => rfl) rfl

theorem Touches.trans (h : Touches j d s t) (h' : Touches j d t u) : Touches j d s u where
  others i hi := rel_trans (R := Kept) Kept.trans (h.others i hi) (h'.others i hi)
  own := rel_trans (R := Turned d) Turned.trans h.own h'.own
  generation i := (h'.generation i).trans (h.generation i)
  shrinks r x hx := h.shrinks r x (h'.shrinks r x hx)
  stays r x hx hj := by
    refine h'.stays r x (h.stays r x hx fun hxj => ?_) hj
    obtain ⟨y, hy, ha⟩ := hj hxj
    have hown := h'.own
    rw [hy] at hown
    cases hb : t.bookingAt j with
    | none => rw [hb] at hown; cases hown
    | some b =>
      rw [hb] at hown
      cases hown with | some hby => exact ⟨b, rfl, hby.active ha⟩
  channel c := by
    rcases h'.channel c with hc | hc
    · rw [hc]; exact h.channel c
    · exact .inr hc

/-- Folding operations that may each touch the same booking and channel, or none. -/
theorem touches_overAll {n : Nat} {f : Nat → State → State} (h : ∀ i t, Touches j d t (f i t)) (s : State) :
    Touches j d s (overAll n f s) :=
  overAll_invariant (P := Touches j d s) (fun i t ht => ht.trans (h i t)) (.refl s)

/-! ### The updates -/

theorem touches_modBooking {f : Booking → Booking} (h : ∀ b, s.bookingAt j = some b → Turned d b (f b)) :
    Touches j d s (s.modBooking j f) where
  others i hi := by rw [State.bookingAt_modBooking_other (Ne.symm hi)]; exact rel_refl _
  own := by rw [State.bookingAt_modBooking_same]; exact rel_map h
  generation i := State.generation_modBooking ..
  shrinks _ _ := id
  stays _ _ h _ := h
  channel _ := .inl rfl

/-- A change of a booking's order or mark moves no booking. -/
theorem touches_keptBooking {i : Nat} {f : Booking → Booking} (h : ∀ b, Kept b (f b)) : Touches j d s (s.modBooking i f) := by
  have hrel (k : Nat) : Option.Rel Kept (s.bookingAt k) ((s.modBooking i f).bookingAt k) := by
    rw [State.bookingAt_modBooking]
    split
    · exact rel_map fun b _ => h b
    · exact rel_refl _
  exact ⟨fun k _ => hrel k, rel_turned (hrel j), fun k => State.generation_modBooking .., fun _ _ => id, fun _ _ h _ => h,
    fun _ => .inl rfl⟩

theorem touches_modOrder {i : Nat} {f : Order → Order} : Touches j d s (s.modOrder i f) :=
  touches_keptBooking fun b => ⟨b.mark, b.order.map f, id, rfl⟩

theorem touches_markBooking {i : Nat} : Touches j d s (s.markBooking i) :=
  (touches_keptBooking fun b => ⟨true, b.order, fun _ => rfl, rfl⟩).trans (touches_of_eq rfl (fun _ => rfl) rfl)

/-- A change of a room that leaves its timeline. -/
theorem timeline_modRoom {q : Nat} {f : Room → Room} (h : ∀ x, (f x).timeline = x.timeline) (s : State) (r : Nat) :
    ((s.modRoom q f).room r).timeline = (s.room r).timeline := by
  simp only [State.room, State.modRoom, getD_modify]
  split
  · exact h _
  · rfl

theorem touches_modRoom {q : Nat} {f : Room → Room} (h : ∀ x, (f x).timeline = x.timeline) : Touches j d s (s.modRoom q f) :=
  touches_of_eq rfl (timeline_modRoom h s) rfl

theorem touches_reportRoom {r : Nat} : Touches j d s (s.reportRoom r) := touches_of_eq rfl (fun _ => rfl) rfl

/-- A timeline after a handle has been taken off one. -/
theorem mem_takeOffTimeline {q r : Nat} {h k : Handle} :
    k ∈ ((s.takeOffTimeline q h).room r).timeline ↔ k ∈ (s.room r).timeline ∧ (q = r → k ≠ h) := by
  have hroom : (s.takeOffTimeline q h).room r =
      (s.modRoom q fun x => { x with timeline := x.timeline.filter (· ≠ h) }).room r := rfl
  rw [hroom, State.room, State.modRoom, getD_modify, ← State.room]
  by_cases hq : q = r ∧ r < s.rooms.length
  · rw [if_pos hq]
    simp [hq.1]
  · rw [if_neg hq]
    refine ⟨fun hk => ⟨hk, fun hqr => absurd ⟨hqr, ?_⟩ hq⟩, And.left⟩
    by_contra hr
    simp [State.room, List.getD_eq_getElem?_getD, hr, Room.absent] at hk

/-- A booking that has left the active states goes off its timeline (R36 step 1). -/
theorem touches_takeOffTimeline {r : Nat} {h : Handle} (hj : h.idx = j)
    (ha : ∀ x, s.bookingAt j = some x → x.state.active = false) : Touches j d s (s.takeOffTimeline r h) where
  others i _ := rel_refl _
  own := rel_turned (rel_refl _)
  generation _ := rfl
  shrinks q k hk := (mem_takeOffTimeline.mp hk).1
  stays q k hk hact := mem_takeOffTimeline.mpr ⟨hk, fun _ hkh => by
    obtain ⟨x, hx, hxa⟩ := hact (hkh ▸ hj)
    rw [ha x hx] at hxa
    cases hxa⟩
  channel _ := .inl rfl

/-- A channel after a change of one. -/
theorem channel_modChannel (c e : Nat) (f : Channel → Channel) :
    (s.modChannel c f).channel e = s.channel e ∨ c = e ∧ (s.modChannel c f).channel e = f (s.channel e) := by
  simp only [State.channel, State.modChannel, getD_modify]
  split
  · rename_i h; exact .inr ⟨h.1, rfl⟩
  · exact .inl rfl

theorem touches_modChannel {f : Channel → Channel}
    (h : ∀ x, (f x).state = .free ∨ ∃ k, (f x).booking = some k ∧ k.idx = j) : Touches j (some c) s (s.modChannel c f) where
  others i _ := rel_refl _
  own := rel_turned (rel_refl _)
  generation _ := rfl
  shrinks _ _ := id
  stays _ _ h _ := h
  channel e := by
    rcases channel_modChannel (s := s) c e f with he | ⟨rfl, he⟩
    · exact .inl he
    · exact .inr ⟨rfl, by rw [he]; exact h _⟩

theorem touches_freeChannel : Touches j (some c) s (s.freeChannel c) := touches_modChannel fun _ => .inl rfl

/-! ### Operations that move no booking -/

theorem touches_relist (before : State) : Touches j d s (s.relist before) :=
  touches_of_eq (relist_dir before) (fun r => by rw [State.room, relist_rooms]; rfl) (by rw [relist_bank])

theorem touches_cateringFailure {i : Nat} : Touches j d s (s.cateringFailure i) :=
  touches_markBooking.trans (touches_of_eq rfl (fun _ => rfl) rfl)

theorem touches_unplan {h : Handle} : Touches j d s (s.unplan h) := by
  have hload (k : Nat) (w : AbsWindow) (f : Nat → Nat) : Touches j d s (s.modLoad k w f) := by
    unfold State.modLoad
    split
    · split
      · exact touches_of_eq rfl (fun _ => rfl) rfl
      · exact .refl s
    · exact .refl s
  unfold State.unplan
  split
  · refine Touches.trans (t := s.unload _) ?_ (touches_of_eq rfl (fun _ => rfl) rfl)
    unfold State.unload
    split
    · exact hload ..
    · exact .refl s
  · exact .refl s

theorem touches_voidOrder {h : Handle} : Touches j d s (s.voidOrder h) := touches_unplan.trans touches_modOrder

theorem touches_strand {i : Nat} {p : Bool} : Touches j d s (s.strand i p) := by
  unfold State.strand
  dsimp only
  split
  · exact touches_modOrder.trans touches_cateringFailure
  · exact touches_modOrder

theorem touches_exitOrder {h : Handle} {k : ExitKind} : Touches j d s (s.exitOrder h k) := by
  unfold State.exitOrder
  split
  · exact .refl s
  · split
    case h_1 | h_2 | h_3 => exact touches_voidOrder
    case h_4 =>
      split
      · exact .refl s
      · exact touches_strand
    case h_5 => exact touches_strand
    all_goals exact .refl s

theorem touches_seriesRelease {id : Nat} : Touches j d s (s.seriesRelease id) := by
  unfold State.seriesRelease
  split
  · exact .refl s
  · dsimp only
    split <;> exact touches_of_eq rfl (fun _ => rfl) rfl

theorem touches_commits (m : Nat) (s : State) : Touches j d s (s.commits m) := by
  have hhead (h : Handle) (t : State) : Touches j d t (t.commitHead h) := by
    unfold State.commitHead
    split
    · exact touches_modOrder.trans (touches_of_eq rfl (fun _ => rfl) rfl)
    · exact touches_voidOrder.trans touches_cateringFailure
    · exact touches_of_eq rfl (fun _ => rfl) rfl
  have hdue (n : Nat) (t : State) : Touches j d t (t.commitDue m n) := by
    induction n generalizing t with
    | zero => exact .refl t
    | succ n ih =>
      unfold State.commitDue
      split
      · exact .refl t
      · split
        · exact (hhead _ t).trans (ih _)
        · exact .refl t
  exact hdue _ s

theorem touches_setService {r : Nat} {st : ServiceState} {c : Option Closure} : Touches j d s (s.setService r st c) := by
  unfold State.setService
  refine Touches.trans ?_ touches_reportRoom
  exact touches_modRoom fun _ => rfl

theorem touches_closureTimes (m : Nat) (s : State) : Touches j d s (s.closureTimes m) := by
  have htime (r : Nat) (t : State) : Touches j d t (t.closureTime m r) := by
    unfold State.closureTime
    dsimp only
    split
    · split
      · exact .refl t
      · split
        · exact touches_setService
        · split
          · exact touches_setService
          · exact .refl t
    · exact .refl t
  have hresume (t : State) : Touches j d t t.resumeSweep := by
    unfold State.resumeSweep
    split
    · exact .refl t
    · split
      · exact .refl t
      · exact touches_setService.trans (touches_of_eq rfl (fun _ => rfl) rfl)
  exact (touches_overAll htime s).trans (hresume _)

end Sys2Proof.Machine
end

section
/-! SUPPORT. The operations that move a booking: leaving the active states (R36), expiries (R93, R96), starts and ends (R48 to
R50) and window openings (R88, R89), each with the booking and the channel it touches and what it makes of the booking. -/

namespace Sys2Proof.Machine

variable {s t : State} {j c m : Nat} {d : Option Nat} {b : Booking} {h : Handle} {k : ExitKind}

/-! ### Leaving the active states -/

theorem returnChannel_of_none (hb : s.bookingAt j = some b) (ht : b.timer = none) : s.returnChannel j = s := by
  simp [State.returnChannel, hb, ht]

/-- The channel goes back, and the booking names none (R36 step 2). -/
theorem bookingAt_returnChannel (hb : s.bookingAt j = some b) :
    (s.returnChannel j).bookingAt j = some { b with timer := none } := by
  cases ht : b.timer with
  | none =>
    rw [returnChannel_of_none hb ht, hb]
    simp [← ht]
  | some c =>
    have hfree : (s.freeChannel c).bookingAt j = some b := hb
    simp only [State.returnChannel, hb, ht]
    split
    · change ((s.freeChannel c).modBooking j _).bookingAt j = _
      rw [State.bookingAt_modBooking_same, hfree]; rfl
    · rw [State.bookingAt_modBooking_same, hfree]; rfl

theorem turned_timerNone (b : Booking) : Turned d b { b with timer := none } :=
  ⟨rfl, id, rfl, rfl, fun _ => rfl, fun _ h => nomatch h⟩

theorem touches_dropTimer : Touches j (some c) s ((s.freeChannel c).modBooking j fun b => { b with timer := none }) :=
  touches_freeChannel.trans (touches_modBooking fun b _ => turned_timerNone b)

theorem touches_returnChannel (hb : s.bookingAt j = some b) : Touches j b.timer s (s.returnChannel j) := by
  cases ht : b.timer with
  | none => rw [returnChannel_of_none hb ht]; exact .refl s
  | some c =>
    simp only [State.returnChannel, hb, ht]
    split
    · refine touches_dropTimer.trans ?_
      exact touches_modRoom (q := b.room) fun _ => rfl
    · exact touches_dropTimer

/-- Where a booking's exit leads: entry `j`, which held `b`, holds `x` but for its order and mark, no longer active and with
no channel. -/
structure Exits (j : Nat) (b x : Booking) (s t : State) : Prop where
  touches : Touches j b.timer s t
  own : Option.Rel Kept (some x) (t.bookingAt j)
  inactive : x.state.active = false
  timer : x.timer = none

/-- Leaving the active states, once the new state is written (R36). -/
theorem exits_leaveActive (hb : s.bookingAt j = some b) (hj : b.handle.idx = j) (ha : b.state.active = false) :
    Exits j b { b with timer := none } s (s.leaveActive j k) := by
  have hoff : (s.takeOffTimeline b.room b.handle).bookingAt j = some b := hb
  have hto : Touches j b.timer s ((s.takeOffTimeline b.room b.handle).returnChannel j) :=
    (touches_takeOffTimeline hj (by simpa [hb] using ha)).trans (touches_returnChannel hoff)
  have hrest (i : Nat) (e : Option Nat) :
      Touches i e ((s.takeOffTimeline b.room b.handle).returnChannel j) (s.leaveActive j k) := by
    simp only [State.leaveActive, hb]
    split
    · split
      · exact touches_exitOrder.trans touches_seriesRelease
      · exact touches_exitOrder
    · exact touches_exitOrder
  refine ⟨hto.trans (hrest j _), ?_, ha, rfl⟩
  rw [← bookingAt_returnChannel hoff]
  exact (hrest (j + 1) none).others j (by omega)

/-- An exit that follows a change of the booking and its mark. -/
theorem Exits.after {x y : Booking} {u : State} (h : Exits j x y u t) (hu : Touches j b.timer s u) (hx : x.timer = b.timer) :
    Exits j b y s t := ⟨hu.trans (hx ▸ h.touches), h.own, h.inactive, h.timer⟩

/-- A booking that leaves the active states keeps its handle, its room, its start and its channel for the exit to return. -/
theorem turned_of_inactive {x : Booking} (hh : x.handle = b.handle) (hr : x.room = b.room) (hs : x.startMin = b.startMin)
    (ht : x.timer = b.timer) (ha : x.state.active = false) : Turned d b x :=
  ⟨hh, by simp [ha], hr, hs, by simp [ha], fun c hc => .inr (ht ▸ hc)⟩

/-- A booking is changed, marked, and leaves the active states (R52, R36). -/
theorem exits_marked {f : Booking → Booking} (hb : s.bookingAt j = some b) (hj : b.handle.idx = j) (hh : (f b).handle = b.handle)
    (hr : (f b).room = b.room) (hs : (f b).startMin = b.startMin) (ht : (f b).timer = b.timer)
    (ha : (f b).state.active = false) :
    Exits j b { f b with mark := true, timer := none } s (((s.modBooking j f).markBooking j).leaveActive j k) := by
  have hat : ((s.modBooking j f).markBooking j).bookingAt j = some { f b with mark := true } := by
    change ((s.modBooking j f).modBooking j _).bookingAt j = _
    simp [hb]
  have hmod : Touches j b.timer s (s.modBooking j f) := touches_modBooking fun b' hb' => by
    obtain rfl : b = b' := by simpa [hb] using hb'
    exact turned_of_inactive hh hr hs ht ha
  exact (exits_leaveActive hat ((congrArg Handle.idx hh).trans hj) ha).after (hmod.trans touches_markBooking) ht

/-- The release of a booking (R51, R52, R93). -/
theorem exits_release (hb : s.bookingAt j = some b) (hj : b.handle.idx = j) :
    Exits j b { b with state := .released, attendance := .noShow, mark := true, timer := none } s (s.release j) :=
  exits_marked (f := fun x => { x with state := .released, attendance := .noShow }) hb hj rfl rfl rfl rfl rfl

/-- The end of a booking (R49, R50). -/
theorem exits_endBooking (hb : s.bookingAt j = some b) (hj : b.handle.idx = j) (f : Attendance → Attendance) :
    Exits j b { b with state := .ended, attendance := f b.attendance, timer := none } s (s.endBooking j f) := by
  let x : Booking := { b with state := .ended, attendance := f b.attendance }
  refine (exits_leaveActive (b := x) (by simp [hb, x]) hj rfl).after (touches_modBooking fun b' hb' => ?_) rfl
  obtain rfl : b = b' := by simpa [hb] using hb'
  exact turned_of_inactive rfl rfl rfl rfl rfl

/-- An early end (R51, R96). -/
theorem exits_endEarly (hb : s.bookingAt j = some b) (hj : b.handle.idx = j) (now : Nat) :
    Exits j b { b with state := .endedEarly, endMin := max now b.startMin, mark := true, timer := none } s
      (s.endEarly j now) :=
  exits_marked (f := fun x => { x with state := .endedEarly, endMin := max now x.startMin }) hb hj rfl rfl rfl rfl rfl

/-! ### Expiries -/

theorem touches_dropChannel : Touches b.handle.idx (some c) s (s.dropChannel b c) :=
  touches_freeChannel.trans (touches_modBooking fun b _ => turned_timerNone b)

theorem bookingAt_of_find (hf : s.find h = some b) :
    s.bookingAt h.idx = some b ∧ (s.dir.entries.getD h.idx ⟨0, none⟩).generation = h.gen := by
  unfold State.find at hf
  split at hf
  · rename_i b' hl
    obtain rfl : b' = b := by simpa using hf
    exact (State.bookingAt_of_lookup hl).2
  · cases hf

/-- What an expiry can do: nothing to a channel that is not expired; to one that is, the release or the early end of the
booking it finds, or the freeing of the channel (R93, R96, R86). -/
theorem expireIfDue_cases (s : State) (c : Nat) :
    ((s.channel c).expired = false ∧ s.expireIfDue c = s) ∨
    (s.channel c).expired = true ∧
      ((∃ h b, (s.channel c).booking = some h ∧ s.find h = some b ∧
        (((s.channel c).mode = .window ∧ b.state = .awaiting ∧ s.expireIfDue c = s.release b.handle.idx) ∨
          ((s.channel c).mode = .watch ∧ b.state = .inUse ∧ s.expireIfDue c = s.endEarly b.handle.idx s.clock.minute) ∨
          (¬ ((s.channel c).mode = .window ∧ b.state = .awaiting) ∧ ¬ ((s.channel c).mode = .watch ∧ b.state = .inUse) ∧
            s.expireIfDue c = s.dropChannel b c))) ∨
        ((s.channel c).booking.bind s.find = none ∧ s.expireIfDue c = s.freeChannel c)) := by
  cases he : (s.channel c).expired with
  | false => exact .inl ⟨rfl, by simp [State.expireIfDue, he]⟩
  | true =>
    refine .inr ⟨rfl, ?_⟩
    cases hf : (s.channel c).booking.bind s.find with
    | none =>
      refine .inr ⟨rfl, ?_⟩
      cases hm : (s.channel c).mode with
      | window => simp [State.expireIfDue, he, hm, State.expireWindow, hf]
      | watch => simp [State.expireIfDue, he, hm, State.expireWatch, hf]
    | some b =>
      obtain ⟨h, hh, hb⟩ := Option.bind_eq_some_iff.mp hf
      refine .inl ⟨h, b, hh, hb, ?_⟩
      cases hm : (s.channel c).mode with
      | window => by_cases ha : b.state = .awaiting <;> simp [State.expireIfDue, he, hm, State.expireWindow, hf, ha]
      | watch => by_cases ha : b.state = .inUse <;> simp [State.expireIfDue, he, hm, State.expireWatch, hf, ha]

/-! ### Starts and ends -/

/-- A booking whose start has come, and whose opening minute this is not, is started (R48). -/
theorem startOne_cases (s : State) (m : Nat) (h : Handle) :
    (s.startOne m h = s ∧ ∀ b, s.bookingAt h.idx = some b → b.state = .booked → b.startMin ≤ m →
      b.checkin = .required ∧ m ≤ b.startMin) ∨
    ∃ b f r, s.bookingAt h.idx = some b ∧ b.state = .booked ∧ b.startMin ≤ m ∧
      s.startOne m h = (s.modBooking h.idx f).reportRoom r ∧ ∀ x, (f x).state = .inUse ∧ (f x).handle = x.handle ∧
        (f x).room = x.room ∧ (f x).startMin = x.startMin ∧ (f x).endMin = x.endMin ∧ (f x).timer = x.timer := by
  cases hb : s.bookingAt h.idx with
  | none => exact .inl ⟨by simp [State.startOne, hb], by simp⟩
  | some b =>
    by_cases hdue : b.state = .booked ∧ b.startMin ≤ m
    · obtain ⟨hs, hm⟩ := hdue
      cases hc : b.checkin with
      | exempt =>
        exact .inr ⟨b, fun x => { x with state := .inUse }, b.room, rfl, hs, hm, by simp [State.startOne, hb, hs, hm, hc],
          fun x => ⟨rfl, rfl, rfl, rfl, rfl, rfl⟩⟩
      | required =>
        by_cases ho : s.panelAvailable b.room ∧ b.startMin = m + (s.room b.room).earlyOpen
        · refine .inl ⟨by simp only [State.startOne, hb, hs, hm, hc, and_self, if_true, if_pos ho], fun b' hb' _ _ => ?_⟩
          obtain rfl : b = b' := by simpa using hb'
          exact ⟨hc, by omega⟩
        · exact .inr ⟨b, fun x => { x with state := .inUse, checkin := .exempt, attendance := .unknown }, b.room, rfl, hs, hm,
            by simp only [State.startOne, hb, hs, hm, hc, and_self, if_true, if_neg ho],
            fun x => ⟨rfl, rfl, rfl, rfl, rfl, rfl⟩⟩
    · refine .inl ⟨by simp only [State.startOne, hb, if_neg hdue], fun b' hb' hs hm => ?_⟩
      obtain rfl : b = b' := by simpa using hb'
      exact absurd ⟨hs, hm⟩ hdue

theorem touches_startOne (s : State) (m : Nat) (h : Handle) : Touches h.idx none s (s.startOne m h) := by
  rcases startOne_cases s m h with ⟨he, -⟩ | ⟨b, f, r, hb, hs, -, he, hf⟩
  · rw [he]; exact .refl s
  · rw [he]
    refine Touches.trans (touches_modBooking fun b' hb' => ?_) touches_reportRoom
    obtain rfl : b = b' := by simpa [hb] using hb'
    obtain ⟨-, hh, hr, hst, hen, ht⟩ := hf b
    exact ⟨hh, fun _ => by simp [hs, BookingState.active], hr, hst, fun _ => hen, fun c hc => .inr (ht ▸ hc)⟩

/-- A booking AWAITING or IN_USE whose end has come leaves the active states (R49, R50). -/
theorem endOne_cases (s : State) (m : Nat) (h : Handle) (hidx : ∀ b, s.bookingAt h.idx = some b → b.handle.idx = h.idx) :
    (s.endOne m h = s ∧ ∀ b, s.bookingAt h.idx = some b → b.state = .awaiting ∨ b.state = .inUse → m < b.endMin) ∨
    ∃ b x, s.bookingAt h.idx = some b ∧ b.endMin ≤ m ∧ Exits h.idx b x s (s.endOne m h) ∧
      ((b.state = .inUse ∧ x.state = .ended) ∨ (b.state = .awaiting ∧
        ((∃ c, b.timer = some c ∧ (s.channel c).state = .running) →
          x.state = .released ∧ x.attendance = .noShow ∧ x.mark = true))) := by
  cases hb : s.bookingAt h.idx with
  | none => exact .inl ⟨by simp [State.endOne, hb], by simp⟩
  | some b =>
    have hj := hidx b hb
    by_cases hdue : b.endMin ≤ m
    · cases hs : b.state with
      | inUse =>
        have he : s.endOne m h = s.endBooking h.idx id := by simp [State.endOne, hb, hdue, hs]
        exact .inr ⟨b, _, rfl, hdue, he ▸ exits_endBooking hb hj id, .inl ⟨hs, rfl⟩⟩
      | awaiting =>
        by_cases hr : ∃ c, b.timer = some c ∧ (s.channel c).state = .running
        · obtain ⟨c, hc, hrun⟩ := hr
          have he : s.endOne m h = s.release h.idx := by simp [State.endOne, hb, hdue, hs, hc, hrun]
          exact .inr ⟨b, _, rfl, hdue, he ▸ exits_release hb hj, .inr ⟨hs, fun _ => ⟨rfl, rfl, rfl⟩⟩⟩
        · have he : s.endOne m h = s.endBooking h.idx fun _ => .unknown := by
            have hno : b.timer.map (fun c => (s.channel c).state) ≠ some .running := by
              intro hc
              obtain ⟨c, hc, hrun⟩ := Option.map_eq_some_iff.mp hc
              exact hr ⟨c, hc, hrun⟩
            simp only [State.endOne, hb, if_pos hdue, hs]
          exact .inr ⟨b, _, rfl, hdue, he ▸ exits_endBooking hb hj _, .inr ⟨hs, fun hr' => absurd hr' hr⟩⟩
      | _ =>
        refine .inl ⟨by simp [State.endOne, hb, hs], fun b' hb' ha => ?_⟩
        obtain rfl : b = b' := by simpa using hb'
        simp [hs] at ha
    · refine .inl ⟨by simp [State.endOne, hb, hdue], fun b' hb' _ => ?_⟩
      obtain rfl : b = b' := by simpa using hb'
      omega

/-! ### Window openings -/

/-- The lowest FREE channel is FREE (R86). -/
theorem free_of_lowestFree (h : s.lowestFree = some c) : (s.channel c).state = .free := by
  obtain ⟨hc, hfree, -⟩ := List.findIdx?_eq_some_iff_getElem.mp h
  simpa [State.channel, List.getD_eq_getElem?_getD, hc] using hfree

/-- What a window opening makes of its booking: it awaits its check-in; or, where no channel is FREE, it is EXEMPT, and in
use when its start has come (R89). -/
def OpenedAt (now : Nat) (x : Booking) : Prop :=
  x.state = .awaiting ∨ (x.state = .inUse ∧ x.startMin ≤ now) ∨ (x.state = .booked ∧ now < x.startMin)

/-- The start as EXEMPT of a BOOKED booking (R51, R89). -/
theorem startExempt_touches (hb : s.bookingAt b.handle.idx = some b) (hs : b.state = .booked) :
    Touches b.handle.idx d s (s.startExempt b) ∧
      ∃ x, (s.startExempt b).bookingAt b.handle.idx = some x ∧ OpenedAt s.clock.minute x := by
  have hact : b.state.active = true := by simp [hs, BookingState.active]
  unfold State.startExempt
  by_cases hm : b.startMin ≤ s.clock.minute
  · rw [if_pos hm]
    refine ⟨Touches.trans (touches_modBooking fun b' hb' => ?_) touches_reportRoom,
      { b with state := .inUse, checkin := .exempt, attendance := .none_ }, ?_, .inr (.inl ⟨rfl, hm⟩)⟩
    · obtain rfl : b = b' := by simpa [hb] using hb'
      exact ⟨rfl, fun _ => hact, rfl, rfl, fun _ => rfl, fun _ => .inr⟩
    · change (s.modBooking _ _).bookingAt _ = _
      simp [hb]
  · rw [if_neg hm]
    refine ⟨touches_modBooking fun b' hb' => ⟨rfl, id, rfl, rfl, fun _ => rfl, fun _ => .inr⟩,
      { b with checkin := .exempt }, by simp [hb], .inr (.inr ⟨hs, Nat.lt_of_not_le hm⟩)⟩

/-- A window opening touches its booking, and a channel that was FREE (R89). -/
theorem openWindow_touches (hb : s.bookingAt j = some b) (hj : b.handle.idx = j) (hs : b.state = .booked) :
    ∃ d, Touches j d s (s.openWindow j) ∧ (∀ c, d = some c → (s.channel c).state = .free) ∧
      ∃ x, (s.openWindow j).bookingAt j = some x ∧ OpenedAt s.clock.minute x := by
  subst hj
  cases hl : s.lowestFree with
  | none =>
    let u : State := { s with bank := { s.bank with timerCount := saturate s.bank.timerCount } }
    have ho : s.openWindow b.handle.idx = u.startExempt b := by simp [State.openWindow, hb, hs, hl, u]
    obtain ⟨ht, hx⟩ := startExempt_touches (s := u) (d := none) hb hs
    have hu : Touches b.handle.idx none s u := touches_of_eq rfl (fun _ => rfl) rfl
    exact ⟨none, ho ▸ hu.trans ht, by simp, ho ▸ hx⟩
  | some c =>
    let opened : Channel :=
      ⟨.running, .window, some b.handle, s.secondsTo (windowDeadline b (s.room b.room).grace s.clock.minute)⟩
    let u := s.modChannel c fun _ => opened
    have ho : s.openWindow b.handle.idx =
        (u.modBooking b.handle.idx fun x => { x with state := .awaiting, timer := some c }).reportRoom b.room := by
      simp [State.openWindow, hb, hs, hl, u, opened]
    have hu : Touches b.handle.idx (some c) s u := touches_modChannel fun _ => .inr ⟨b.handle, rfl, rfl⟩
    have hub : u.bookingAt b.handle.idx = some b := hb
    rw [ho]
    refine ⟨some c, (hu.trans (touches_modBooking fun b' hb' => ?_)).trans touches_reportRoom, fun e he => ?_,
      { b with state := .awaiting, timer := some c }, ?_, .inl rfl⟩
    · obtain rfl : b = b' := by simpa [hub] using hb'
      exact ⟨rfl, fun _ => by simp [hs, BookingState.active], rfl, rfl, fun _ => rfl, fun _ h => .inl h⟩
    · obtain rfl : c = e := by simpa using he
      exact free_of_lowestFree hl
    · change (u.modBooking _ _).bookingAt _ = _
      rw [State.bookingAt_modBooking_same, hub]
      rfl

/-- What the window openings of a minute can do to one booking of a timeline (R88). -/
theorem openDue_cases (s : State) (m r : Nat) (h : Handle) (hidx : ∀ b, s.bookingAt h.idx = some b → b.handle.idx = h.idx) :
    s.openDue m r h = s ∨ ∃ b, s.bookingAt h.idx = some b ∧ b.state = .booked ∧ m ≤ b.startMin ∧
      ∃ d, Touches h.idx d s (s.openDue m r h) ∧ (∀ c, d = some c → (s.channel c).state = .free) ∧
        ∃ x, (s.openDue m r h).bookingAt h.idx = some x ∧ OpenedAt s.clock.minute x := by
  cases hb : s.bookingAt h.idx with
  | none => exact .inl (by simp [State.openDue, hb])
  | some b =>
    by_cases hdue : b.state = .booked ∧ b.checkin = .required ∧ b.startMin = m + (s.room r).earlyOpen
    · have ho : s.openDue m r h = s.openWindow h.idx := by simp only [State.openDue, hb, if_pos hdue]
      rw [ho]
      exact .inr ⟨b, rfl, hdue.1, by omega, openWindow_touches hb (hidx b hb) hdue.1⟩
    · exact .inl (by simp only [State.openDue, hb, if_neg hdue])

end Sys2Proof.Machine
end

section
/-! SUPPORT. The bookings on the timelines through the minutes of a trim: each active booking stands on its room's timeline
(R34), and none is left overdue when a minute's events have been taken (R48 to R50, R88). -/

namespace Sys2Proof.Machine

variable {s t : State} {i j c m : Nat} {d : Option Nat} {b x : Booking} {h : Handle}

/-! ### Folds of operations -/

theorem foldl_invariant {β : Type} {P : State → Prop} {f : State → β → State} (h : ∀ t x, P t → P (f t x)) (l : List β)
    (hs : P s) : P (l.foldl f s) := by
  induction l generalizing s with
  | nil => exact hs
  | cons x l ih => exact ih (h s x hs)

/-- What the step of one element brings about, and the others keep, holds after the fold. -/
theorem foldl_reaches {β : Type} {P Q : State → Prop} {f : State → β → State} {y : β} (hP : ∀ t x, P t → P (f t x))
    (hy : ∀ t, P t → Q (f t y)) (hQ : ∀ t x, P t → Q t → Q (f t x)) {l : List β} (hl : y ∈ l) (hs : P s) :
    Q (l.foldl f s) := by
  induction l generalizing s with
  | nil => cases hl
  | cons x l ih =>
    rcases List.mem_cons.mp hl with rfl | hl
    · exact (foldl_invariant (P := fun t => P t ∧ Q t) (fun t x ht => ⟨hP t x ht.1, hQ t x ht.1 ht.2⟩) l
        ⟨hP s _ hs, hy s hs⟩).2
    · exact ih hl (hP s x hs)

theorem overAll_reaches {P Q : State → Prop} {n : Nat} {f : Nat → State → State} (hP : ∀ i t, P t → P (f i t)) {y : Nat}
    (hn : y < n) (hy : ∀ t, P t → Q (f y t)) (hQ : ∀ i t, P t → Q t → Q (f i t)) (hs : P s) : Q (overAll n f s) :=
  foldl_reaches (f := fun s i => f i s) (fun t i => hP i t) hy (fun t i => hQ i t)
    (mem_upFrom.mpr ⟨Nat.zero_le _, by omega⟩) hs

/-! ### Active bookings stand on their timelines -/

/-- Every booking's handle names its entry, and every active booking stands on its room's timeline and ends after its start
(R24, R34). -/
structure Placed (s : State) : Prop where
  idx : ∀ i b, s.bookingAt i = some b → b.handle.idx = i
  stands : ∀ i b, s.bookingAt i = some b → b.state.active = true → b.handle ∈ (s.room b.room).timeline
  span : ∀ i b, s.bookingAt i = some b → b.state.active = true → b.startMin < b.endMin
  rooms : ∀ r h, h ∈ (s.room r).timeline → r < Config.rooms

theorem State.Sound.placed (h : s.Sound) : Placed s where
  idx i b hb := by rw [h.handles i b hb]
  stands i b hb ha := by
    have hi : b.handle.idx = i := by rw [h.handles i b hb]
    exact ((h.timelines b.room).2.2 b.handle).mpr ⟨b, by rw [hi]; exact hb, rfl, rfl, ha⟩
  span i b hb ha := h.spans i b hb (.inl ha)
  rooms r k hk := by
    have hlen : s.rooms.length = Config.rooms := by
      have hsh := h.shaped
      simp only [State.shaped, Bool.and_eq_true, decide_eq_true_eq] at hsh
      tauto
    by_contra hr
    simp [State.room, List.getD_eq_getElem?_getD, hlen, hr, Room.absent] at hk

/-- An entry before an operation, from the entry after it. -/
theorem rel_of_some {R : Booking → Booking → Prop} {p q : Option Booking} (h : Option.Rel R p q) (hq : q = some x) :
    ∃ b, p = some b ∧ R b x := by
  subst hq
  cases h with | some h => exact ⟨_, rfl, h⟩

/-- An entry after an operation, from the entry before it. -/
theorem some_of_rel {R : Booking → Booking → Prop} {p q : Option Booking} (h : Option.Rel R p q) (hp : p = some b) :
    ∃ x, q = some x ∧ R b x := by
  subst hp
  cases h with | some h => exact ⟨_, rfl, h⟩

/-- Every entry after an operation was the entry before it, turned. -/
theorem Touches.turned (h : Touches j d s t) (hx : t.bookingAt i = some x) :
    ∃ b, s.bookingAt i = some b ∧ Turned d b x := by
  by_cases hi : i = j
  · subst hi; exact rel_of_some h.own hx
  · obtain ⟨b, hb, hk⟩ := rel_of_some (h.others i hi) hx
    exact ⟨b, hb, hk.turned⟩

theorem Placed.touches (hs : Placed s) (h : Touches j d s t) : Placed t where
  idx i x hx := by
    obtain ⟨b, hb, hbx⟩ := h.turned hx
    rw [hbx.handle]
    exact hs.idx i b hb
  stands i x hx ha := by
    obtain ⟨b, hb, hbx⟩ := h.turned hx
    have hidx := hs.idx i b hb
    rw [hbx.room, hbx.handle]
    refine h.stays _ _ (hs.stands i b hb (hbx.active ha)) fun hj => ?_
    obtain rfl : i = j := hidx.symm.trans hj
    exact ⟨x, hx, ha⟩
  span i x hx ha := by
    obtain ⟨b, hb, hbx⟩ := h.turned hx
    rw [hbx.startMin, hbx.endMin ha]
    exact hs.span i b hb (hbx.active ha)
  rooms r k hk := hs.rooms r k (h.shrinks r k hk)

theorem Placed.of_eq (hs : Placed s) (hd : t.dir = s.dir) (hr : t.rooms = s.rooms) : Placed t where
  idx i b hb := hs.idx i b (by rwa [State.bookingAt_congr hd] at hb)
  stands i b hb ha := by
    rw [State.bookingAt_congr hd] at hb
    rw [State.room, hr]
    exact hs.stands i b hb ha
  span i b hb ha := hs.span i b (by rwa [State.bookingAt_congr hd] at hb) ha
  rooms r k hk := hs.rooms r k (by rwa [State.room, hr] at hk)

theorem Placed.expireIfDue (hs : Placed s) (c : Nat) : Placed (s.expireIfDue c) := by
  rcases expireIfDue_cases s c with ⟨-, he⟩ | ⟨-, ⟨h, b, -, hf, ho⟩ | ⟨-, he⟩⟩
  · rwa [he]
  · have hb := (bookingAt_of_find hf).1
    have hj := hs.idx _ b hb
    rcases ho with ⟨-, -, he⟩ | ⟨-, -, he⟩ | ⟨-, -, he⟩
    · rw [he, hj]; exact hs.touches (exits_release hb hj).touches
    · rw [he, hj]; exact hs.touches (exits_endEarly hb hj _).touches
    · rw [he]; exact hs.touches touches_dropChannel
  · rw [he]; exact hs.touches (j := 0) touches_freeChannel

theorem Placed.expireAll (hs : Placed s) : Placed s.expireAll := overAll_invariant (fun c _ ht => ht.expireIfDue c) hs

theorem Placed.startOne (hs : Placed s) (m : Nat) (h : Handle) : Placed (s.startOne m h) :=
  hs.touches (touches_startOne s m h)

theorem Placed.endOne (hs : Placed s) (m : Nat) (h : Handle) : Placed (s.endOne m h) := by
  rcases endOne_cases s m h (hs.idx h.idx) with ⟨he, -⟩ | ⟨b, x, -, -, he, -⟩
  · rwa [he]
  · exact hs.touches he.touches

theorem Placed.startsAndEndsIn (hs : Placed s) (m r : Nat) : Placed (s.startsAndEndsIn m r) :=
  foldl_invariant (fun _ h ht => ht.endOne m h) _ (foldl_invariant (fun _ h ht => ht.startOne m h) _ hs)

theorem Placed.startsAndEnds (hs : Placed s) (m : Nat) : Placed (s.startsAndEnds m) :=
  overAll_invariant (fun r _ ht => ht.startsAndEndsIn m r) hs

theorem Placed.openDue (hs : Placed s) (m r : Nat) (h : Handle) : Placed (s.openDue m r h) := by
  rcases openDue_cases s m r h (hs.idx h.idx) with he | ⟨b, -, -, -, d, ht, -⟩
  · rwa [he]
  · exact hs.touches ht

/-- What each of a minute's window openings keeps, they keep together (R88). -/
theorem windowOpenings_invariant {P : State → Prop} (hP : ∀ r h t, P t → P (t.openDue m r h)) (hs : P s) :
    P (s.windowOpenings m) := by
  refine overAll_invariant (fun r t ht => ?_) hs
  split
  · exact foldl_invariant (fun u h hu => hP r h u hu) _ ht
  · exact ht

/-- What every step of taking what is owed keeps (log 9). -/
theorem takeOwed_invariant {P : State → Prop} (hclear : P { s with owed := s.owed.daysOnly })
    (hrelist : ∀ t before, P t → P (t.relist before)) (hsecond : ∀ t, P t → P t.bankSecond)
    (hstarts : ∀ m ∈ s.owed.starts, ∀ t, P t → P (t.startsAndEnds m))
    (hopenings : ∀ m ∈ s.owed.openings, ∀ t, P t → P (t.windowOpenings m))
    (hcommits : ∀ t m, P t → P (t.commits m)) (hclosures : ∀ t m, P t → P (t.closureTimes m)) : P s.takeOwed := by
  have seconds (n : Nat) (t : State) (ht : P t) : P (State.takeSeconds n t) := by
    induction n generalizing t with
    | zero => exact ht
    | succ n ih => exact ih _ (hrelist _ _ (hsecond t ht))
  have fold {f : State → Nat → State} (l : List Nat) (hf : ∀ m ∈ l, ∀ t, P t → P (f t m)) (t : State) (ht : P t) :
      P (l.foldl (fun t m => t.stepped fun u => f u m) t) := by
    induction l generalizing t with
    | nil => exact ht
    | cons m l ih =>
      exact ih (fun k hk => hf k (List.mem_cons_of_mem m hk)) _ (hrelist _ _ (hf m List.mem_cons_self t ht))
  exact fold _ (fun m _ t => hclosures t m) _ (fold _ (fun m _ t => hcommits t m) _ (fold _ hopenings _ (fold _ hstarts _
    (seconds _ _ hclear))))

theorem Placed.countDown (hs : Placed s) (n : Nat) : Placed (s.countDown n) := hs.of_eq rfl rfl

theorem Placed.relist (hs : Placed s) (before : State) : Placed (s.relist before) :=
  hs.touches (j := 0) (d := none) (touches_relist before)

theorem Placed.takeOwed (hs : Placed s) : Placed s.takeOwed :=
  takeOwed_invariant (hs.of_eq rfl rfl) (fun _ before ht => ht.relist before) (fun _ ht => (ht.countDown 1).expireAll)
    (fun m _ _ ht => ht.startsAndEnds m) (fun m _ _ ht => windowOpenings_invariant (fun r h _ hu => hu.openDue m r h) ht)
    (fun t m ht => ht.touches (j := 0) (d := none) (touches_commits m t))
    (fun t m ht => ht.touches (j := 0) (d := none) (touches_closureTimes m t))

theorem nextMinute_keeps (s : State) : s.nextMinute = { s with clock := s.nextMinute.clock, owed := s.nextMinute.owed } := by
  unfold State.nextMinute
  split
  · rfl
  · dsimp only; split <;> rfl

theorem Placed.nextMinute (hs : Placed s) : Placed s.nextMinute := by
  rw [nextMinute_keeps]
  exact hs.of_eq rfl rfl

theorem Placed.trimMinute (hs : Placed s) : Placed s.trimMinute := (hs.nextMinute.countDown 60).expireAll

theorem Placed.trimForwardStep (hs : Placed s) : Placed s.trimForwardStep := (hs.trimMinute.relist s).takeOwed

theorem Placed.trimForward (hs : Placed s) (n : Nat) : Placed (State.trimForward n s) := by
  induction n generalizing s with
  | zero => exact hs
  | succ n ih => exact ih hs.trimForwardStep

/-! ### No booking is left overdue -/

/-- No BOOKED booking has a start that has gone by, nor an EXEMPT one a start that has come (R48). -/
def StartedBy (m : Nat) (b : Booking) : Prop := b.state = .booked → m ≤ b.startMin ∧ (b.checkin = .exempt → m < b.startMin)

/-- A booking's start and end at a minute have been taken (R48 to R50). -/
def Timely (m : Nat) (b : Booking) : Prop := StartedBy m b ∧ (b.state = .inUse ∨ b.state = .awaiting → m < b.endMin)

/-- The booking of an entry satisfies `R`, where there is one. -/
def State.At (s : State) (i : Nat) (R : Booking → Prop) : Prop := ∀ b, s.bookingAt i = some b → R b

theorem timely_of_inactive (ha : b.state.active = false) : Timely m b := by
  refine ⟨fun hs => ?_, fun hs => ?_⟩
  · rw [hs] at ha
    cases ha
  · rcases hs with hs | hs <;> rw [hs] at ha <;> cases ha

theorem timely_of_started (hs : b.state ≠ .booked) (hm : m < b.endMin) : Timely m b := ⟨fun hb => absurd hb hs, fun _ => hm⟩

theorem Kept.startedBy (h : Kept b x) (hb : StartedBy m b) : StartedBy m x := by
  obtain ⟨_, _, -, rfl⟩ := h
  exact hb

theorem Kept.timely (h : Kept b x) (hb : Timely m b) : Timely m x := by
  obtain ⟨_, _, -, rfl⟩ := h
  exact hb

/-- What is said of a booking that an operation does not touch stays true of it. -/
theorem at_other {R : Booking → Prop} (hR : ∀ {b x}, Kept b x → R b → R x) (h : Touches j d s t) (hi : i ≠ j)
    (hs : s.At i R) : t.At i R := by
  intro x hx
  obtain ⟨b, hb, hk⟩ := rel_of_some (h.others i hi) hx
  exact hR hk (hs b hb)

/-- An operation that touches no booking keeps what is said of each. -/
theorem at_of_touches_all {R : Booking → Prop} (hR : ∀ {b x}, Kept b x → R b → R x) (h : ∀ j, Touches j none s t)
    (hs : s.At i R) : t.At i R := at_other hR (h (i + 1)) (by omega) hs

theorem startOne_startedBy (s : State) (m : Nat) (h : Handle) : (s.startOne m h).At h.idx (StartedBy m) := by
  intro x hx hs
  rcases startOne_cases s m h with ⟨he, hno⟩ | ⟨b, f, r, hb, -, -, he, hf⟩
  · rw [he] at hx
    by_cases hm : x.startMin ≤ m
    · obtain ⟨hc, hle⟩ := hno x hx hs hm
      exact ⟨hle, fun hc' => by rw [hc] at hc'; cases hc'⟩
    · exact ⟨by omega, fun _ => by omega⟩
  · rw [he] at hx
    change (s.modBooking h.idx f).bookingAt h.idx = some x at hx
    obtain rfl : f b = x := by simpa [hb] using hx
    rw [(hf b).1] at hs
    cases hs

theorem startOne_keeps_startedBy (h : Handle) (hs : s.At i (StartedBy m)) : (s.startOne m h).At i (StartedBy m) := by
  by_cases hi : i = h.idx
  · rw [hi]; exact startOne_startedBy s m h
  · exact at_other Kept.startedBy (touches_startOne s m h) hi hs

/-- A booking whose minute has been taken and that is started now starts now, and ends later. -/
theorem startOne_keeps_timely (hp : Placed s) (h : Handle) (hs : s.At i (Timely m)) : (s.startOne m h).At i (Timely m) := by
  by_cases hi : i = h.idx
  · subst hi
    intro x hx
    rcases startOne_cases s m h with ⟨he, -⟩ | ⟨b, f, r, hb, hst, hm, he, hf⟩
    · rw [he] at hx; exact hs x hx
    · rw [he] at hx
      change (s.modBooking h.idx f).bookingAt h.idx = some x at hx
      obtain rfl : f b = x := by simpa [hb] using hx
      obtain ⟨hin, -, -, -, hend, -⟩ := hf b
      have hle := ((hs b hb).1 hst).1
      have hspan := hp.span _ b hb (by simp [hst, BookingState.active])
      exact timely_of_started (by simp [hin]) (by omega)
  · exact at_other Kept.timely (touches_startOne s m h) hi hs

/-- What an exit leaves at its entry is overdue at no minute. -/
theorem Exits.timely (h : Exits j b x s t) : t.At j (Timely m) := by
  intro y hy
  obtain ⟨x', hx', hk⟩ := rel_of_some h.own hy
  obtain rfl : x = x' := by simpa using hx'
  exact hk.timely (timely_of_inactive h.inactive)

/-- An end takes what is left of its booking's minute (R49, R50). -/
theorem endOne_timely (hp : Placed s) (h : Handle) (hs : s.At h.idx (StartedBy m)) : (s.endOne m h).At h.idx (Timely m) := by
  rcases endOne_cases s m h (hp.idx h.idx) with ⟨he, hno⟩ | ⟨b, x, -, -, he, -⟩
  · rw [he]
    exact fun x hx => ⟨hs x hx, fun ha => hno x hx ha.symm⟩
  · exact he.timely

theorem endOne_keeps_startedBy (hp : Placed s) (h : Handle) (hs : s.At i (StartedBy m)) :
    (s.endOne m h).At i (StartedBy m) := by
  rcases endOne_cases s m h (hp.idx h.idx) with ⟨he, -⟩ | ⟨b, x, -, -, he, -⟩
  · rwa [he]
  · by_cases hi : i = h.idx
    · subst hi; exact fun y hy => (he.timely (m := m) y hy).1
    · exact at_other Kept.startedBy he.touches hi hs

theorem endOne_keeps_timely (hp : Placed s) (h : Handle) (hs : s.At i (Timely m)) : (s.endOne m h).At i (Timely m) := by
  rcases endOne_cases s m h (hp.idx h.idx) with ⟨he, -⟩ | ⟨b, x, -, -, he, -⟩
  · rwa [he]
  · by_cases hi : i = h.idx
    · subst hi; exact he.timely
    · exact at_other Kept.timely he.touches hi hs

theorem startsAndEndsIn_keeps_timely (hp : Placed s) (r : Nat) (hs : s.At i (Timely m)) :
    (s.startsAndEndsIn m r).At i (Timely m) :=
  (foldl_invariant (P := fun t => Placed t ∧ t.At i (Timely m))
    (fun _ h ⟨hp, ht⟩ => ⟨hp.endOne m h, endOne_keeps_timely hp h ht⟩) _
    (foldl_invariant (P := fun t => Placed t ∧ t.At i (Timely m))
      (fun _ h ⟨hp, ht⟩ => ⟨hp.startOne m h, startOne_keeps_timely hp h ht⟩) _ ⟨hp, hs⟩)).2

/-- A room's timeline only shrinks at a minute event. -/
def Shrinks (s t : State) : Prop := ∀ r h, h ∈ (t.room r).timeline → h ∈ (s.room r).timeline

theorem Shrinks.trans {u : State} (h : Shrinks s t) (h' : Shrinks t u) : Shrinks s u := fun r x hx => h r x (h' r x hx)

/-- The active bookings of a room are on time when its starts and ends have been taken (R48 to R50, log 11). -/
theorem startsAndEndsIn_timely (hp : Placed s) (r : Nat) (hx : (s.startsAndEndsIn m r).bookingAt i = some x)
    (hr : x.room = r) (ha : x.state.active = true) : Timely m x := by
  let s1 := (s.room r).timeline.foldl (fun t h => t.startOne m h) s
  have h1 : Placed s1 ∧ Shrinks s s1 := foldl_invariant (P := fun t => Placed t ∧ Shrinks s t)
    (fun t h ht => ⟨ht.1.startOne m h, ht.2.trans (touches_startOne t m h).shrinks⟩) _ ⟨hp, fun _ _ => id⟩
  have hend : ∀ t h, Placed t → Shrinks t (t.endOne m h) := by
    intro t h ht
    rcases endOne_cases t m h (ht.idx h.idx) with ⟨he, -⟩ | ⟨b, x, -, -, he, -⟩
    · rw [he]; exact fun _ _ => id
    · exact he.touches.shrinks
  have h2 : Placed (s.startsAndEndsIn m r) ∧ Shrinks s1 (s.startsAndEndsIn m r) :=
    foldl_invariant (P := fun t => Placed t ∧ Shrinks s1 t)
      (fun t h ht => ⟨ht.1.endOne m h, ht.2.trans (hend t h ht.1)⟩) _ ⟨h1.1, fun _ _ => id⟩
  have hi := h2.1.idx i x hx
  have hmem1 : x.handle ∈ (s1.room r).timeline := h2.2 r _ (hr ▸ h2.1.stands i x hx ha)
  have hstarted : s1.At i (StartedBy m) := by
    rw [← hi]
    exact foldl_reaches (P := fun _ => True) (fun _ _ _ => trivial) (fun t _ => startOne_startedBy t m x.handle)
      (fun t h _ ht => startOne_keeps_startedBy (s := t) h ht) (h1.2 r _ hmem1) trivial
  have htimely : (s.startsAndEndsIn m r).At i (Timely m) := by
    rw [← hi] at hstarted ⊢
    exact foldl_reaches (P := fun t => Placed t ∧ t.At x.handle.idx (StartedBy m))
      (fun _ h ht => ⟨ht.1.endOne m h, endOne_keeps_startedBy ht.1 h ht.2⟩) (fun _ ht => endOne_timely ht.1 x.handle ht.2)
      (fun _ h ht hq => endOne_keeps_timely ht.1 h hq) hmem1 ⟨h1.1, hstarted⟩
  exact htimely x hx

/-- No operation moves a booking to another room. -/
theorem Touches.room {R : Nat} (h : Touches j d s t) (hs : s.At i (·.room = R)) : t.At i (·.room = R) := by
  intro x hx
  obtain ⟨b, hb, hbx⟩ := h.turned hx
  exact hbx.room.trans (hs b hb)

theorem startsAndEndsIn_room {R : Nat} (hp : Placed s) (r : Nat) (hs : s.At i (·.room = R)) :
    (s.startsAndEndsIn m r).At i (·.room = R) := by
  refine (foldl_invariant (P := fun t => Placed t ∧ t.At i (·.room = R)) (fun t h ht => ⟨ht.1.endOne m h, ?_⟩) _
    (foldl_invariant (P := fun t => Placed t ∧ t.At i (·.room = R))
      (fun t h ht => ⟨ht.1.startOne m h, (touches_startOne t m h).room ht.2⟩) _ ⟨hp, hs⟩)).2
  rcases endOne_cases t m h (ht.1.idx h.idx) with ⟨he, -⟩ | ⟨b, x, -, -, he, -⟩
  · rw [he]; exact ht.2
  · exact he.touches.room ht.2

/-- Every booking's minute has been taken. -/
structure OnTime (m : Nat) (s : State) : Prop where
  placed : Placed s
  timely : ∀ i, s.At i (Timely m)

theorem OnTime.touches_all (hs : OnTime m s) (h : ∀ j, Touches j none s t) : OnTime m t :=
  ⟨hs.placed.touches (h 0), fun i => at_of_touches_all Kept.timely h (hs.timely i)⟩

/-- The engine's minute event leaves no booking overdue (R48 to R50). -/
theorem startsAndEnds_onTime (hp : Placed s) (m : Nat) : OnTime m (s.startsAndEnds m) := by
  refine ⟨hp.startsAndEnds m, fun i => ?_⟩
  let R := ((s.bookingAt i).map Booking.room).getD 0
  have hroom : s.At i (·.room = R) := fun b hb => by simp [R, hb]
  have hstep : ∀ r t, (Placed t ∧ t.At i (·.room = R)) →
      Placed (t.startsAndEndsIn m r) ∧ (t.startsAndEndsIn m r).At i (·.room = R) :=
    fun r t ht => ⟨ht.1.startsAndEndsIn m r, startsAndEndsIn_room ht.1 r ht.2⟩
  by_cases hR : R < Config.rooms
  · refine overAll_reaches (Q := fun t => t.At i (Timely m)) hstep hR (fun t ht x hx => ?_)
      (fun r t ht hq => startsAndEndsIn_keeps_timely ht.1 r hq) ⟨hp, hroom⟩
    by_cases ha : x.state.active = true
    · exact startsAndEndsIn_timely ht.1 R hx ((hstep R t ht).2 x hx) ha
    · exact timely_of_inactive (by simpa using ha)
  · intro x hx
    have hend := overAll_invariant (n := Config.rooms) hstep ⟨hp, hroom⟩
    refine timely_of_inactive (Bool.eq_false_iff.mpr fun ha => hR ?_)
    exact hend.1.rooms R x.handle (hend.2 x hx ▸ hend.1.stands i x hx ha)

/-- A window opening at its minute leaves its booking on time (R88, R89). -/
theorem openDue_onTime (hs : OnTime m s) (hm : s.clock.minute = m) (r : Nat) (h : Handle) : OnTime m (s.openDue m r h) := by
  refine ⟨hs.placed.openDue m r h, fun i => ?_⟩
  rcases openDue_cases s m r h (hs.placed.idx h.idx) with he | ⟨b, hb, hst, hle, d, ht, -, x, hx, ho⟩
  · rw [he]; exact hs.timely i
  · by_cases hi : i = h.idx
    · subst hi
      intro y hy
      obtain rfl : x = y := by simpa [hx] using hy
      obtain ⟨b', hb', hbx⟩ := ht.turned hx
      obtain rfl : b = b' := by simpa [hb] using hb'
      have hspan := hs.placed.span _ b hb (by simp [hst, BookingState.active])
      have hstart := hbx.startMin
      rw [hm] at ho
      rcases ho with ho | ⟨ho, hnow⟩ | ⟨ho, hnow⟩
      · have hend := hbx.endMin (by simp [ho, BookingState.active])
        exact timely_of_started (by simp [ho]) (by omega)
      · have hend := hbx.endMin (by simp [ho, BookingState.active])
        exact timely_of_started (by simp [ho]) (by omega)
      · exact ⟨fun _ => ⟨by omega, fun _ => hnow⟩, fun ha => by simp [ho] at ha⟩
    · exact at_other Kept.timely ht hi (hs.timely i)

theorem windowOpenings_onTime (hs : OnTime m s) (hm : s.clock.minute = m) : OnTime m (s.windowOpenings m) :=
  (windowOpenings_invariant (P := fun t => OnTime m t ∧ t.clock.minute = m)
    (fun r h t ht => ⟨openDue_onTime ht.1 ht.2 r h, by rw [clock_of_outside (outside_openDue t m r h)]; exact ht.2⟩)
    ⟨hs, hm⟩).1

end Sys2Proof.Machine
end

section
/-! SUPPORT. A channel that is not FREE, and the booking it belongs to, through the minutes of a forward trim (R17, R87, R93,
R96, R99). -/

namespace Sys2Proof.Machine

variable {s t : State} {i j c e m n : Nat} {d : Option Nat} {b x : Booking} {h : Handle} {k : Channel}
  {alive lost : Prop}

/-! ### The channel's course -/

/-- A channel `k` of number `c` and the booking `b` it belongs to (R86). Where the two may come to an end (`lost`), the
channel runs, and its mode is that of the booking's state. -/
structure Course (lost : Prop) (b : Booking) (c : Nat) (k : Channel) : Prop where
  started : b.state = .awaiting ∨ b.state = .inUse
  timer : b.timer = some c
  held : k.state ≠ .free
  owner : k.booking = some b.handle
  idx : b.handle.idx < Config.handles
  number : c < Config.channels
  ends : lost → k.state = .running ∧ ((k.mode = .window ∧ b.state = .awaiting) ∨ (k.mode = .watch ∧ b.state = .inUse))

/-- The booking stands with its channel: neither belongs to another (R86). -/
structure Stand (b : Booking) (c : Nat) (k : Channel) (s : State) : Prop where
  placed : Placed s
  booking : Option.Rel Kept (some b) (s.bookingAt b.handle.idx)
  generation : (s.dir.entries.getD b.handle.idx ⟨0, none⟩).generation = b.handle.gen
  channel : s.channel c = k
  others : ∀ j x, s.bookingAt j = some x → x.timer = some c → j = b.handle.idx
  sole : ∀ e h, (s.channel e).state ≠ .free → (s.channel e).booking = some h → h.idx = b.handle.idx → e = c

/-- What is left of the booking when its channel has expired, or its end has come: released as a no-show, or ended (R50,
R93, R96). -/
structure Left (b x : Booking) : Prop where
  inactive : x.state.active = false
  timer : x.timer = none
  released : b.state = .awaiting → x.state = .released ∧ x.attendance = .noShow ∧ x.mark = true
  ended : b.state = .inUse → x.state = .endedEarly ∨ x.state = .ended

/-- The booking has left the active states, and its channel. -/
structure Gone (b : Booking) (s : State) : Prop where
  placed : Placed s
  left : ∃ x, s.bookingAt b.handle.idx = some x ∧ Left b x

/-- The booking stands with its channel, where it may (`alive`), or, where it may (`lost`), it has left. -/
def Fate (alive lost : Prop) (b : Booking) (c : Nat) (k : Channel) (s : State) : Prop :=
  (alive ∧ Stand b c k s) ∨ (lost ∧ Gone b s)

/-! ### What other bookings' operations leave -/

theorem Left.kept {y : Booking} (h : Left b x) (hk : Kept x y) : Left b y := by
  obtain ⟨m, o, hm, rfl⟩ := hk
  exact ⟨h.inactive, h.timer, fun hb => ⟨(h.released hb).1, (h.released hb).2.1, hm (h.released hb).2.2⟩, h.ended⟩

theorem Gone.touches (hg : Gone b s) (h : Touches j d s t) (hj : j ≠ b.handle.idx) : Gone b t := by
  obtain ⟨x, hx, hl⟩ := hg.left
  obtain ⟨y, hy, hk⟩ := some_of_rel (h.others _ (Ne.symm hj)) hx
  exact ⟨hg.placed.touches h, y, hy, hl.kept hk⟩

theorem Stand.touches (hs : Stand b c k s) (h : Touches j d s t) (hj : j ≠ b.handle.idx)
    (hd : d ≠ some c) : Stand b c k t where
  placed := hs.placed.touches h
  booking := rel_trans (R := Kept) Kept.trans hs.booking (h.others _ (Ne.symm hj))
  generation := (h.generation _).trans hs.generation
  channel := (h.channel c).elim (fun hc => hc.trans hs.channel) fun hc => absurd hc.1 hd
  others i x hx ht := by
    obtain ⟨y, hy, hyx⟩ := h.turned hx
    exact hs.others i y hy ((hyx.timer c ht).resolve_left hd)
  sole e h' hfree hown hidx := by
    rcases h.channel e with he | ⟨-, he | ⟨h'', he, hj'⟩⟩
    · rw [he] at hfree hown
      exact hs.sole e h' hfree hown hidx
    · exact absurd he hfree
    · obtain rfl : h'' = h' := by simpa [hown] using he.symm
      exact absurd (hj'.symm.trans hidx) hj

theorem Fate.touches (hf : Fate alive lost b c k s) (h : Touches j d s t) (hj : j ≠ b.handle.idx)
    (hd : Stand b c k s → d ≠ some c) : Fate alive lost b c k t := by
  rcases hf with ⟨ha, hs⟩ | ⟨hl, hg⟩
  · exact .inl ⟨ha, hs.touches h hj (hd hs)⟩
  · exact .inr ⟨hl, hg.touches h hj⟩

/-- An operation that touches no booking. -/
theorem Fate.touches_all (hf : Fate alive lost b c k s) (h : ∀ j, Touches j none s t) : Fate alive lost b c k t :=
  hf.touches (h (b.handle.idx + 1)) (by omega) fun _ => by simp

theorem Fate.placed (hf : Fate alive lost b c k s) : Placed s := hf.elim (fun h => h.2.placed) fun h => h.2.placed

/-- No active booking stands at the entry of one that has left, and the one that stands there is the course's. -/
theorem Fate.entry (hf : Fate alive lost b c k s) (hx : s.bookingAt b.handle.idx = some x) :
    (Stand b c k s ∧ Kept b x) ∨ (lost ∧ Gone b s ∧ Left b x) := by
  rcases hf with ⟨-, hs⟩ | ⟨hl, hg⟩
  · have hb := hs.booking
    rw [hx] at hb
    cases hb with | some hb => exact .inl ⟨hs, hb⟩
  · obtain ⟨y, hy, hleft⟩ := hg.left
    obtain rfl : x = y := by simpa [hx] using hy
    exact .inr ⟨hl, hg, hleft⟩

theorem Fate.not_booked (hc : Course lost b c k) (hf : Fate alive lost b c k s) (hx : s.bookingAt b.handle.idx = some x) :
    x.state ≠ .booked := by
  rcases hf.entry hx with ⟨-, m, o, -, rfl⟩ | ⟨-, -, hl⟩
  · rcases hc.started with h | h <;> simp [h]
  · intro hb
    have := hl.inactive
    simp [hb, BookingState.active] at this

/-- What the exit of the booking leaves. -/
theorem gone_of_exits (hp : Placed s) {y : Booking} (h : Exits b.handle.idx y x s t) (hl : Left b x) : Gone b t := by
  obtain ⟨y, hy, hk⟩ := some_of_rel h.own rfl
  exact ⟨hp.touches h.touches, y, hy, hl.kept hk⟩

/-! ### Expiries -/

theorem Stand.find (hc : Course lost b c k) (hs : Stand b c k s) : ∃ x, s.find b.handle = some x ∧ Kept b x := by
  obtain ⟨x, hx, hk⟩ := some_of_rel hs.booking rfl
  have hlt : ¬ Config.handles ≤ b.handle.idx := Nat.not_le.mpr hc.idx
  have hb : (s.dir.entries.getD b.handle.idx ⟨0, none⟩).booking = some x := hx
  exact ⟨x, by simp only [State.find, State.lookup, if_neg hlt, hb, if_pos hs.generation], hk⟩

theorem running_of_expired (h : k.expired = true) : k.state = .running := by
  simp only [Channel.expired, Bool.and_eq_true, decide_eq_true_eq] at h
  exact h.1

/-- The expiry of another channel. -/
theorem Stand.expireOther (hs : Stand b c k s) (he : e ≠ c) : Stand b c k (s.expireIfDue e) := by
  rcases expireIfDue_cases s e with ⟨-, h⟩ | ⟨hx, ⟨h, b', ho, hf, hcases⟩ | ⟨-, h⟩⟩
  · rwa [h]
  · have hb := (bookingAt_of_find hf).1
    have hj := hs.placed.idx _ b' hb
    have hne : b'.handle.idx ≠ b.handle.idx := fun hi =>
      he (hs.sole e h (by rw [running_of_expired hx]; decide) ho (hj.symm.trans hi))
    have hb' : s.bookingAt b'.handle.idx = some b' := by rwa [hj]
    have ht : b'.timer ≠ some c := fun ht => hne (hs.others _ b' hb' ht)
    rcases hcases with ⟨-, -, h⟩ | ⟨-, -, h⟩ | ⟨-, -, h⟩
    · rw [h]; exact hs.touches (exits_release hb' rfl).touches hne ht
    · rw [h]; exact hs.touches (exits_endEarly hb' rfl _).touches hne ht
    · rw [h]; exact hs.touches touches_dropChannel hne (by simpa using he)
  · rw [h]
    exact hs.touches (touches_freeChannel (j := b.handle.idx + 1)) (by omega) (by simpa using he)

/-- The expiry of the channel itself, where it may expire (R93, R96). -/
theorem Stand.expireSelf (hc : Course lost b c k) (hs : Stand b c k s) (hx : k.expired = true) (hl : lost) :
    Gone b (s.expireIfDue c) := by
  obtain ⟨y, hfind, m, o, hm, rfl⟩ := hs.find hc
  have hb := (bookingAt_of_find hfind).1
  rcases expireIfDue_cases s c with ⟨hno, -⟩ | ⟨-, ⟨h, b', ho, hf, hcases⟩ | ⟨hnone, -⟩⟩
  · rw [hs.channel, hx] at hno; cases hno
  · rw [hs.channel] at ho hcases
    obtain rfl : b.handle = h := by simpa [hc.owner] using ho
    obtain rfl : _ = b' := Option.some.inj (hfind.symm.trans hf)
    rcases (hc.ends hl).2 with ⟨hmode, hst⟩ | ⟨hmode, hst⟩
    · rcases hcases with ⟨-, -, h⟩ | ⟨-, h, -⟩ | ⟨h, -, -⟩
      · rw [h]
        exact gone_of_exits hs.placed (exits_release hb rfl) ⟨rfl, rfl, fun _ => ⟨rfl, rfl, rfl⟩, fun h => by simp [hst] at h⟩
      · simp [hst] at h
      · exact absurd ⟨hmode, hst⟩ h
    · rcases hcases with ⟨h, -, -⟩ | ⟨-, -, h⟩ | ⟨-, h, -⟩
      · simp [hmode] at h
      · rw [h]
        exact gone_of_exits hs.placed (exits_endEarly hb rfl _) ⟨rfl, rfl, fun h => by simp [hst] at h, fun _ => .inl rfl⟩
      · exact absurd ⟨hmode, hst⟩ h
  · rw [hs.channel, hc.owner, Option.bind_some, hfind] at hnone
    cases hnone

/-- A booking that has left stays as it is at an expiry. -/
theorem Gone.expireIfDue (hg : Gone b s) (e : Nat) : Gone b (s.expireIfDue e) := by
  have hp := hg.placed.expireIfDue e
  rcases expireIfDue_cases s e with ⟨-, h⟩ | ⟨hx, ⟨h, b', ho, hf, hcases⟩ | ⟨-, h⟩⟩
  · rwa [h]
  · have hb := (bookingAt_of_find hf).1
    have hj := hg.placed.idx _ b' hb
    have hb' : s.bookingAt b'.handle.idx = some b' := by rwa [hj]
    by_cases hne : b'.handle.idx = b.handle.idx
    · obtain ⟨x, hgx, hl⟩ := hg.left
      obtain rfl : x = b' := by simpa [← hne, hb'] using hgx.symm
      have hact := hl.inactive
      rcases hcases with ⟨-, h, -⟩ | ⟨-, h, -⟩ | ⟨-, -, h⟩
      · simp [h, BookingState.active] at hact
      · simp [h, BookingState.active] at hact
      · refine ⟨hp, { x with timer := none }, ?_, ⟨hl.inactive, rfl, hl.released, hl.ended⟩⟩
        rw [h, ← hne, State.dropChannel, State.bookingAt_modBooking_same]
        change (s.bookingAt _).map _ = _
        rw [hb']
        rfl
    · rcases hcases with ⟨-, -, h⟩ | ⟨-, -, h⟩ | ⟨-, -, h⟩
      · rw [h]; exact hg.touches (exits_release hb' rfl).touches hne
      · rw [h]; exact hg.touches (exits_endEarly hb' rfl _).touches hne
      · rw [h]; exact hg.touches touches_dropChannel hne
  · rw [h]
    exact hg.touches (touches_freeChannel (j := b.handle.idx + 1)) (by omega)

/-- An expiry leaves a channel that is not expired, or a booking that has left, when it is the channel's own. -/
theorem Fate.expireIfDue (hc : Course lost b c k) (hl : k.expired = true → lost) (hf : Fate alive lost b c k s) (e : Nat) :
    Fate alive lost b c k (s.expireIfDue e) ∧ (e = c → Fate (k.expired = false) lost b c k (s.expireIfDue e)) := by
  rcases hf with ⟨ha, hs⟩ | ⟨hl', hg⟩
  · by_cases he : e = c
    · subst he
      cases hx : k.expired with
      | true =>
        have hgone := hs.expireSelf hc hx (hl hx)
        exact ⟨.inr ⟨hl hx, hgone⟩, fun _ => .inr ⟨hl hx, hgone⟩⟩
      | false =>
        have hself : s.expireIfDue e = s := by simp [State.expireIfDue, hs.channel, hx]
        rw [hself]
        exact ⟨.inl ⟨ha, hs⟩, fun _ => .inl ⟨rfl, hs⟩⟩
    · exact ⟨.inl ⟨ha, hs.expireOther he⟩, fun h => absurd h he⟩
  · exact ⟨.inr ⟨hl', hg.expireIfDue e⟩, fun _ => .inr ⟨hl', hg.expireIfDue e⟩⟩

/-- When every expired channel has expired, the channel is not expired or its booking has left (R87, R99). -/
theorem Fate.expireAll (hc : Course lost b c k) (hl : k.expired = true → lost) (hf : Fate alive lost b c k s) :
    Fate (k.expired = false) lost b c k s.expireAll :=
  overAll_reaches (P := Fate alive lost b c k) (Q := Fate (k.expired = false) lost b c k)
    (fun e _ ht => (Fate.expireIfDue hc hl ht e).1) hc.number
    (fun _ ht => (Fate.expireIfDue hc hl ht c).2 rfl) (fun e _ _ hq => (Fate.expireIfDue hc hl hq e).1) hf

/-! ### Counting down -/

theorem channel_countDown (s : State) (n c : Nat) : (s.countDown n).channel c = (s.channel c).countDown n := by
  simp only [State.channel, State.countDown, List.getD_eq_getElem?_getD, List.getElem?_map]
  cases s.bank.channels[c]? <;> rfl

theorem countDown_state (n : Nat) (k : Channel) : (k.countDown n).state = k.state := by
  unfold Channel.countDown; split <;> rfl

theorem countDown_booking (n : Nat) (k : Channel) : (k.countDown n).booking = k.booking := by
  unfold Channel.countDown; split <;> rfl

theorem countDown_mode (n : Nat) (k : Channel) : (k.countDown n).mode = k.mode := by
  unfold Channel.countDown; split <;> rfl

theorem countDown_of_running (h : k.state = .running) (n : Nat) : k.countDown n = { k with remaining := k.remaining - n } :=
  if_pos h

theorem countDown_of_not_running (h : k.state ≠ .running) (n : Nat) : k.countDown n = k := if_neg h

theorem countDown_countDown (m n : Nat) (k : Channel) : (k.countDown m).countDown n = k.countDown (m + n) := by
  by_cases h : k.state = .running
  · simp [Channel.countDown, h, Nat.sub_sub]
  · simp [countDown_of_not_running h]

theorem expired_countDown : (k.countDown n).expired = true ↔ k.state = .running ∧ k.remaining ≤ n := by
  simp only [Channel.expired, countDown_state, Bool.and_eq_true, decide_eq_true_eq]
  refine and_congr_right fun h => ?_
  rw [countDown_of_running h]
  exact Nat.sub_eq_zero_iff_le

theorem Course.countDown (hc : Course lost b c k) (n : Nat) : Course lost b c (k.countDown n) :=
  ⟨hc.started, hc.timer, by rw [countDown_state]; exact hc.held, by rw [countDown_booking]; exact hc.owner, hc.idx, hc.number,
    by rw [countDown_state, countDown_mode]; exact hc.ends⟩

theorem Fate.countDown (hf : Fate alive lost b c k s) (n : Nat) : Fate True lost b c (k.countDown n) (s.countDown n) := by
  rcases hf with ⟨-, hs⟩ | ⟨hl, hg⟩
  · refine .inl ⟨trivial, hs.placed.countDown n, hs.booking, hs.generation, by rw [channel_countDown, hs.channel],
      hs.others, ?_⟩
    intro e h hfree hown
    rw [channel_countDown, countDown_state] at hfree
    rw [channel_countDown, countDown_booking] at hown
    exact hs.sole e h hfree hown
  · exact .inr ⟨hl, hg.placed.countDown n, hg.left⟩

/-! ### The minute events -/

theorem Fate.startOne (hc : Course lost b c k) (hf : Fate alive lost b c k s) (m : Nat) (h : Handle) :
    Fate alive lost b c k (s.startOne m h) := by
  by_cases hi : h.idx = b.handle.idx
  · rcases startOne_cases s m h with ⟨he, -⟩ | ⟨x, _, _, hx, hst, -⟩
    · rwa [he]
    · exact absurd hst (hf.not_booked hc (hi ▸ hx))
  · exact hf.touches (touches_startOne s m h) hi fun _ => by simp

theorem Fate.endOne (hc : Course lost b c k) (hm : b.endMin ≤ m → lost) (hf : Fate alive lost b c k s) (h : Handle) :
    Fate alive lost b c k (s.endOne m h) := by
  rcases endOne_cases s m h (hf.placed.idx h.idx) with ⟨he, -⟩ | ⟨y, x, hy, hdue, he, hstates⟩
  · rwa [he]
  · by_cases hi : h.idx = b.handle.idx
    · rw [hi] at hy he
      rcases hf.entry hy with ⟨hs, _, _, -, rfl⟩ | ⟨-, -, hl⟩
      · have hlost := hm hdue
        refine .inr ⟨hlost, gone_of_exits hs.placed he ⟨he.inactive, he.timer, fun ha => ?_, fun ha => ?_⟩⟩
        · rcases hstates with ⟨hin, -⟩ | ⟨-, hrel⟩
          · simp [ha] at hin
          · exact hrel ⟨c, hc.timer, by rw [hs.channel]; exact (hc.ends hlost).1⟩
        · rcases hstates with ⟨-, hend⟩ | ⟨haw, -⟩
          · exact .inr hend
          · simp [ha] at haw
      · have hact := hl.inactive
        rcases hstates with ⟨h, -⟩ | ⟨h, -⟩ <;> simp [h, BookingState.active] at hact
    · exact hf.touches he.touches hi fun hs ht => hi (hs.others _ y hy ht)

theorem Fate.startsAndEnds (hc : Course lost b c k) (hm : b.endMin ≤ m → lost) (hf : Fate alive lost b c k s) :
    Fate alive lost b c k (s.startsAndEnds m) := by
  refine overAll_invariant (P := Fate alive lost b c k) (fun r t ht => ?_) hf
  have hstarts := foldl_invariant (P := Fate alive lost b c k) (fun u h hu => Fate.startOne hc hu m h) (t.room r).timeline ht
  exact foldl_invariant (P := Fate alive lost b c k) (fun u h hu => Fate.endOne hc hm hu h) _ hstarts

theorem Fate.windowOpenings (hc : Course lost b c k) (hf : Fate alive lost b c k s) (m : Nat) :
    Fate alive lost b c k (s.windowOpenings m) := by
  refine windowOpenings_invariant (fun r h t ht => ?_) hf
  rcases openDue_cases t m r h (ht.placed.idx h.idx) with he | ⟨x, hx, hst, -, d, htouch, hfree, -⟩
  · rwa [he]
  · by_cases hi : h.idx = b.handle.idx
    · exact absurd hst (ht.not_booked hc (hi ▸ hx))
    · refine ht.touches htouch hi fun hs hd => hc.held ?_
      rw [← hs.channel]
      exact hfree c hd

theorem Fate.of_eq (hf : Fate alive lost b c k s) (hd : t.dir = s.dir) (hr : t.rooms = s.rooms) (hb : t.bank = s.bank) :
    Fate alive lost b c k t :=
  hf.touches_all fun _ => touches_of_eq hd (fun r => by rw [State.room, hr]; rfl) (by rw [hb])

end Sys2Proof.Machine
end

section
/-! SUPPORT. TRIM_TIME (R17): its refusals, a forward trim minute by minute, and a backward trim. -/

namespace Sys2Proof.Machine

variable {s : State} {c m n : Nat} {b : Booking} {h : Handle} {k : Channel} {alive lost : Prop}

/-! ### One minute of a forward trim -/

/-- The events of one minute, taken by the blocks in their order (log 9). -/
def State.minuteTaken (s : State) (m : Nat) : State :=
  (((s.stepped fun u => u.startsAndEnds m).stepped fun u => u.windowOpenings m).stepped fun u => u.commits m).stepped
    fun u => u.closureTimes m

/-- The minute events of one minute are owed, and no second event. -/
structure Owed.One (o : Owed) (m : Nat) : Prop where
  seconds : o.seconds = 0
  starts : o.starts = [m]
  openings : o.openings = [m]
  commits : o.commits = [m]
  closures : o.closures = [m]

theorem takeOwed_of_one (h : s.owed.One m) : s.takeOwed = ({ s with owed := s.owed.daysOnly }).minuteTaken m := by
  simp only [State.takeOwed, h.seconds, h.starts, h.openings, h.commits, h.closures, List.foldl_cons, List.foldl_nil,
    State.takeSeconds, State.minuteTaken, Owed.daysOnly]

/-- The minute that a forward trim has counted, before its events are taken (R17, R99). -/
theorem timing_trimMinute (hm : s.clock.minute < Config.maxMinute) (hc : s.catching = false) (ho : s.owed.daysOnly = s.owed) :
    (s.stepped State.trimMinute).clock.minute = s.clock.minute + 1 ∧
      (s.stepped State.trimMinute).owed.One (s.clock.minute + 1) := by
  have h : (s.stepped State.trimMinute).outside = s.nextMinute.outside := by
    rw [State.stepped, outside_relist, State.trimMinute, outside_expireAll, outside_countDown]
  rw [clock_of_outside h, owed_of_outside h, nextMinute_eq hm hc, ← ho]
  exact ⟨rfl, rfl, rfl, rfl, rfl, rfl⟩

theorem OnTime.stepped {f : State → State} (h : OnTime m (f s)) : OnTime m (s.stepped f) :=
  h.touches_all fun _ => touches_relist s

theorem minuteTaken_onTime (hp : Placed s) (hm : s.clock.minute = m) : OnTime m (s.minuteTaken m) := by
  have h1 : OnTime m (s.stepped fun u => u.startsAndEnds m) := (startsAndEnds_onTime hp m).stepped
  have hclock : (s.stepped fun u => u.startsAndEnds m).clock.minute = m := by
    have h : (s.stepped fun u => u.startsAndEnds m).outside = s.outside := by
      rw [State.stepped, outside_relist, outside_startsAndEnds]
    rw [clock_of_outside h, hm]
  have h2 := OnTime.stepped (f := fun u => u.windowOpenings m) (windowOpenings_onTime h1 hclock)
  have h3 := OnTime.stepped (f := fun u => u.commits m) (h2.touches_all fun _ => touches_commits m _)
  exact OnTime.stepped (f := fun u => u.closureTimes m) (h3.touches_all fun _ => touches_closureTimes m _)

/-- A minute of a forward trim leaves no booking overdue (R17). -/
theorem trimForwardStep_onTime (hp : Placed s) (hm : s.clock.minute < Config.maxMinute) (hc : s.catching = false)
    (ho : s.owed.daysOnly = s.owed) : OnTime (s.clock.minute + 1) s.trimForwardStep := by
  obtain ⟨hmin, hone⟩ := timing_trimMinute hm hc ho
  rw [State.trimForwardStep, takeOwed_of_one hone]
  exact minuteTaken_onTime ((hp.trimMinute.relist s).of_eq rfl rfl) hmin

theorem Fate.stepped {f : State → State} (h : Fate alive lost b c k (f s)) : Fate alive lost b c k (s.stepped f) :=
  h.touches_all fun _ => touches_relist s

theorem minuteTaken_fate (hc : Course lost b c k) (hm : b.endMin ≤ m → lost) (hf : Fate alive lost b c k s) :
    Fate alive lost b c k (s.minuteTaken m) := by
  have h1 := Fate.stepped (f := fun u => u.startsAndEnds m) (hf.startsAndEnds hc hm)
  have h2 := Fate.stepped (f := fun u => u.windowOpenings m) (h1.windowOpenings hc m)
  have h3 := Fate.stepped (f := fun u => u.commits m) (h2.touches_all fun _ => touches_commits m _)
  exact Fate.stepped (f := fun u => u.closureTimes m) (h3.touches_all fun _ => touches_closureTimes m _)

/-- A minute of a forward trim counts the channel down by 60 seconds, expires it or leaves it, and takes the booking's end
where it has come (R17, R99). -/
theorem trimForwardStep_fate (hc : Course lost b c k) (hmin : s.clock.minute < Config.maxMinute)
    (hcatch : s.catching = false) (ho : s.owed.daysOnly = s.owed) (hx : (k.countDown 60).expired = true → lost)
    (hm : b.endMin ≤ s.clock.minute + 1 → lost) (hf : Fate alive lost b c k s) :
    Fate ((k.countDown 60).expired = false) lost b c (k.countDown 60) s.trimForwardStep := by
  have hkeep := nextMinute_keeps s
  have hnext : Fate alive lost b c k s.nextMinute := by
    rw [hkeep]
    exact hf.of_eq rfl rfl rfl
  have htrim : Fate ((k.countDown 60).expired = false) lost b c (k.countDown 60) s.trimMinute :=
    Fate.expireAll (hc.countDown 60) hx (hnext.countDown 60)
  rw [State.trimForwardStep, takeOwed_of_one (timing_trimMinute hmin hcatch ho).2]
  have hstep := Fate.stepped (f := State.trimMinute) htrim
  exact minuteTaken_fate (hc.countDown 60) hm (hstep.of_eq rfl rfl rfl)

/-! ### The minutes of a forward trim -/

/-- What each step of a forward trim finds and leaves of the clock. -/
structure Trimming (s : State) (n : Nat) : Prop where
  room : s.clock.minute + n ≤ Config.maxMinute
  catching : s.catching = false
  owed : s.owed.daysOnly = s.owed

theorem Trimming.step (h : Trimming s (n + 1)) : Trimming s.trimForwardStep n ∧
    s.trimForwardStep.clock.minute = s.clock.minute + 1 := by
  have hroom := h.room
  have ht := timing_trimForwardStep (s := s) (by omega) h.catching
  have hclock : s.trimForwardStep.clock.minute = s.clock.minute + 1 := congrArg (fun o => o.clock.minute) ht
  refine ⟨⟨by omega, (congrArg (fun o => o.catchUp.isSome) ht).trans h.catching, ?_⟩, hclock⟩
  rw [← timing_owed, ht]
  rfl

/-- A forward trim leaves no booking overdue (R17). -/
theorem trimForward_onTime (hn : 0 < n) (hp : Placed s) (h : Trimming s n) :
    OnTime (s.clock.minute + n) (State.trimForward n s) := by
  induction n generalizing s with
  | zero => cases hn
  | succ n ih =>
    obtain ⟨hstep, hmin⟩ := h.step
    rw [State.trimForward]
    cases n with
    | zero => exact trimForwardStep_onTime hp h.room h.catching h.owed
    | succ n =>
      have := ih (Nat.succ_pos n) hp.trimForwardStep hstep
      rw [hmin] at this
      rwa [Nat.add_assoc, Nat.add_comm 1] at this

/-- A forward trim of `n` minutes counts the channel down by 60 seconds for each (R17, R99). -/
theorem trimForward_fate (hn : 0 < n) (h : Trimming s n) (hc : Course lost b c k)
    (hx : (k.countDown (60 * n)).expired = true → lost) (hm : b.endMin ≤ s.clock.minute + n → lost)
    (hf : Fate alive lost b c k s) :
    Fate ((k.countDown (60 * n)).expired = false) lost b c (k.countDown (60 * n)) (State.trimForward n s) := by
  induction n generalizing s k alive with
  | zero => cases hn
  | succ n ih =>
    obtain ⟨hstep, hmin⟩ := h.step
    have hroom := h.room
    have hfirst : (k.countDown 60).expired = true → lost := fun he => hx (by
      rw [expired_countDown] at he ⊢
      exact ⟨he.1, by omega⟩)
    have h1 := trimForwardStep_fate hc (by omega) h.catching h.owed hfirst (fun he => hm (by omega)) hf
    rw [State.trimForward]
    cases n with
    | zero => exact h1
    | succ n =>
      have hadd : (k.countDown 60).countDown (60 * (n + 1)) = k.countDown (60 * (n + 1 + 1)) := by
        rw [countDown_countDown]
        congr 1
        omega
      have h2 := ih (Nat.succ_pos n) hstep (hc.countDown 60) (by rwa [hadd]) (fun he => hm (by omega)) h1
      rwa [hadd] at h2

/-! ### The channel of a sound state -/

/-- In a sound state a channel that is not FREE stands with its booking (R86). -/
theorem State.Sound.stand (hs : s.Sound) (hfree : (s.channel c).state ≠ .free) (hown : (s.channel c).booking = some h)
    (hl : s.lookup h = .found b) :
    Stand b c (s.channel c) s ∧ b.handle = h ∧ (b.state = .awaiting ∨ b.state = .inUse) ∧ b.timer = some c := by
  obtain ⟨hidx, hb, hgen⟩ := State.bookingAt_of_lookup hl
  have hh : b.handle = h := by rw [hs.handles _ b hb, hgen]
  have hat {e : Nat} {h' : Handle} (he : (s.channel e).state ≠ .free) (ho : (s.channel e).booking = some h')
      (hi : h'.idx = h.idx) : (b.state = .awaiting ∨ b.state = .inUse) ∧ b.timer = some e := by
    obtain ⟨h'', b', ho', hl', hstate, htimer⟩ := hs.channels.1 e he
    obtain rfl : h' = h'' := by simpa [ho] using ho'
    have hb' := (State.bookingAt_of_lookup hl').2.1
    obtain rfl : b = b' := by simpa [hi, hb] using hb'
    exact ⟨hstate, htimer⟩
  obtain ⟨hstate, htimer⟩ := hat hfree hown rfl
  subst hh
  refine ⟨⟨hs.placed, by rw [hb]; exact rel_refl _, hgen, rfl, fun j x hx hxt => ?_, fun e h' he ho hi => ?_⟩, rfl,
    hstate, htimer⟩
  · obtain ⟨-, ho⟩ := hs.channels.2 j x c hx hxt
    have hh : b.handle = x.handle := by simpa [hown] using ho
    rw [hh, hs.placed.idx j x hx]
  · have := (hat he ho hi).2
    simpa [htimer] using this.symm

end Sys2Proof.Machine
end

section
/-! SUPPORT. TRIM_TIME as it answers (R17): its refusals, and what a trim forward and a trim backward leave. -/

namespace Sys2Proof.Machine

variable {s s1 : State} {c m n : Nat} {b : Booking} {h : Handle} {ref : HostRef} {tag : Byte}

/-! ### What a trim leaves of the clock -/

/-- The day events that a move of the clock to the minute `m` raises, and the day_raised it leaves (R15, R17). -/
structure DaysTo (k : Clock) (m : Nat) (days : List Nat) (raised : Option Nat) : Prop where
  length : days.length ≤ 1
  mem : ∀ d, d ∈ days ↔ ∃ i, k.minute < i ∧ i ≤ m ∧ i % 1440 = 0 ∧ i / 1440 = d ∧ ∀ r, k.dayRaised = some r → r < d
  last : ∀ d ∈ days, raised = some d
  same : days = [] → raised = k.dayRaised

/-- What a trim to the minute `m` leaves of the clock, of what is owed, and of the link (R17). -/
structure Trimmed (s u : State) (m : Nat) : Prop where
  clock : u.clock = { s.clock with minute := m, dayRaised := u.clock.dayRaised }
  days : ∃ days, u.owed = s.owed.daysOnly.withDays days ∧ DaysTo s.clock m days u.clock.dayRaised
  flag : u.notice.clock = true
  link : u.link = s.link

theorem daysTo_daysIn (hn : n ≤ 1440) (k : Clock) : DaysTo k (k.minute + n) (k.daysIn n) (k.after n).dayRaised := by
  rcases daysIn_cases hn k with ⟨hnil, hr⟩ | ⟨d, hd, hr⟩
  · exact ⟨by simp [hnil], mem_daysIn n k, by simp [hnil], fun _ => hr⟩
  · exact ⟨by simp [hd], mem_daysIn n k, by simpa [hd] using hr, by simp [hd]⟩

/-- A trim backward raises no day event. -/
theorem daysTo_nil (k : Clock) (hm : m ≤ k.minute) : DaysTo k m [] k.dayRaised :=
  ⟨by simp, fun d => by simp only [List.not_mem_nil, false_iff]; rintro ⟨i, h1, h2, -⟩; omega, by simp, fun _ => rfl⟩

theorem trim_forward (hn : 0 < n) (s : State) : s.trim n = (State.trimForward n s.takeOwed).raiseClock := by
  simp only [State.trim, Int.natCast_pos, hn, if_true, Int.toNat_natCast]

theorem trim_back (hn : 0 < n) (s : State) : s.trim (-n) =
    (({ s.takeOwed with clock := { s.takeOwed.clock with minute := s.takeOwed.clock.minute - n } }).trimBack
      (n * 60)).raiseClock := by
  have hneg : ¬ (0 : Int) < -n := by omega
  simp only [State.trim, hneg, if_false, Int.natAbs_neg, Int.natAbs_natCast]

theorem takeOwed_clock (s : State) : s.takeOwed.clock = s.clock := congrArg Outside.clock (timing_takeOwed s)

theorem takeOwed_owed (s : State) : s.takeOwed.owed = s.owed.daysOnly := congrArg Outside.owed (timing_takeOwed s)

theorem takeOwed_link (s : State) : s.takeOwed.link = s.link := congrArg Outside.link (timing_takeOwed s)

theorem trimming_takeOwed (hm : s.clock.minute + n ≤ Config.maxMinute) (hc : s.catching = false) : Trimming s.takeOwed n :=
  ⟨by rwa [takeOwed_clock], (congrArg (fun o => o.catchUp.isSome) (timing_takeOwed s)).trans hc, by rw [takeOwed_owed]; rfl⟩

theorem trimmed_forward (hn : 0 < n) (hn' : n ≤ 1440) (hm : s.clock.minute + n ≤ Config.maxMinute) (hc : s.catching = false) :
    Trimmed s (s.trim n) (s.clock.minute + n) := by
  obtain ⟨hroom, hcatch, howed⟩ := trimming_takeOwed hm hc
  have ht := timing_trimForward n s.takeOwed hroom hcatch howed
  rw [takeOwed_clock, takeOwed_owed, timing_takeOwed] at ht
  have hclock : (State.trimForward n s.takeOwed).clock = s.clock.after n := congrArg Outside.clock ht
  have howed' : (State.trimForward n s.takeOwed).owed = s.owed.daysOnly.withDays (s.clock.daysIn n) :=
    congrArg Outside.owed ht
  have hlink : (State.trimForward n s.takeOwed).link = s.link := congrArg Outside.link ht
  rw [trim_forward hn]
  refine ⟨?_, ⟨s.clock.daysIn n, howed', ?_⟩, rfl, hlink⟩
  · rw [State.raiseClock_clock, hclock]; exact after_eq n s.clock
  · rw [State.raiseClock_clock, hclock]; exact daysTo_daysIn hn' s.clock

theorem trimmed_back (hn : 0 < n) (s : State) : Trimmed s (s.trim (-n)) (s.clock.minute - n) := by
  rw [trim_back hn]
  refine ⟨?_, ⟨[], ?_, ?_⟩, rfl, takeOwed_link s⟩
  · simp only [State.raiseClock_clock, State.trimBack, takeOwed_clock]
  · simp only [State.raiseClock_owed, State.trimBack, takeOwed_owed, withDays_nil]
  · simp only [State.raiseClock_clock, State.trimBack, takeOwed_clock]
    exact daysTo_nil _ (Nat.sub_le ..)

/-! ### What a trim leaves of the bookings and channels -/

theorem daysOnly_of_nothing {o : Owed} (h0 : o.seconds = 0) (h1 : o.starts = []) (h2 : o.openings = []) (h3 : o.commits = [])
    (h4 : o.closures = []) : o.daysOnly = o := by
  cases o
  simp_all [Owed.daysOnly]

theorem takeOwed_of_nothing (h0 : s.owed.seconds = 0) (h1 : s.owed.starts = []) (h2 : s.owed.openings = [])
    (h3 : s.owed.commits = []) (h4 : s.owed.closures = []) : s.takeOwed = s := by
  have ht : s.takeOwed = { s with owed := s.owed.daysOnly } := by
    simp only [State.takeOwed, h0, h1, h2, h3, h4, List.foldl_nil, State.takeSeconds, Owed.daysOnly]
  rw [ht, daysOnly_of_nothing h0 h1 h2 h3 h4]

/-- A forward trim leaves no booking overdue (R17). -/
theorem trim_onTime (hn : 0 < n) (hs : s.Sound) (hm : s.clock.minute + n ≤ Config.maxMinute) (hc : s.catching = false)
    (i : Nat) (hb : (s.trim n).bookingAt i = some b) :
    (b.state = .inUse ∨ b.state = .awaiting → s.clock.minute + n < b.endMin) ∧
      (b.state = .booked → b.checkin = .exempt → s.clock.minute + n < b.startMin) := by
  have h := trimForward_onTime hn hs.placed.takeOwed (trimming_takeOwed hm hc)
  rw [takeOwed_clock] at h
  rw [trim_forward hn] at hb
  obtain ⟨hstart, hend⟩ := h.timely i b hb
  exact ⟨hend, fun hbk => (hstart hbk).2⟩

/-- A channel that is not FREE has its number in the bank. -/
theorem State.Sound.number (hs : s.Sound) (hfree : (s.channel c).state ≠ .free) : c < Config.channels := by
  have hlen : s.bank.channels.length = Config.channels := by
    have hsh := hs.shaped
    simp only [State.shaped, Bool.and_eq_true, decide_eq_true_eq] at hsh
    tauto
  by_contra hc
  simp [State.channel, List.getD_eq_getElem?_getD, hlen, hc, Channel.idle] at hfree

/-- A channel that does not expire within a forward trim, and whose booking does not end, counts down and stays (R17, R99). -/
theorem trimForward_channel (hn : 0 < n) (hs : s.Sound) (ht : Trimming s n) (hfree : (s.channel c).state ≠ .free)
    (hown : (s.channel c).booking = some h) (hl : s.lookup h = .found b)
    (hx : ((s.channel c).countDown (60 * n)).expired = false) (hend : s.clock.minute + n < b.endMin) :
    (State.trimForward n s).channel c = (s.channel c).countDown (60 * n) := by
  obtain ⟨hstand, rfl, hstate, htimer⟩ := hs.stand hfree hown hl
  have hcourse : Course False b c (s.channel c) :=
    ⟨hstate, htimer, hfree, hown, (State.bookingAt_of_lookup hl).1, hs.number hfree, False.elim⟩
  have hf : Fate True False b c (s.channel c) s := .inl ⟨trivial, hstand⟩
  rcases trimForward_fate hn ht hcourse (by simp [hx]) (by omega) hf with ⟨-, h⟩ | ⟨h, -⟩
  · exact h.channel
  · exact h.elim

/-- A RUNNING channel that reaches 0 within a forward trim expires, and its booking leaves (R17, R99). -/
theorem trimForward_gone (hn : 0 < n) (hs : s.Sound) (ht : Trimming s n) (hrun : (s.channel c).state = .running)
    (hown : (s.channel c).booking = some h) (hl : s.lookup h = .found b) (hrem : (s.channel c).remaining ≤ 60 * n)
    (hmode : ((s.channel c).mode = .window ∧ b.state = .awaiting) ∨ ((s.channel c).mode = .watch ∧ b.state = .inUse)) :
    ∃ x, (State.trimForward n s).bookingAt h.idx = some x ∧ Left b x := by
  have hfree : (s.channel c).state ≠ .free := by rw [hrun]; decide
  obtain ⟨hstand, rfl, hstate, htimer⟩ := hs.stand hfree hown hl
  have hcourse : Course True b c (s.channel c) :=
    ⟨hstate, htimer, hfree, hown, (State.bookingAt_of_lookup hl).1, hs.number hfree, fun _ => ⟨hrun, hmode⟩⟩
  have hf : Fate True True b c (s.channel c) s := .inl ⟨trivial, hstand⟩
  rcases trimForward_fate hn ht hcourse (fun _ => trivial) (fun _ => trivial) hf with ⟨hno, -⟩ | ⟨-, h⟩
  · rw [expired_countDown.mpr ⟨hrun, hrem⟩] at hno
    cases hno
  · exact h.left

/-- The channels and their bookings after a forward trim with nothing owed (R17, R99). -/
theorem trim_forward_channels (hn : 0 < n) (hs : s.Sound) (ht : Trimming s n) (hnothing : s.takeOwed = s)
    (hown : (s.channel c).booking = some h) (hl : s.lookup h = .found b) :
    ((s.channel c).state = .paused ∨ (s.channel c).state = .suspended → s.clock.minute + n < b.endMin →
      (s.trim n).channel c = s.channel c) ∧
    ((s.channel c).state = .running →
      (60 * n < (s.channel c).remaining → s.clock.minute + n < b.endMin →
        (s.trim n).channel c = { s.channel c with remaining := (s.channel c).remaining - 60 * n }) ∧
      ((s.channel c).remaining ≤ 60 * n →
        ((s.channel c).mode = .window → b.state = .awaiting → ∃ x, (s.trim n).bookingAt h.idx = some x ∧
          x.state = .released ∧ x.attendance = .noShow ∧ x.mark = true ∧ x.timer = none) ∧
        ((s.channel c).mode = .watch → b.state = .inUse → ∃ x, (s.trim n).bookingAt h.idx = some x ∧ x.timer = none ∧
          (x.state = .endedEarly ∨ x.state = .ended)))) := by
  have htrim : s.trim n = (State.trimForward n s).raiseClock := by rw [trim_forward hn, hnothing]
  rw [htrim]
  have hstays (hfree : (s.channel c).state ≠ .free)
      (hx : ¬ ((s.channel c).state = .running ∧ (s.channel c).remaining ≤ 60 * n)) (hend : s.clock.minute + n < b.endMin) : (State.trimForward n s).channel c = (s.channel c).countDown (60 * n) :=
    trimForward_channel hn hs ht hfree hown hl (Bool.eq_false_iff.mpr fun he => hx (expired_countDown.mp he)) hend
  refine ⟨fun hst hend => ?_, fun hrun => ⟨fun hrem hend => ?_, fun hrem => ⟨fun hmode hst => ?_, fun hmode hst => ?_⟩⟩⟩
  · have hno : (s.channel c).state ≠ .running := by rcases hst with hst | hst <;> simp [hst]
    have hfree : (s.channel c).state ≠ .free := by rcases hst with hst | hst <;> simp [hst]
    exact (hstays hfree (fun he => hno he.1) hend).trans (countDown_of_not_running hno _)
  · exact (hstays (by simp [hrun]) (fun he => by omega) hend).trans (countDown_of_running hrun _)
  · obtain ⟨x, hx, hleft⟩ := trimForward_gone hn hs ht hrun hown hl hrem (.inl ⟨hmode, hst⟩)
    obtain ⟨hstate, hatt, hmark⟩ := hleft.released hst
    exact ⟨x, hx, hstate, hatt, hmark, hleft.timer⟩
  · obtain ⟨x, hx, hleft⟩ := trimForward_gone hn hs ht hrun hown hl hrem (.inr ⟨hmode, hst⟩)
    exact ⟨x, hx, hleft.timer, hleft.ended hst⟩

theorem channel_trimBack (s : State) (seconds c : Nat) : (s.trimBack seconds).channel c =
    if (s.channel c).state = .running then
      { s.channel c with remaining := min ((s.channel c).remaining + seconds) Config.maxRemaining }
    else s.channel c := by
  simp only [State.channel, State.trimBack, List.getD_eq_getElem?_getD, List.getElem?_map]
  cases s.bank.channels[c]? <;> rfl

/-! ### The request -/

theorem trimTime_refusals {n : Int} (h : s.taken (.trimTime tag n) = some (s1, ref)) :
    (s1.clock.state = .stopped → exec (.trimTime tag n) s = .next (s1.answered ref .badState [])) ∧
    (s1.clock.state ≠ .stopped → n = 0 ∨ n < -5 ∨ 5 < n → exec (.trimTime tag n) s = .next (s1.answered ref .badField [])) ∧
    (s1.clock.state ≠ .stopped → n ≠ 0 → -5 ≤ n → n ≤ 5 → s1.catching = true →
      exec (.trimTime tag n) s = .next (s1.answered ref .wait [])) ∧
    (s1.clock.state ≠ .stopped → n ≠ 0 → -5 ≤ n → n ≤ 5 → s1.catching = false →
      (s1.clock.minute : Int) + n < 0 ∨ 3999999999 < (s1.clock.minute : Int) + n →
      exec (.trimTime tag n) s = .next (s1.answered ref .badField [])) := by
  have ht := takeRequest_of_taken rfl h
  refine ⟨fun hs => ?_, fun hs hn => ?_, fun hs h0 h1 h2 hc => ?_, fun hs h0 h1 h2 hc hm => ?_⟩
  · exact hostStepped_reads ht (by simp [running_eq_false hs, refuse])
  · exact hostStepped_reads ht (by
      simp only [running_eq_true hs, Bool.not_true, Bool.false_eq_true, if_false, if_pos hn, refuse])
  · have hn : ¬ (n = 0 ∨ n < -5 ∨ 5 < n) := by omega
    exact hostStepped_reads ht (by
      simp only [running_eq_true hs, Bool.not_true, Bool.false_eq_true, if_false, if_neg hn, hc, if_true, refuse])
  · have hn : ¬ (n = 0 ∨ n < -5 ∨ 5 < n) := by omega
    have hnone : trimmed s1.clock.minute n = none := if_pos hm
    exact hostStepped_reads ht (by
      simp only [running_eq_true hs, Bool.not_true, Bool.false_eq_true, if_false, if_neg hn, hc, hnone, refuse])

/-- TRIM_TIME taken (R17). -/
theorem trimTime_trims {n : Int} (h : s.taken (.trimTime tag n) = some (s1, ref)) (hs : s1.clock.state ≠ .stopped)
    (h0 : n ≠ 0) (h1 : -5 ≤ n) (h2 : n ≤ 5) (hc : s1.catching = false) (hm : (s1.clock.minute : Int) + n = m) (hmax : m ≤ 3999999999) :
    exec (.trimTime tag n) s = .next ((s1.trim n).answer ref .ok [.num 4 (some m)]).followAttn := by
  have hn : ¬ (n = 0 ∨ n < -5 ∨ 5 < n) := by omega
  have hsome : trimmed s1.clock.minute n = some m := by
    have hrange : ¬ ((m : Int) < 0 ∨ (Config.maxMinute : Int) < m) := by simp only [Config.maxMinute]; omega
    simp only [trimmed, hm, if_neg hrange, Int.toNat_natCast]
  refine (hostStepped_taken _ (takeRequest_of_taken rfl h)).trans ?_
  simp only [running_eq_true hs, Bool.not_true, Bool.false_eq_true, if_false, if_neg hn, hc, hsome, minuteField]

/-- An answer changes the link and ATTN. -/
theorem answered_eq (u : State) (ref : HostRef) (st : Status) (body : List Field) : (u.answer ref st body).followAttn =
    { u with link := (u.answer ref st body).link, attn := (u.answer ref st body).followAttn.attn } := by
  rw [State.followAttn, answer_keeps]

/-- Settles O9: a forward trim is followed minute by minute, with the bookings on their timelines and each channel with its
booking. -/
theorem trimMovesWholeMinutes : Obligations.TrimMovesWholeMinutes := by
  intro s s1 ref tag n h
  obtain ⟨hstopped, hfield, hwait, hrange⟩ := trimTime_refusals h
  refine ⟨hstopped, hfield, hwait, fun hs h0 h1 h2 hc => ⟨hrange hs h0 h1 h2 hc, fun m hm hmax => ?_⟩⟩
  have hforward : ∀ {k : Nat}, n = k → s1.clock.minute + k = m := by omega
  have hback : ∀ {k : Nat}, n = -k → m = s1.clock.minute - k := by omega
  obtain ⟨hclock, ⟨days, howed, hdays⟩, hflag, hlink⟩ : Trimmed s1 (s1.trim n) m := by
    obtain ⟨k, rfl | rfl⟩ := n.eq_nat_or_neg
    · rw [← hforward rfl]; exact trimmed_forward (by omega) (by omega) (hforward rfl ▸ hmax) hc
    · rw [hback rfl]; exact trimmed_back (by omega) s1
  refine ⟨_, trimTime_trims h hs h0 h1 h2 hc hm hmax, ?_⟩
  rw [answered_eq]
  refine ⟨by rw [hclock], by rw [hclock], by rw [hclock], by rw [hclock], hflag, answer_link_congr hlink .ok _,
    by rw [howed]; rfl, by rw [howed]; rfl, by rw [howed]; rfl, by rw [howed]; rfl, by rw [howed]; rfl, ⟨days, hdays.length, hdays.mem, ?_⟩, ?_, ?_⟩
  · refine ⟨by rw [howed]; rfl, by rw [howed]; rfl, by rw [howed]; rfl, hdays.last, hdays.same⟩
  · intro hn hsound r hr x hx b hb
    obtain ⟨k, rfl⟩ := Int.eq_ofNat_of_zero_le hn.le
    rw [← hforward rfl]
    exact trim_onTime (by omega) hsound (hforward rfl ▸ hmax) hc x.idx hb
  · intro o0 o1 o2 o3 o4
    have hnothing := takeOwed_of_nothing o0 o1 o2 o3 o4
    refine ⟨fun hn hsound c x b hown hl => ?_, fun hn => ?_⟩
    · obtain ⟨k, rfl⟩ := Int.eq_ofNat_of_zero_le hn.le
      have hm' := hforward rfl
      have ht : Trimming s1 k := hnothing ▸ trimming_takeOwed (hm' ▸ hmax) hc
      have hk : m - s1.clock.minute = k := by omega
      have hchannels := trim_forward_channels (by omega) hsound ht hnothing hown hl
      rw [hk, ← hm']
      exact hchannels
    · obtain ⟨k, rfl⟩ := Int.exists_eq_neg_ofNat hn.le
      have hk : s1.clock.minute - m = k := by omega
      have htrim := trim_back (n := k) (by omega) s1
      rw [hnothing] at htrim
      rw [htrim, hk, Nat.mul_comm 60 k]
      refine ⟨fun c hc => (channel_trimBack _ _ c).trans (if_pos hc), fun c hc => (channel_trimBack _ _ c).trans (if_neg hc),
        rfl, rfl, rfl⟩

end Sys2Proof.Machine
end

section
/-! SUPPORT. The ledger of the part: what the store, the directory and the fixed tables hold in the sense of R19 and R24.
Every invariant of the store and of the table sizes is a statement about it, and most operations leave it as it is: one lemma
per operation. -/

namespace Sys2Proof.Machine

/-! ### What the ledger holds -/

/-- What a booking holds: its handle, and the blocks of its head, its note and its order (02 section 2.2). -/
structure Holding where
  handle : Handle
  head : Nat
  note : Option Nat
  order : Option Nat

/-- A directory entry: its generation, and what its booking holds when it is live. -/
structure Slot where
  generation : Nat
  holding : Option Holding

/-- The blocks of a series' record. -/
structure SeriesHolding where
  block : Nat
  note : Option Nat

/-- The stack of free blocks with its count, and the count of the held blocks of each kind (R19). -/
structure Stack where
  free : List Nat
  freeCount : Nat
  held : BlockKind → Nat

/-- `sizes` are the lengths of the distance table, the rooms, the kitchens, the reference counts, the channels, the panels and
the ports; `loads` are the lengths of the rows of the load table, kitchen by kitchen. -/
structure Ledger where
  stack : Stack
  slots : List Slot
  fifo : List Nat
  series : List (Option SeriesHolding)
  sizes : List Nat
  loads : List (List Nat)

abbrev Booking.holding (b : Booking) : Holding := ⟨b.handle, b.head, b.note.map Note.block, b.order.map Order.block⟩

def DirEntry.slot (e : DirEntry) : Slot := ⟨e.generation, e.booking.map Booking.holding⟩

abbrev Series.holding (x : Series) : SeriesHolding := ⟨x.block, x.note.map Note.block⟩

def Store.heldOf (st : Store) : BlockKind → Nat
  | .head => st.heldHead
  | .note => st.heldNote
  | .order => st.heldOrder
  | .series => st.heldSeries

def Store.stack (st : Store) : Stack := ⟨st.free, st.freeCount, st.heldOf⟩

def State.ledger (s : State) : Ledger where
  stack := s.store.stack
  slots := s.dir.entries.map DirEntry.slot
  fifo := s.dir.fifo
  series := s.series.list.map (Option.map Series.holding)
  sizes := [s.distance.length, s.rooms.length, s.kitchens.length, s.dir.refs.length, s.bank.channels.length,
    s.panelBus.panels.length, s.panelBus.ports.length]
  loads := s.catering.loads.map (List.map List.length)

variable (s : State)

/-! ### Plain updates -/

/-- A change of one element that a reading of the elements does not see. -/
theorem map_modify_of_keeps {α β : Type} {g : α → β} {f : α → α} (h : ∀ x, g (f x) = g x) (l : List α) (i : Nat) :
    (l.modify i f).map g = l.map g := by
  refine List.ext_getElem? fun j => ?_
  simp only [List.getElem?_map, List.getElem?_modify]
  cases l[j]? with
  | none => rfl
  | some x => by_cases hij : i = j <;> simp [hij, h]

@[simp] theorem ledger_modRoom (r : Nat) (f : Room → Room) : (s.modRoom r f).ledger = s.ledger := by
  simp [State.ledger, State.modRoom]

@[simp] theorem ledger_modKitchen (k : Nat) (f : Kitchen → Kitchen) : (s.modKitchen k f).ledger = s.ledger := by
  simp [State.ledger, State.modKitchen]

@[simp] theorem ledger_modPanel (p : Nat) (f : Panel → Panel) : (s.modPanel p f).ledger = s.ledger := by
  simp [State.ledger, State.modPanel]

@[simp] theorem ledger_modPort (p : Nat) (f : Port → Port) : (s.modPort p f).ledger = s.ledger := by
  simp [State.ledger, State.modPort]

@[simp] theorem ledger_modChannel (c : Nat) (f : Channel → Channel) : (s.modChannel c f).ledger = s.ledger := by
  simp [State.ledger, State.modChannel]

@[simp] theorem ledger_modSeries {f : Series → Series} (h : ∀ x, (f x).holding = x.holding) (i : Nat) :
    (s.modSeries i f).ledger = s.ledger := by
  simp only [State.ledger, State.modSeries]
  rw [map_modify_of_keeps fun o => ?_]
  cases o with
  | none => rfl
  | some x => exact congrArg some (h x)

/-- A change of a booking that leaves its handle and its blocks. -/
@[simp] theorem ledger_modBooking {f : Booking → Booking} (h : ∀ b, (f b).holding = b.holding) (i : Nat) :
    (s.modBooking i f).ledger = s.ledger := by
  simp only [State.ledger, State.modBooking]
  rw [map_modify_of_keeps fun e => ?_]
  cases hb : e.booking with
  | none => simp [DirEntry.slot, hb]
  | some b => simp only [DirEntry.slot, hb, Option.map_some, h b]

@[simp] theorem ledger_modOrder {f : Order → Order} (h : ∀ o, (f o).block = o.block) (i : Nat) :
    (s.modOrder i f).ledger = s.ledger := by
  refine ledger_modBooking s (fun b => ?_) i
  cases ho : b.order with
  | none => simp [Booking.holding, ho]
  | some o => simp [Booking.holding, ho, h o]

/-- A change of the Series Unit that leaves its list. -/
theorem ledger_withSeries {u : SeriesUnit} (h : u.list = s.series.list) :
    ({ s with series := u } : State).ledger = s.ledger := by
  simp [State.ledger, h]

/-- A change of the store that leaves its stack and its counts. -/
theorem ledger_withStore {st : Store} (h : st.stack = s.store.stack) : ({ s with store := st } : State).ledger = s.ledger := by
  simp [State.ledger, h]

/-- A change of the scheduler that leaves the rows of its load table. -/
theorem ledger_withCatering {c : Catering} (h : c.loads = s.catering.loads) :
    ({ s with catering := c } : State).ledger = s.ledger := by
  simp [State.ledger, h]

theorem ledger_withSweep (w : Sweep) : ({ s with sweep := w } : State).ledger = s.ledger := rfl
theorem ledger_withCatchUp (c : Option CatchUp) : ({ s with catchUp := c } : State).ledger = s.ledger := rfl

@[simp] theorem ledger_followAttn : s.followAttn.ledger = s.ledger := rfl
@[simp] theorem ledger_raiseChanged : s.raiseChanged.ledger = s.ledger := rfl
@[simp] theorem ledger_raiseSeries : s.raiseSeries.ledger = s.ledger := rfl
@[simp] theorem ledger_raisePanel : s.raisePanel.ledger = s.ledger := rfl
@[simp] theorem ledger_raiseCatering : s.raiseCatering.ledger = s.ledger := rfl
@[simp] theorem ledger_raiseClock : s.raiseClock.ledger = s.ledger := rfl
@[simp] theorem ledger_reportRoom (r : Nat) : (s.reportRoom r).ledger = s.ledger := rfl
@[simp] theorem ledger_reportList (k : Nat) : (s.reportList k).ledger = s.ledger := rfl
@[simp] theorem ledger_hand (c : Instr) : (s.hand c).ledger = s.ledger := rfl
@[simp] theorem ledger_takeHanded (c : Instr) : (s.takeHanded c).ledger = s.ledger := rfl
@[simp] theorem ledger_enqueue (k : SearchKind) (c : Client) (q : SearchInputs) : (s.enqueue k c q).ledger = s.ledger := rfl
@[simp] theorem ledger_dequeue (id : Nat) : (s.dequeue id).ledger = s.ledger := rfl
@[simp] theorem ledger_raiseMinute (m : Nat) (d : Option Nat) : (s.raiseMinute m d).ledger = s.ledger := rfl
@[simp] theorem ledger_beginTransfer : s.beginTransfer.ledger = s.ledger := rfl

@[simp] theorem ledger_markBooking (i : Nat) : (s.markBooking i).ledger = s.ledger :=
  ledger_modBooking s (f := fun b => { b with mark := true }) (fun _ => rfl) i

@[simp] theorem ledger_markSeries (i : Nat) : (s.markSeries i).ledger = s.ledger :=
  ledger_modSeries s (f := fun x => { x with mark := true }) (fun _ => rfl) i

@[simp] theorem ledger_markPanel (p : Nat) : (s.markPanel p).ledger = s.ledger := ledger_modPanel s p _

@[simp] theorem ledger_putOnTimeline (b : Booking) : (s.putOnTimeline b).ledger = s.ledger := ledger_modRoom s b.room _

@[simp] theorem ledger_takeOffTimeline (r : Nat) (h : Handle) : (s.takeOffTimeline r h).ledger = s.ledger :=
  ledger_modRoom s r _

@[simp] theorem ledger_setService (r : Nat) (st : ServiceState) (c : Option Closure) :
    (s.setService r st c).ledger = s.ledger := ledger_modRoom s r _

@[simp] theorem ledger_modRef (l : Option Nat) (f : Nat → Nat) : (s.modRef l f).ledger = s.ledger := by
  cases l with
  | none => rfl
  | some id => simp [State.ledger, State.modRef]

@[simp] theorem ledger_answer (ref : HostRef) (st : Status) (body : List Field) :
    (s.answer ref st body).ledger = s.ledger := by
  rw [answer_keeps]
  rfl

@[simp] theorem ledger_relist (before : State) : (s.relist before).ledger = s.ledger := by
  refine overAll_keeps State.ledger (fun k t => ?_) s
  split <;> simp

/-- A request that reaches its owner changes the link alone (R170). -/
theorem ledger_takeRequest {t : State} {tag : Byte} {kind : Nat} {cmd : Instr} {ref : HostRef}
    (h : s.takeRequest tag kind cmd = some (t, ref)) : t.ledger = s.ledger := by
  rw [(takeRequest_keeps h).1]
  rfl

/-! ### Orders -/

@[simp] theorem ledger_modLoad (k : Nat) (w : AbsWindow) (f : Nat → Nat) : (s.modLoad k w f).ledger = s.ledger := by
  have hrows (l : List (List Nat)) (d : Nat) : (l.modify d fun row => row.modify w.win f).map List.length = l.map List.length :=
    map_modify_of_keeps (fun _ => List.length_modify ..) l d
  unfold State.modLoad
  split
  · split
    · simp only [State.ledger]
      rw [map_modify_of_keeps fun rows => hrows rows _]
    · rfl
  · rfl

@[simp] theorem ledger_joinDispatch (h : Handle) (k m : Nat) : (s.joinDispatch h k m).ledger = s.ledger :=
  ledger_modKitchen s k _

@[simp] theorem ledger_leaveDispatch (h : Handle) : (s.leaveDispatch h).ledger = s.ledger := by
  simp [State.ledger, State.leaveDispatch]

@[simp] theorem ledger_joinCommit (h : Handle) (m : Nat) : (s.joinCommit h m).ledger = s.ledger := rfl
@[simp] theorem ledger_leaveCommit (h : Handle) : (s.leaveCommit h).ledger = s.ledger := rfl
@[simp] theorem ledger_joinRequests (h : Handle) (m : Nat) : (s.joinRequests h m).ledger = s.ledger := rfl
@[simp] theorem ledger_leaveRequests (h : Handle) : (s.leaveRequests h).ledger = s.ledger := rfl

@[simp] theorem ledger_unload (o : Order) : (s.unload o).ledger = s.ledger := by
  unfold State.unload
  split <;> simp

@[simp] theorem ledger_unplan (h : Handle) : (s.unplan h).ledger = s.ledger := by
  unfold State.unplan
  split <;> simp

@[simp] theorem ledger_setUncounted (h : Handle) (st : OrderState) (c : Option Nat) :
    (s.setUncounted h st c).ledger = s.ledger := by simp [State.setUncounted]

@[simp] theorem ledger_voidOrder (h : Handle) : (s.voidOrder h).ledger = s.ledger := ledger_setUncounted s h _ _

@[simp] theorem ledger_setOrderState (i : Nat) (st : OrderState) : (s.setOrderState i st).ledger = s.ledger := by
  simp [State.setOrderState]

@[simp] theorem ledger_writeContents (i : Nat) (f : OrderForm) : (s.writeContents i f).ledger = s.ledger := by
  simp [State.writeContents]

@[simp] theorem ledger_count (h : Handle) (n : Nat) (a : Accept) : (s.count h n a).ledger = s.ledger := by
  simp [State.count]

@[simp] theorem ledger_makeRequested (b : Booking) : (s.makeRequested b).ledger = s.ledger := by
  simp [State.makeRequested]

@[simp] theorem ledger_cateringFailure (i : Nat) : (s.cateringFailure i).ledger = s.ledger := ledger_markBooking s i

@[simp] theorem ledger_makeUnplaced (now : Nat) (b : Booking) : (s.makeUnplaced now b).ledger = s.ledger := by
  simp [State.makeUnplaced]

theorem ledger_planHost {s t : State} {now : Nat} {b : Booking} {n : Nat} {tight : Bool}
    (h : s.planHost now b n = .ok (t, tight)) : t.ledger = s.ledger := by
  unfold State.planHost at h
  split at h
  · cases h
  · split at h
    · cases h; simp
    · split at h
      · cases h; simp
      · cases h

@[simp] theorem ledger_planPart (now : Nat) (b : Booking) (n : Nat) : (s.planPart now b n).ledger = s.ledger := by
  unfold State.planPart
  split
  · rename_i h
    exact ledger_planHost h
  · simp

@[simp] theorem ledger_strand (i : Nat) (p : Bool) : (s.strand i p).ledger = s.ledger := by
  unfold State.strand
  dsimp only
  split <;> simp

@[simp] theorem ledger_exitOrder (h : Handle) (k : ExitKind) : (s.exitOrder h k).ledger = s.ledger := by
  unfold State.exitOrder
  split
  · rfl
  · split
    case h_4 => split <;> simp
    all_goals simp

@[simp] theorem ledger_commitHead (h : Handle) : (s.commitHead h).ledger = s.ledger := by
  unfold State.commitHead
  split <;> simp

@[simp] theorem ledger_commitDue (m n : Nat) : (s.commitDue m n).ledger = s.ledger := by
  induction n generalizing s with
  | zero => rfl
  | succ n ih =>
    unfold State.commitDue
    split
    · rfl
    · split
      · rw [ih, ledger_commitHead]
      · rfl

@[simp] theorem ledger_commits (m : Nat) : (s.commits m).ledger = s.ledger := ledger_commitDue s m _

/-! ### Channels and bookings -/

@[simp] theorem ledger_freeChannel (c : Nat) : (s.freeChannel c).ledger = s.ledger := ledger_modChannel s c _

@[simp] theorem ledger_dropChannel (b : Booking) (c : Nat) : (s.dropChannel b c).ledger = s.ledger := by
  simp [State.dropChannel]

@[simp] theorem ledger_returnChannel (i : Nat) : (s.returnChannel i).ledger = s.ledger := by
  unfold State.returnChannel
  split
  · rfl
  · split
    · rfl
    · dsimp only
      split <;> simp

@[simp] theorem ledger_startExempt (b : Booking) : (s.startExempt b).ledger = s.ledger := by
  unfold State.startExempt
  split <;> simp

@[simp] theorem ledger_openWindow (i : Nat) : (s.openWindow i).ledger = s.ledger := by
  unfold State.openWindow
  split
  · rfl
  · split
    · rfl
    · split
      · simp
      · exact ledger_startExempt _ _

@[simp] theorem ledger_handleStart (now i : Nat) : (s.handleStart now i).ledger = s.ledger := by
  unfold State.handleStart
  split
  · rfl
  · split
    · rfl
    · split
      · split <;> simp
      · split <;> simp

@[simp] theorem ledger_seriesRelease (id : Nat) : (s.seriesRelease id).ledger = s.ledger := by
  unfold State.seriesRelease
  split
  · rfl
  · dsimp only
    split
    · refine (ledger_withSeries _ rfl).trans ?_
      simp
    · simp

@[simp] theorem ledger_seriesCheckIn (l : Option Nat) : (s.seriesCheckIn l).ledger = s.ledger := by
  cases l with
  | none => rfl
  | some id => simp [State.seriesCheckIn]

@[simp] theorem ledger_leaveActive (i : Nat) (k : ExitKind) : (s.leaveActive i k).ledger = s.ledger := by
  unfold State.leaveActive
  split
  · rfl
  · dsimp only
    split
    · split <;> simp
    · simp

@[simp] theorem ledger_release (i : Nat) : (s.release i).ledger = s.ledger := by
  simp [State.release]

@[simp] theorem ledger_endEarly (i now : Nat) : (s.endEarly i now).ledger = s.ledger := by
  simp [State.endEarly]

@[simp] theorem ledger_cancelOccurrence (i : Nat) : (s.cancelOccurrence i).ledger = s.ledger := by
  simp [State.cancelOccurrence]

@[simp] theorem ledger_displace (i : Nat) : (s.displace i).ledger = s.ledger := by
  simp [State.displace]

@[simp] theorem ledger_endBooking (i : Nat) (f : Attendance → Attendance) : (s.endBooking i f).ledger = s.ledger := by
  simp [State.endBooking]

@[simp] theorem ledger_checkInChannel (b : Booking) : (s.checkInChannel b).ledger = s.ledger := by
  unfold State.checkInChannel
  split
  · rfl
  · dsimp only
    split <;> simp

@[simp] theorem ledger_checkInBooking (b : Booking) : (s.checkInBooking b).ledger = s.ledger := by
  simp [State.checkInBooking]

@[simp] theorem ledger_relocateOrder (now : Nat) (b : Booking) : (s.relocateOrder now b).ledger = s.ledger := by
  unfold State.relocateOrder
  split
  · split <;> simp
  · rfl

@[simp] theorem ledger_relocate (now : Nat) (b : Booking) (r : Nat) : (s.relocate now b r).ledger = s.ledger := by
  unfold State.relocate
  dsimp only
  split <;> simp

@[simp] theorem ledger_replace (b new : Booking) : (s.replace b new).ledger = s.ledger := by
  simp [State.replace]

@[simp] theorem ledger_writeEnd (b : Booking) (m : Nat) : (s.writeEnd b m).ledger = s.ledger := by
  simp [State.writeEnd]

@[simp] theorem ledger_shortenWindow (b : Booking) (m : Nat) : (s.shortenWindow b m).ledger = s.ledger := by
  unfold State.shortenWindow
  split <;> simp

@[simp] theorem ledger_inUseUnknown (b : Booking) : (s.inUseUnknown b).ledger = s.ledger := by
  simp [State.inUseUnknown]

@[simp] theorem ledger_catchUpBooking (m : Nat) (b : Booking) : (s.catchUpBooking m b).ledger = s.ledger := by
  unfold State.catchUpBooking
  dsimp only
  split
  · split
    · rfl
    · split
      · split <;> simp
      · split <;> simp
  · split <;> simp
  · split <;> simp
  all_goals rfl

/-! ### Seconds and minutes -/

@[simp] theorem ledger_nextMinute : s.nextMinute.ledger = s.ledger := by
  unfold State.nextMinute
  split
  · rfl
  · dsimp only; split <;> rfl

@[simp] theorem ledger_countSecond : s.countSecond.ledger = s.ledger := by
  unfold State.countSecond
  dsimp only
  split
  · rfl
  · exact ledger_nextMinute _

@[simp] theorem ledger_holdover : s.holdover.ledger = s.ledger := by
  simp only [State.holdover, ledger_raiseClock, ledger_countSecond]
  rfl

@[simp] theorem ledger_countDown (n : Nat) : (s.countDown n).ledger = s.ledger := by
  simp [State.ledger, State.countDown]

@[simp] theorem ledger_expireWindow (c : Nat) : (s.expireWindow c).ledger = s.ledger := by
  unfold State.expireWindow
  split
  · split <;> simp
  · simp

@[simp] theorem ledger_expireWatch (c : Nat) : (s.expireWatch c).ledger = s.ledger := by
  unfold State.expireWatch
  split
  · split <;> simp
  · simp

@[simp] theorem ledger_expireIfDue (c : Nat) : (s.expireIfDue c).ledger = s.ledger := by
  unfold State.expireIfDue
  split
  · split <;> simp
  · rfl

@[simp] theorem ledger_expireAll : s.expireAll.ledger = s.ledger :=
  overAll_keeps State.ledger (fun c t => ledger_expireIfDue t c) s

@[simp] theorem ledger_bankSecond : s.bankSecond.ledger = s.ledger := by simp [State.bankSecond]

@[simp] theorem ledger_takeSecond : s.takeSecond.ledger = s.ledger := ledger_bankSecond _

@[simp] theorem ledger_startOne (m : Nat) (h : Handle) : (s.startOne m h).ledger = s.ledger := by
  unfold State.startOne
  split
  · rfl
  · split
    · split
      · simp
      · split <;> simp
    · rfl

@[simp] theorem ledger_endOne (m : Nat) (h : Handle) : (s.endOne m h).ledger = s.ledger := by
  unfold State.endOne
  split
  · rfl
  · split
    · split
      · simp
      · split <;> simp
      · rfl
    · rfl

@[simp] theorem ledger_startsAndEnds (m : Nat) : (s.startsAndEnds m).ledger = s.ledger := by
  refine overAll_keeps State.ledger (fun r t => ?_) s
  unfold State.startsAndEndsIn
  dsimp only
  rw [foldl_keeps State.ledger (fun t h => ledger_endOne t m h), foldl_keeps State.ledger (fun t h => ledger_startOne t m h)]

@[simp] theorem ledger_openDue (m r : Nat) (h : Handle) : (s.openDue m r h).ledger = s.ledger := by
  unfold State.openDue
  split
  · rfl
  · split <;> simp

@[simp] theorem ledger_windowOpenings (m : Nat) : (s.windowOpenings m).ledger = s.ledger := by
  refine overAll_keeps State.ledger (fun r t => ?_) s
  split
  · exact foldl_keeps State.ledger (fun t h => ledger_openDue t m r h) _ t
  · rfl

@[simp] theorem ledger_closureTime (m r : Nat) : (s.closureTime m r).ledger = s.ledger := by
  unfold State.closureTime
  dsimp only
  split
  · split
    · rfl
    · split
      · simp
      · split <;> simp
  · rfl

@[simp] theorem ledger_resumeSweep : s.resumeSweep.ledger = s.ledger := by
  unfold State.resumeSweep
  split
  · rfl
  · split
    · rfl
    · exact ledger_setService s _ _ _

@[simp] theorem ledger_closureTimes (m : Nat) : (s.closureTimes m).ledger = s.ledger := by
  rw [State.closureTimes, ledger_resumeSweep]
  exact overAll_keeps State.ledger (fun r t => ledger_closureTime t m r) s

theorem ledger_stepped {f : State → State} (h : ∀ u, (f u).ledger = u.ledger) : (s.stepped f).ledger = s.ledger := by
  rw [State.stepped, ledger_relist, h]

theorem ledger_takeSeconds (n : Nat) : (State.takeSeconds n s).ledger = s.ledger := by
  induction n generalizing s with
  | zero => rfl
  | succ n ih => rw [State.takeSeconds, ih, ledger_stepped s ledger_bankSecond]

@[simp] theorem ledger_takeOwed : s.takeOwed.ledger = s.ledger := by
  have fold {f : Nat → State → State} (h : ∀ m u, (f m u).ledger = u.ledger) (l : List Nat) (u : State) :
      (l.foldl (fun t m => t.stepped (f m)) u).ledger = u.ledger :=
    foldl_keeps State.ledger (fun t m => ledger_stepped t (h m)) l u
  unfold State.takeOwed
  rw [fold fun m u => ledger_closureTimes u m, fold fun m u => ledger_commits u m, fold fun m u => ledger_windowOpenings u m,
    fold fun m u => ledger_startsAndEnds u m, ledger_takeSeconds]
  rfl

@[simp] theorem ledger_trimForward (n : Nat) : (State.trimForward n s).ledger = s.ledger := by
  induction n generalizing s with
  | zero => rfl
  | succ n ih => rw [State.trimForward, ih, State.trimForwardStep, ledger_takeOwed,
      ledger_stepped s fun u => by simp [State.trimMinute]]

@[simp] theorem ledger_trimBack (n : Nat) : (s.trimBack n).ledger = s.ledger := by simp [State.ledger, State.trimBack]

@[simp] theorem ledger_trim (n : Int) : (s.trim n).ledger = s.ledger := by
  unfold State.trim
  dsimp only
  rw [ledger_raiseClock]
  split
  · simp
  · exact (ledger_trimBack _ _).trans (ledger_takeOwed s)

@[simp] theorem ledger_startClock : s.startClock.ledger = s.ledger := by
  unfold State.startClock
  dsimp only
  split <;> rfl

end Sys2Proof.Machine
end

section
/-! SUPPORT. The ledger through the operations of the panel buses, the sweep, the walks, the readings and the resets, which
leave it as it is. -/

namespace Sys2Proof.Machine

variable (s : State)

/-! ### The panel buses -/

@[simp] theorem ledger_rebuildView (p : Nat) : (s.rebuildView p).ledger = s.ledger := by
  unfold State.rebuildView
  split <;> simp

@[simp] theorem ledger_buildList (k p : Nat) : (s.buildList k p).ledger = s.ledger := ledger_modPanel s p _

@[simp] theorem ledger_bindPanel (p : Nat) (k : PanelKind) (t : Nat) : (s.bindPanel p k t).ledger = s.ledger := by
  cases k <;> simp [State.bindPanel]

@[simp] theorem ledger_emptySlot (p : Nat) : (s.emptySlot p).ledger = s.ledger := by
  unfold State.emptySlot
  split <;> simp

@[simp] theorem ledger_endTransaction (p : Nat) : (s.endTransaction p).ledger = s.ledger := ledger_modPort s p _

@[simp] theorem ledger_decideFollowUp (port p : Nat) : (s.decideFollowUp port p).ledger = s.ledger := by
  unfold State.decideFollowUp
  dsimp only
  split <;> simp

@[simp] theorem ledger_served (p : Nat) : (s.served p).ledger = s.ledger := by
  unfold State.served
  dsimp only
  split
  · split <;> simp
  · rfl

@[simp] theorem ledger_answerPanel (p code : Nat) (a : PanelAnswer) : (s.answerPanel p code a).ledger = s.ledger := by
  simp [State.answerPanel]

@[simp] theorem ledger_reportUnavailable (p : Nat) : (s.reportUnavailable p).ledger = s.ledger := by
  unfold State.reportUnavailable
  split <;> simp

@[simp] theorem ledger_reportAvailable (p : Nat) : (s.reportAvailable p).ledger = s.ledger := by
  unfold State.reportAvailable
  split <;> simp

@[simp] theorem ledger_releaseBinding (p : Nat) : (s.releaseBinding p).ledger = s.ledger := by
  unfold State.releaseBinding
  split <;> simp

@[simp] theorem ledger_makeUnbound (p : Nat) : (s.makeUnbound p).ledger = s.ledger := by simp [State.makeUnbound]

@[simp] theorem ledger_makeBarred (p : Nat) : (s.makeBarred p).ledger = s.ledger := by
  unfold State.makeBarred
  dsimp only
  split <;> simp

@[simp] theorem ledger_makeHold (p : Nat) (k : HoldKind) : (s.makeHold p k).ledger = s.ledger := by
  cases k <;> simp [State.makeHold]

@[simp] theorem ledger_holdPanel (p : Nat) (k : HoldKind) (ref : HostRef) : (s.holdPanel p k ref).ledger = s.ledger :=
  ledger_modPanel s p _

@[simp] theorem ledger_takeBattery (p n : Nat) : (s.takeBattery p n).ledger = s.ledger := by
  unfold State.takeBattery
  dsimp only
  split
  · simp
  · split <;> simp

@[simp] theorem ledger_makeOnline (p : Nat) : (s.makeOnline p).ledger = s.ledger := by
  unfold State.makeOnline
  dsimp only
  split <;> simp

@[simp] theorem ledger_handReading (p : Nat) (r : PanelReply) : (s.handReading p r).ledger = s.ledger := by
  unfold State.handReading
  split
  · split
    · simp
    · split <;> simp
  · rfl

@[simp] theorem ledger_takeReport (port p : Nat) (r : PanelReply) : (s.takeReport port p r).ledger = s.ledger := by
  unfold State.takeReport
  dsimp only
  split <;> simp

@[simp] theorem ledger_takePanelRequest (p : Nat) (r : PanelReply) : (s.takePanelRequest p r).1.ledger = s.ledger := by
  unfold State.takePanelRequest
  dsimp only
  split
  · rfl
  · split <;> simp

@[simp] theorem ledger_miss (p : Nat) : (s.miss p).ledger = s.ledger := by
  unfold State.miss
  dsimp only
  split
  · split <;> simp
  · simp
  · split <;> simp
  all_goals simp

/-! ### Readings and reports of panels -/

@[simp] theorem ledger_checkIn (src : PanelRef) (badge : Id32) (h : Option Handle) :
    (s.checkIn src badge h).1.ledger = s.ledger := by
  unfold State.checkIn plain
  repeat' split
  all_goals simp

@[simp] theorem ledger_autoCheckIn (r : Nat) (o : Bool) : (s.autoCheckIn r o).ledger = s.ledger := by
  unfold State.autoCheckIn
  split
  · split <;> simp
  · rfl

@[simp] theorem ledger_takeReading (r : Nat) (o : Bool) (n : Nat) : (s.takeReading r o n).ledger = s.ledger := by
  unfold State.takeReading
  split
  · rfl
  · dsimp only
    split
    · split
      · simp
      · split
        · simp
        · split <;> simp
    · rfl

@[simp] theorem ledger_suspendIn (r c : Nat) : (s.suspendIn r c).ledger = s.ledger := by
  unfold State.suspendIn
  split <;> simp

@[simp] theorem ledger_resumeIn (r c : Nat) : (s.resumeIn r c).ledger = s.ledger := by
  unfold State.resumeIn
  split
  · rfl
  · split
    · rfl
    · split <;> simp

@[simp] theorem ledger_extendBooking (b : Booking) (n : Nat) : (s.extendBooking b n).1.ledger = s.ledger := by
  unfold State.extendBooking
  dsimp only
  split <;> simp

/-! ### The sweep -/

@[simp] theorem ledger_displaceCurrent (h : Handle) : (s.displaceCurrent h).ledger = s.ledger := by
  unfold State.displaceCurrent
  dsimp only
  split
  · exact (ledger_withSweep _ _).trans (ledger_displace s h.idx)
  · rfl

@[simp] theorem ledger_endSweep (c : Closure) : (s.endSweep c).ledger = s.ledger := by
  have h (st : ServiceState) (x : Option Closure) (w : Sweep) :
      ({ s.setService s.sweep.room st x with sweep := w } : State).ledger = s.ledger :=
    (ledger_withSweep _ w).trans (ledger_setService s _ st x)
  unfold State.endSweep
  dsimp only
  split
  · exact (ledger_answer _ _ _ _).trans (h _ _ _)
  · exact h _ _ _

@[simp] theorem ledger_sweepStep : s.sweepStep.ledger = s.ledger := by
  unfold State.sweepStep
  split
  · rfl
  · split
    · simp
    · split
      · exact ledger_displaceCurrent _ _
      · rfl

@[simp] theorem ledger_askRelocation (h : Handle) (r : Nat) : (s.askRelocation h r).1.ledger = s.ledger := by
  unfold State.askRelocation
  split
  · rfl
  · dsimp only
    split <;> simp

@[simp] theorem ledger_settleSweep (e : QueueEntry) (x : Search) (h : Handle) : (s.settleSweep e x h).1.ledger = s.ledger := by
  unfold State.settleSweep
  split <;> simp

@[simp] theorem ledger_takeReportOf (h : Handle) (r : SweepReport) : (s.takeReportOf h r).ledger = s.ledger := by
  unfold State.takeReportOf
  dsimp only
  split
  case h_2 | h_3 => exact ledger_displaceCurrent _ h
  all_goals rfl

@[simp] theorem ledger_admitSearch (k : SearchKind) (f : PlaceForm) (ok : Bool) (covers : Option Nat) (book : Option BookFields)
    (ref : HostRef) : (leftLater (s.admitSearch k f ok covers book ref)).ledger = s.ledger := by
  unfold State.admitSearch
  repeat' split
  all_goals rfl

@[simp] theorem ledger_beginSweep (f : CloseForm) (c : Option Booking) (ref : HostRef) :
    (s.beginSweep f c ref).ledger = s.ledger := ledger_setService s f.room _ _

@[simp] theorem ledger_closeRoom (f : CloseForm) (ref : HostRef) : (leftLater (s.closeRoom f ref)).ledger = s.ledger := by
  unfold State.closeRoom
  repeat' split
  all_goals simp [leftLater]

/-! ### Series and walks -/

@[simp] theorem ledger_skipOccurrence (id : Nat) : (s.skipOccurrence id).ledger = s.ledger := by
  simp [State.skipOccurrence]

@[simp] theorem ledger_passVisit (id i : Nat) : (s.passVisit id i).ledger = s.ledger := by
  unfold State.passVisit
  split
  · split <;> simp
  · rfl

@[simp] theorem ledger_beginPass : s.beginPass.ledger = s.ledger := by
  unfold State.beginPass
  split <;> rfl

@[simp] theorem ledger_passStep (p : CancelPass) : (s.passStep p).ledger = s.ledger := by
  unfold State.passStep
  dsimp only
  split
  · refine (ledger_withSeries _ rfl).trans ?_
    simp
  · refine (ledger_beginPass _).trans ((ledger_withSeries _ rfl).trans ?_)
    simp

@[simp] theorem ledger_beginRetirement (d : Nat) : (s.beginRetirement d).ledger = s.ledger := rfl
@[simp] theorem ledger_beginMaterialisation (d : Nat) : (s.beginMaterialisation d).ledger = s.ledger := rfl

@[simp] theorem ledger_retirementDay (d : Nat) : (s.retirementDay d).ledger = s.ledger := by
  unfold State.retirementDay
  split <;> rfl

@[simp] theorem ledger_materialisationDay (d : Nat) : (s.materialisationDay d).ledger = s.ledger := by
  unfold State.materialisationDay
  split <;> rfl

@[simp] theorem ledger_catchUpDone : s.catchUpDone.ledger = s.ledger := by
  unfold State.catchUpDone
  exact foldl_keeps State.ledger (fun t (h : HeldMinute) => ledger_raiseMinute t h.minute h.day) _ _

@[simp] theorem ledger_afterDayWalk : s.afterDayWalk.ledger = s.ledger := by
  unfold State.afterDayWalk
  split
  · rfl
  · split
    · rfl
    · dsimp only
      split
      · simp
      · rfl

@[simp] theorem ledger_endRetirement (d : Nat) : (s.endRetirement d).ledger = s.ledger := by
  unfold State.endRetirement
  dsimp only
  split
  · rfl
  · exact ledger_afterDayWalk _

@[simp] theorem ledger_endMaterialisation (d : Nat) : (s.endMaterialisation d).ledger = s.ledger := by
  unfold State.endMaterialisation
  dsimp only
  split
  · rfl
  · exact ledger_afterDayWalk _

@[simp] theorem ledger_planHead (b : Booking) : (s.planHead b).ledger = s.ledger := by
  unfold State.planHead
  split <;> simp

@[simp] theorem ledger_catchUpClosure (m r : Nat) (c : Closure) : (s.catchUpClosure m r c).ledger = s.ledger := by
  unfold State.catchUpClosure
  split
  · simp
  · split
    · split <;> simp
    · simp

/-! ### Requests on orders and on the tables -/

@[simp] theorem ledger_replan (b : Booking) (f : OrderForm) : (s.replan b f).state.ledger = s.ledger := by
  unfold State.replan
  split
  · rfl
  · dsimp only
    split
    · rfl
    · rename_i hp
      simp [ledger_planHost hp]

@[simp] theorem ledger_changeOrder (h : Handle) (f : OrderForm) : (s.changeOrder h f).state.ledger = s.ledger := by
  unfold State.changeOrder
  repeat' split
  all_goals simp

@[simp] theorem ledger_storeRoom (r : Nat) (x : Room) : (s.storeRoom r x).ledger = s.ledger := ledger_modRoom s r _

@[simp] theorem ledger_setRoom (f : RoomForm) : (s.setRoom f).state.ledger = s.ledger := by
  unfold State.setRoom
  dsimp only
  repeat' split
  all_goals simp

@[simp] theorem ledger_reopenRoom (r : Nat) : (s.reopenRoom r).state.ledger = s.ledger := by
  unfold State.reopenRoom
  repeat' split
  all_goals simp

@[simp] theorem ledger_nextBooking : s.nextBooking.state.ledger = s.ledger := by
  unfold State.nextBooking
  split
  · simp
  · rfl

@[simp] theorem ledger_nextSeries : s.nextSeries.state.ledger = s.ledger := by
  unfold State.nextSeries
  split
  · simp
  · rfl

@[simp] theorem ledger_nextPanel : s.nextPanel.state.ledger = s.ledger := by
  unfold State.nextPanel
  split
  · simp
  · rfl

@[simp] theorem ledger_clearCounts : s.clearCounts.ledger = s.ledger := by simp [State.ledger, State.clearCounts]

/-! ### Transfers -/

@[simp] theorem ledger_deliver (bytes : List Byte) : (s.deliver bytes).ledger = s.ledger := by
  unfold State.deliver
  split
  · split <;> rfl
  · rfl

@[simp] theorem ledger_dropRequests : s.dropRequests.ledger = s.ledger := by simp [State.ledger, State.dropRequests]

@[simp] theorem ledger_takeFrame (f : Frame) (rest : List Frame) : (s.takeFrame f rest).ledger = s.ledger := by
  unfold State.takeFrame
  dsimp only
  split
  · rfl
  · exact ledger_answer _ _ _ _

/-! ### The warm reset -/

@[simp] theorem ledger_rebuildPanel (p : Nat) : (s.rebuildPanel p).ledger = s.ledger := by
  unfold State.rebuildPanel
  split <;> simp

@[simp] theorem ledger_makeHolds : s.makeHolds.ledger = s.ledger :=
  overAll_keeps State.ledger (fun p t => by split <;> simp) s

@[simp] theorem ledger_abandonSweep : s.abandonSweep.ledger = s.ledger := by
  unfold State.abandonSweep
  split
  · exact ledger_modRoom s _ _
  · rfl

@[simp] theorem ledger_abandonWalks : s.abandonWalks.ledger = s.ledger := rfl

@[simp] theorem ledger_dropTimers : s.dropTimers.ledger = s.ledger := by
  have h (e : DirEntry) : DirEntry.slot { e with booking := e.booking.map fun b => { b with timer := none } } = e.slot := by
    obtain ⟨g, b⟩ := e
    cases b <;> rfl
  simp [State.ledger, State.dropTimers, h]

end Sys2Proof.Machine
end

section
/-! SUPPORT. The invariants of the store and the tables as statements about the ledger, and what keeps them: blocks taken and
given back (R19, R20, R21), an entry entered, vacated or revised (R24, R26, R27), a series stored or retired (R30, R58). -/

namespace Sys2Proof.Machine

/-! ### Claims: the blocks that records hold, each under its kind -/

def Holding.claims (x : Holding) : List (BlockKind × Nat) :=
  (.head, x.head) :: (x.note.toList.map (Prod.mk .note) ++ x.order.toList.map (Prod.mk .order))

def Slot.claims (e : Slot) : List (BlockKind × Nat) := e.holding.elim [] Holding.claims

def SeriesHolding.claims (x : SeriesHolding) : List (BlockKind × Nat) := (.series, x.block) :: x.note.toList.map (Prod.mk .note)

def Ledger.claims (L : Ledger) : List (BlockKind × Nat) :=
  L.slots.flatMap Slot.claims ++ L.series.flatMap fun o => o.elim [] SeriesHolding.claims

def Stack.take (st : Stack) (k : BlockKind) : Stack :=
  ⟨st.free.drop 1, st.freeCount - 1, fun j => if j = k then st.held j + 1 else st.held j⟩

def Stack.give (st : Stack) (p : BlockKind × Nat) : Stack :=
  ⟨p.2 :: st.free, st.freeCount + 1, fun j => if j = p.1 then st.held j - 1 else st.held j⟩

theorem takeOne_stack (st : Store) (k : BlockKind) : (st.takeOne k).stack = st.stack.take k := by
  cases k <;> refine congrArg (Stack.mk _ _) (funext fun j => ?_) <;> cases j <;> rfl

theorem giveOne_stack (st : Store) (k : BlockKind) (b : Nat) : (st.giveOne k b).stack = st.stack.give (k, b) := by
  cases k <;> refine congrArg (Stack.mk _ _) (funext fun j => ?_) <;> cases j <;> rfl

theorem foldl_takeOne_stack (ks : List BlockKind) (st : Store) :
    (ks.foldl Store.takeOne st).stack = ks.foldl Stack.take st.stack := by
  induction ks generalizing st with
  | nil => rfl
  | cons k ks ih => rw [List.foldl_cons, List.foldl_cons, ih, takeOne_stack]

/-- The stack and the claims against it cover the part's blocks: every block stands on the stack or in one claim, once, and
the counts are right (R19). -/
structure Balanced (st : Stack) (claims : List (BlockKind × Nat)) : Prop where
  counted : st.freeCount = st.free.length
  held : ∀ k, st.held k = (claims.map Prod.fst).count k
  covers : (st.free ++ claims.map Prod.snd).Perm (List.range Config.blocks)

variable {st : Stack} {l l' : List (BlockKind × Nat)}

theorem Balanced.perm (h : Balanced st l) (hp : l.Perm l') : Balanced st l' where
  counted := h.counted
  held k := (h.held k).trans ((hp.map _).count_eq k)
  covers := ((hp.map Prod.snd).symm.append_left st.free).trans h.covers

/-- A block taken from the stack is claimed (R19). -/
theorem Balanced.take {b : Nat} {rest : List Nat} (h : Balanced st l) (hf : st.free = b :: rest) (k : BlockKind) :
    Balanced (st.take k) ((k, b) :: l) where
  counted := by simp [Stack.take, h.counted, hf]
  held j := by
    simp only [Stack.take, List.map_cons, List.count_cons, h.held, beq_iff_eq]
    by_cases hj : j = k
    · simp [hj]
    · simp [hj, Ne.symm hj]
  covers := by
    have hc := h.covers
    rw [hf] at hc
    simpa [Stack.take, hf] using List.perm_middle.trans hc

/-- Blocks taken for a list of kinds (R20). -/
theorem Balanced.takeAll (ks : List BlockKind) (h : Balanced st l) (hn : ks.length ≤ st.free.length) :
    Balanced (ks.foldl Stack.take st) (ks.zip st.free ++ l) := by
  induction ks generalizing st l with
  | nil => exact h
  | cons k ks ih =>
    cases hf : st.free with
    | nil => simp [hf] at hn
    | cons b rest =>
      have hrest : (st.take k).free = rest := by simp [Stack.take, hf]
      have ht := ih (h.take hf k) (by simpa [hrest, hf] using hn)
      rw [hrest] at ht
      exact ht.perm List.perm_middle

/-- A claimed block goes back on the stack (R19, R21). -/
theorem Balanced.give {p : BlockKind × Nat} (h : Balanced st (p :: l)) : Balanced (st.give p) l where
  counted := by simp [Stack.give, h.counted]
  held j := by
    have hj := h.held j
    simp only [List.map_cons, List.count_cons, beq_iff_eq] at hj
    by_cases hjp : j = p.1
    · subst hjp
      simp only [Stack.give, hj]
      simp
    · simp [Stack.give, hj, hjp, Ne.symm hjp]
  covers := by
    refine List.Perm.trans ?_ h.covers
    simpa [Stack.give] using List.perm_middle.symm

theorem Balanced.giveAll (ps : List (BlockKind × Nat)) (h : Balanced st (ps ++ l)) : Balanced (ps.foldl Stack.give st) l := by
  induction ps generalizing st with
  | nil => exact h
  | cons p ps ih => exact ih h.give

/-! ### The invariants -/

def Ledger.slot (L : Ledger) (i : Nat) : Slot := L.slots.getD i ⟨0, none⟩

def Ledger.stackCounted (L : Ledger) : Prop := L.stack.freeCount = L.stack.free.length

/-- The sizes of chapters 1, 2, 4, 6, 7 and 9. -/
structure Ledger.Shaped (L : Ledger) : Prop where
  sizes : L.sizes = [Config.buildings, Config.rooms, Config.kitchens, Config.seriesIds, Config.channels, Config.panels,
    Config.ports]
  slots : L.slots.length = Config.handles
  series : L.series.length = Config.seriesIds
  loads : L.loads = List.replicate Config.kitchens (List.replicate Config.dayRows Config.windows)

def Ledger.handlesAgree (L : Ledger) : Prop := ∀ i x, (L.slot i).holding = some x → x.handle = ⟨i, (L.slot i).generation⟩

def Ledger.fifoRight (L : Ledger) : Prop :=
  L.fifo.Nodup ∧ ∀ i, i ∈ L.fifo ↔ i < Config.handles ∧ (L.slot i).holding = none

def Ledger.balanced (L : Ledger) : Prop := Balanced L.stack L.claims

/-- From `L` to `M` the invariants of the store, the directory and the tables are kept. -/
structure Ledger.Keeps (L M : Ledger) : Prop where
  counted : L.stackCounted → M.stackCounted
  shaped : L.Shaped → M.Shaped
  handles : L.handlesAgree → M.handlesAgree
  fifo : L.Shaped → L.handlesAgree → L.fifoRight → M.fifoRight
  balanced : L.Shaped → L.handlesAgree → L.fifoRight → L.balanced → M.balanced

variable {L M N : Ledger}

theorem Ledger.Keeps.refl (L : Ledger) : L.Keeps L := ⟨id, id, id, fun _ _ => id, fun _ _ _ => id⟩

theorem Ledger.Keeps.trans (h : L.Keeps M) (h' : M.Keeps N) : L.Keeps N where
  counted hc := h'.counted (h.counted hc)
  shaped hs := h'.shaped (h.shaped hs)
  handles ha := h'.handles (h.handles ha)
  fifo hs ha hf := h'.fifo (h.shaped hs) (h.handles ha) (h.fifo hs ha hf)
  balanced hs ha hf hb := h'.balanced (h.shaped hs) (h.handles ha) (h.fifo hs ha hf) (h.balanced hs ha hf hb)

/-- A change of the table sizes that leaves right ones right. -/
theorem Ledger.keeps_of_sizes (hst : M.stack = L.stack) (hsl : M.slots = L.slots) (hf : M.fifo = L.fifo)
    (hse : M.series = L.series) (hs : L.Shaped → M.Shaped) : L.Keeps M := by
  obtain ⟨st, sl, f, se, sz, ld⟩ := M
  cases hst; cases hsl; cases hf; cases hse
  exact ⟨id, hs, id, fun _ _ => id, fun _ _ _ => id⟩

/-! ### One entry or one series changes -/

/-- The claims of a table are those of one entry and those of the others. -/
theorem flatMap_modify_perm {α β : Type} (g : α → List β) {l : List α} {i : Nat} (hi : i < l.length) :
    ∃ rest : List β, (l.flatMap g).Perm (g l[i] ++ rest) ∧ ∀ f, ((l.modify i f).flatMap g).Perm (g (f l[i]) ++ rest) := by
  refine ⟨(l.take i).flatMap g ++ (l.drop (i + 1)).flatMap g, ?_, fun f => ?_⟩
  · have h : l = l.take i ++ l[i] :: l.drop (i + 1) := by simp
    calc (l.flatMap g).Perm ((l.take i).flatMap g ++ (g l[i] ++ (l.drop (i + 1)).flatMap g)) := by
          conv_lhs => rw [h]
          rw [List.flatMap_append, List.flatMap_cons]
      _ |>.Perm (g l[i] ++ ((l.take i).flatMap g ++ (l.drop (i + 1)).flatMap g)) := List.perm_append_comm_assoc ..
  · rw [List.modify_eq_take_cons_drop hi, List.flatMap_append, List.flatMap_cons]
    exact List.perm_append_comm_assoc ..

/-- The claims before and after a change of one entry: that entry's own, and the others. -/
theorem Ledger.claims_modifySlot (L : Ledger) {i : Nat} (hi : i < L.slots.length) :
    ∃ rest, L.claims.Perm ((L.slot i).claims ++ rest) ∧ ∀ (f : Slot → Slot) (st : Stack) (fifo : List Nat),
      ({ L with stack := st, fifo := fifo, slots := L.slots.modify i f } : Ledger).claims.Perm
        ((f (L.slot i)).claims ++ rest) := by
  obtain ⟨rest, hL, hM⟩ := flatMap_modify_perm Slot.claims hi
  have hslot : L.slots[i] = L.slot i := by simp [Ledger.slot, hi]
  rw [hslot] at hL
  refine ⟨rest ++ L.series.flatMap fun o => o.elim [] SeriesHolding.claims, ?_, fun f st fifo => ?_⟩
  · rw [← List.append_assoc]
    exact hL.append_right _
  · rw [← List.append_assoc, ← hslot]
    exact (hM f).append_right _

/-- The claims before and after a change of one series. -/
theorem Ledger.claims_setSeries (L : Ledger) {id : Nat} {o : Option SeriesHolding} (ho : L.series[id]? = some o) :
    ∃ rest, L.claims.Perm (o.elim [] SeriesHolding.claims ++ rest) ∧ ∀ (o' : Option SeriesHolding) (st : Stack),
      ({ L with stack := st, series := L.series.set id o' } : Ledger).claims.Perm
        (o'.elim [] SeriesHolding.claims ++ rest) := by
  obtain ⟨hid, rfl⟩ := List.getElem?_eq_some_iff.mp ho
  obtain ⟨rest, hL, hM⟩ := flatMap_modify_perm (fun o : Option SeriesHolding => o.elim [] SeriesHolding.claims) hid
  refine ⟨L.slots.flatMap Slot.claims ++ rest, ?_, fun o' st => ?_⟩
  · exact (hL.append_left _).trans (List.perm_append_comm_assoc ..)
  · rw [Ledger.claims, List.set_eq_modify]
    exact ((hM fun _ => o').append_left _).trans (List.perm_append_comm_assoc ..)

theorem foldl_take_counted (ks : List BlockKind) {st : Stack} (h : st.freeCount = st.free.length) :
    (ks.foldl Stack.take st).freeCount = (ks.foldl Stack.take st).free.length := by
  induction ks generalizing st with
  | nil => exact h
  | cons k ks ih => exact ih (by simp [Stack.take, h])

theorem foldl_give_counted (ps : List (BlockKind × Nat)) {st : Stack} (h : st.freeCount = st.free.length) :
    (ps.foldl Stack.give st).freeCount = (ps.foldl Stack.give st).free.length := by
  induction ps generalizing st with
  | nil => exact h
  | cons p ps ih => exact ih (by simp [Stack.give, h])

theorem Ledger.slot_modify {f : Slot → Slot} {i : Nat} (hs : M.slots = L.slots.modify i f) (j : Nat) :
    M.slot j = if i = j ∧ j < L.slots.length then f (L.slot j) else L.slot j := by
  rw [Ledger.slot, hs, getD_modify]
  rfl

/-- A live entry lies in the directory. -/
theorem Ledger.lt_of_live {i : Nat} {x : Holding} (h : (L.slot i).holding = some x) : i < L.slots.length := by
  by_contra hi
  simp [Ledger.slot, Nat.le_of_not_lt hi] at h

/-- An entry is entered: the free index at the head of the FIFO becomes live under its handle, with blocks taken from the
stack (R20, R24). -/
theorem Ledger.keeps_enter {i : Nat} {rest : List Nat} {x : Holding} {ks : List BlockKind} (hf : L.fifo = i :: rest)
    (hx : x.handle.idx = i) (hn : ks.length ≤ L.stack.freeCount)
    (hc : ks.length ≤ L.stack.free.length → x.claims = ks.zip L.stack.free) :
    L.Keeps { L with stack := ks.foldl Stack.take L.stack, fifo := rest
                     slots := L.slots.modify i fun _ => ⟨x.handle.gen, some x⟩ } where
  counted := foldl_take_counted ks
  shaped h := ⟨h.sizes, by simp [h.slots], h.series, h.loads⟩
  handles ha j y hy := by
    rw [Ledger.slot_modify rfl] at hy ⊢
    split
    · rename_i hj
      simp only [if_pos hj, Option.some.injEq] at hy
      rw [← hy, ← hj.1, ← hx]
    · rename_i hj
      simp only [if_neg hj] at hy
      exact ha j y hy
  fifo hs _ hr := by
    obtain ⟨hnodup, hmem⟩ := hr
    rw [hf] at hnodup hmem
    refine ⟨(List.nodup_cons.mp hnodup).2, fun j => ?_⟩
    have hj := hmem j
    have hi : i ∉ rest := (List.nodup_cons.mp hnodup).1
    rw [Ledger.slot_modify rfl, hs.slots]
    by_cases hij : i = j
    · subst hij
      by_cases hlt : i < Config.handles <;> simp [hi, hlt]
    · simp only [hij, false_and, if_false]
      rw [← hj, List.mem_cons]
      simp [Ne.symm hij]
  balanced hs _ hr hb := by
    have hfree := (hr.2 i).mp (by simp [hf])
    obtain ⟨others, hL, hM⟩ := L.claims_modifySlot (hs.slots ▸ hfree.1)
    have hnil : (L.slot i).claims = [] := by simp [Slot.claims, hfree.2]
    rw [hnil] at hL
    have hlen : ks.length ≤ L.stack.free.length := hb.counted ▸ hn
    refine ((hb.perm hL).takeAll ks hlen).perm ?_
    rw [← hc hlen]
    exact (hM (fun _ => ⟨x.handle.gen, some x⟩) _ _).symm

/-- An entry is vacated: its blocks go back, and its index joins the FIFO (R26, R27). -/
theorem Ledger.keeps_vacate {i : Nat} {x : Holding} {g : Nat → Nat} {ps : List (BlockKind × Nat)} {fifo : List Nat}
    (hx : L.handlesAgree → (L.slot i).holding = some x) (hf : fifo.Perm (i :: L.fifo)) (hp : ps.Perm x.claims) :
    L.Keeps { L with stack := ps.foldl Stack.give L.stack, fifo := fifo
                     slots := L.slots.modify i fun e => ⟨g e.generation, none⟩ } where
  counted := foldl_give_counted ps
  shaped h := ⟨h.sizes, by simp [h.slots], h.series, h.loads⟩
  handles ha j y hy := by
    rw [Ledger.slot_modify rfl] at hy ⊢
    split
    · rename_i hj
      simp [if_pos hj] at hy
    · rename_i hj
      simp only [if_neg hj] at hy
      exact ha j y hy
  fifo hs ha hr := by
    obtain ⟨hnodup, hmem⟩ := hr
    have hlive := hx ha
    have hi : i ∉ L.fifo := fun h => by simp [((hmem i).mp h).2] at hlive
    refine ⟨hf.nodup_iff.mpr (List.nodup_cons.mpr ⟨hi, hnodup⟩), fun j => ?_⟩
    rw [Ledger.slot_modify rfl, hf.mem_iff, List.mem_cons, hmem]
    have hlt : i < Config.handles := hs.slots ▸ Ledger.lt_of_live hlive
    by_cases hij : i = j
    · subst hij
      simp [hlt, hs.slots]
    · simp [hij, Ne.symm hij]
  balanced hs ha hr hb := by
    have hlive := hx ha
    obtain ⟨others, hL, hM⟩ := L.claims_modifySlot (Ledger.lt_of_live hlive)
    have hold : (L.slot i).claims = x.claims := by simp [Slot.claims, hlive]
    rw [hold] at hL
    refine (Balanced.giveAll ps (hb.perm (hL.trans (hp.symm.append_right _)))).perm ?_
    exact (hM (fun e => ⟨g e.generation, none⟩) _ _).symm

/-- An entry is revised: its booking keeps its handle, and its blocks change with the stack (R44, R140). -/
theorem Ledger.keeps_revise {i : Nat} {f : Holding → Holding} {st : Stack} (hf : ∀ x, (f x).handle = x.handle)
    (hcount : L.stack.freeCount = L.stack.free.length → st.freeCount = st.free.length)
    (hbal : L.handlesAgree → ∀ rest, Balanced L.stack ((L.slot i).claims ++ rest) →
      Balanced st (Slot.claims ⟨(L.slot i).generation, (L.slot i).holding.map f⟩ ++ rest))
    (hi : L.handlesAgree → i < L.slots.length) :
    L.Keeps { L with stack := st, slots := L.slots.modify i fun e => { e with holding := e.holding.map f } } where
  counted := hcount
  shaped h := ⟨h.sizes, by simp [h.slots], h.series, h.loads⟩
  handles ha j y hy := by
    rw [Ledger.slot_modify rfl] at hy ⊢
    split
    · rename_i hj
      simp only [if_pos hj, Option.map_eq_some_iff] at hy
      obtain ⟨x, hx, rfl⟩ := hy
      rw [hf]
      exact ha j x hx
    · rename_i hj
      simp only [if_neg hj] at hy
      exact ha j y hy
  fifo hs _ hr := by
    refine ⟨hr.1, fun j => (hr.2 j).trans ?_⟩
    rw [L.slot_modify (M := { L with
      stack := st, slots := L.slots.modify i fun e => { e with holding := e.holding.map f } }) rfl]
    split <;> simp
  balanced _ ha _ hb := by
    obtain ⟨others, hL, hM⟩ := L.claims_modifySlot (hi ha)
    exact (hbal ha others (hb.perm hL)).perm
      (hM (fun e => { e with holding := e.holding.map f }) _ _).symm

/-- A free series id is stored, with blocks taken from the stack (R56, R58). -/
theorem Ledger.keeps_storeSeries {id : Nat} {x : SeriesHolding} {ks : List BlockKind} (ho : L.series[id]? = some none)
    (hn : ks.length ≤ L.stack.freeCount) (hc : ks.length ≤ L.stack.free.length → x.claims = ks.zip L.stack.free) :
    L.Keeps { L with stack := ks.foldl Stack.take L.stack, series := L.series.set id (some x) } where
  counted := foldl_take_counted ks
  shaped h := ⟨h.sizes, h.slots, by simp [h.series], h.loads⟩
  handles h := h
  fifo _ _ h := h
  balanced _ _ _ hb := by
    obtain ⟨others, hL, hM⟩ := L.claims_setSeries ho
    have hlen : ks.length ≤ L.stack.free.length := hb.counted ▸ hn
    refine ((hb.perm hL).takeAll ks hlen).perm ?_
    rw [← hc hlen]
    exact (hM (some x) _).symm

/-- A series is retired: its blocks go back and its id becomes free (R30, R56). -/
theorem Ledger.keeps_retireSeries {id : Nat} {x : SeriesHolding} {ps : List (BlockKind × Nat)}
    (ho : L.series[id]? = some (some x)) (hp : ps.Perm x.claims) :
    L.Keeps { L with stack := ps.foldl Stack.give L.stack, series := L.series.set id none } where
  counted := foldl_give_counted ps
  shaped h := ⟨h.sizes, h.slots, by simp [h.series], h.loads⟩
  handles h := h
  fifo _ _ h := h
  balanced _ _ _ hb := by
    obtain ⟨others, hL, hM⟩ := L.claims_setSeries ho
    exact (Balanced.giveAll ps (hb.perm (hL.trans (hp.symm.append_right _)))).perm (hM none _).symm

end Sys2Proof.Machine
end

section
/-! SUPPORT. The invariants of a state are those of its ledger. -/

namespace Sys2Proof.Machine

variable {s t u : State}

theorem slot_eq (s : State) (i : Nat) : s.ledger.slot i = (s.dir.entries.getD i ⟨0, none⟩).slot := by
  by_cases hi : i < s.dir.entries.length
  · simp [Ledger.slot, State.ledger, hi]
  · simp [Ledger.slot, State.ledger, Nat.le_of_not_lt hi, DirEntry.slot]

theorem generation_slot (s : State) (i : Nat) :
    (s.ledger.slot i).generation = (s.dir.entries.getD i ⟨0, none⟩).generation := by rw [slot_eq]; rfl

theorem holding_slot (s : State) (i : Nat) : (s.ledger.slot i).holding = (s.bookingAt i).map Booking.holding := by
  rw [slot_eq]; rfl

theorem stackCounted_iff : s.stackCounted = true ↔ s.ledger.stackCounted := decide_eq_true_iff

theorem loadsShaped_iff : s.loadsShaped = true ↔
    s.ledger.loads = List.replicate Config.kitchens (List.replicate Config.dayRows Config.windows) := by
  simp [State.loadsShaped, State.ledger, List.eq_replicate_iff]

theorem shaped_iff : s.shaped = true ↔ s.ledger.Shaped := by
  simp only [State.shaped, Bool.and_eq_true, decide_eq_true_eq, loadsShaped_iff]
  constructor
  · rintro ⟨⟨⟨⟨⟨⟨⟨⟨⟨hd, hr⟩, hk⟩, he⟩, href⟩, hs⟩, hc⟩, hp⟩, hq⟩, hl⟩
    exact ⟨by simp [State.ledger, hd, hr, hk, href, hc, hp, hq], by simp [State.ledger, he], by simp [State.ledger, hs], hl⟩
  · rintro ⟨hsizes, hslots, hseries, hl⟩
    simp only [State.ledger, List.length_map, List.cons.injEq, and_true] at hsizes hslots hseries
    obtain ⟨hd, hr, hk, href, hc, hp, hq⟩ := hsizes
    exact ⟨⟨⟨⟨⟨⟨⟨⟨⟨hd, hr⟩, hk⟩, hslots⟩, href⟩, hseries⟩, hc⟩, hp⟩, hq⟩, hl⟩

theorem handlesAgree_iff : s.handlesAgree ↔ s.ledger.handlesAgree := by
  simp only [State.handlesAgree, Ledger.handlesAgree, generation_slot, holding_slot, Option.map_eq_some_iff]
  exact ⟨fun h i x ⟨b, hb, hx⟩ => hx ▸ h i b hb, fun h i b hb => h i _ ⟨b, hb, rfl⟩⟩

theorem fifoRight_iff : s.fifoRight ↔ s.ledger.fifoRight := by
  simp only [State.fifoRight, Ledger.fifoRight, holding_slot, Option.map_eq_none_iff]
  rfl

/-! ### The blocks -/

theorem claims_holding (b : Booking) : b.holding.claims.map Prod.snd = b.blocks := by
  cases hn : b.note <;> cases ho : b.order <;> simp [Holding.claims, Booking.blocks, hn, ho]

theorem claims_seriesHolding (x : Series) : x.holding.claims.map Prod.snd = x.blocks := by
  cases hn : x.note <;> simp [SeriesHolding.claims, Series.blocks, hn]

theorem claims_eq (s : State) : s.ledger.claims =
    s.bookings.flatMap (fun b => b.holding.claims) ++ s.liveSeries.flatMap fun x => x.holding.claims := by
  have hslots (es : List DirEntry) : (es.map DirEntry.slot).flatMap Slot.claims =
      (es.filterMap DirEntry.booking).flatMap fun b => b.holding.claims := by
    induction es with
    | nil => rfl
    | cons e es ih => cases hb : e.booking <;> simp [Slot.claims, DirEntry.slot, hb, ih]
  have hseries (l : List (Option Series)) :
      (l.map (Option.map Series.holding)).flatMap (fun o => o.elim [] SeriesHolding.claims) =
        (l.filterMap id).flatMap fun x => x.holding.claims := by
    induction l with
    | nil => rfl
    | cons o l ih => cases o <;> simp [ih]
  rw [Ledger.claims]
  exact congrArg₂ _ (hslots _) (hseries _)

/-- The blocks that the claims name are those held by live records. -/
theorem blocks_claims (s : State) : s.ledger.claims.map Prod.snd = s.heldBlocks := by
  simp only [claims_eq, State.heldBlocks, List.map_append, List.map_flatMap, claims_holding, claims_seriesHolding]

/-- How many claims there are of each kind (R19). -/
theorem count_claims (s : State) (k : BlockKind) : (s.ledger.claims.map Prod.fst).count k =
    match k with
    | .head => s.bookings.length
    | .note => s.bookings.countP (fun b => b.note.isSome) + s.liveSeries.countP (fun x => x.note.isSome)
    | .order => s.bookings.countP (fun b => b.order.isSome)
    | .series => s.liveSeries.length := by
  have hb (l : List Booking) : ((l.flatMap fun b => b.holding.claims).map Prod.fst).count k = match k with
      | .head => l.length
      | .note => l.countP (fun b => b.note.isSome)
      | .order => l.countP (fun b => b.order.isSome)
      | .series => 0 := by
    induction l with
    | nil => cases k <;> rfl
    | cons b l ih =>
      rw [List.flatMap_cons, List.map_append, List.count_append, ih]
      cases hn : b.note <;> cases ho : b.order <;> cases k <;> simp [Holding.claims, hn, ho] <;> omega
  have hx (l : List Series) : ((l.flatMap fun x => x.holding.claims).map Prod.fst).count k = match k with
      | .note => l.countP (fun x => x.note.isSome)
      | .series => l.length
      | _ => 0 := by
    induction l with
    | nil => cases k <;> rfl
    | cons x l ih =>
      rw [List.flatMap_cons, List.map_append, List.count_append, ih]
      cases hn : x.note <;> cases k <;> simp [SeriesHolding.claims, hn] <;> omega
  rw [claims_eq, List.map_append, List.count_append, hb, hx]
  cases k <;> simp

/-- Every claim is of one of the four kinds. -/
theorem length_eq_kinds (l : List BlockKind) :
    l.length = l.count .head + l.count .note + l.count .order + l.count .series := by
  induction l with
  | nil => rfl
  | cons k l ih => cases k <;> simp [ih] <;> omega

theorem blocksRight_iff : s.blocksRight ↔ s.ledger.balanced := by
  have hlen : s.heldBlocks.length = s.bookings.length +
      (s.bookings.countP (fun b => b.note.isSome) + s.liveSeries.countP (fun x => x.note.isSome)) +
      s.bookings.countP (fun b => b.order.isSome) + s.liveSeries.length := by
    rw [← blocks_claims, List.length_map, ← List.length_map (f := Prod.fst), length_eq_kinds]
    simp only [count_claims]
  constructor
  · rintro ⟨hnodup, hlt, hcount, htotal, hhead, hnote, horder, hseries⟩
    refine ⟨hcount, fun k => ?_, ?_⟩
    · rw [count_claims]
      cases k
      · exact hhead
      · exact hnote
      · exact horder
      · exact hseries
    · rw [blocks_claims]
      refine (hnodup.subperm fun n hn => List.mem_range.mpr (hlt n hn)).perm_of_length_le ?_
      have hf : s.store.freeCount = s.ledger.stack.free.length := hcount
      rw [List.length_append, List.length_range, hlen]
      omega
  · rintro ⟨hcount, hheld, hcovers⟩
    rw [blocks_claims] at hcovers
    simp only [count_claims] at hheld
    have hhead : s.store.heldHead = s.bookings.length := hheld .head
    have hnote : s.store.heldNote = s.bookings.countP (fun b => b.note.isSome) +
      s.liveSeries.countP (fun x => x.note.isSome) := hheld .note
    have horder : s.store.heldOrder = s.bookings.countP (fun b => b.order.isSome) := hheld .order
    have hseries : s.store.heldSeries = s.liveSeries.length := hheld .series
    have hf : s.store.freeCount = s.ledger.stack.free.length := hcount
    refine ⟨hcovers.nodup_iff.mpr List.nodup_range, fun n hn => List.mem_range.mp (hcovers.mem_iff.mp hn), hcount, ?_, hhead,
      hnote, horder, hseries⟩
    have htotal := hcovers.length_eq
    rw [List.length_append, List.length_range, hlen] at htotal
    omega

/-! ### What a step keeps of them -/

/-- From `s` to `t` the invariants of the store, the directory and the tables are kept (R19, R24). -/
def Conserves (s t : State) : Prop := s.ledger.Keeps t.ledger

@[simp] theorem Conserves.refl (s : State) : Conserves s s := Ledger.Keeps.refl _

theorem Conserves.of_ledger (h : t.ledger = s.ledger) : Conserves s t := by
  rw [Conserves, h]
  exact .refl _

theorem Conserves.trans (h : Conserves s t) (h' : Conserves t u) : Conserves s u := Ledger.Keeps.trans h h'

theorem Conserves.ledger (h : Conserves s t) (hu : u.ledger = t.ledger) : Conserves s u := h.trans (.of_ledger hu)

/-- A command's outcome conserves them. -/
def ConservesOutcome (s : State) (o : Outcome) : Prop := ∀ t, o = .next t → Conserves s t

theorem ConservesOutcome.same (s : State) : ConservesOutcome s (.next s) := by
  intro t h; cases h; exact .refl s

theorem ConservesOutcome.done (h : Conserves s u) : ConservesOutcome s (done u) := by
  intro t ht; cases ht; exact h.ledger rfl

theorem ConservesOutcome.doneLists (h : Conserves s u) (v : State) : ConservesOutcome s (doneLists v u) := by
  intro t ht; cases ht; exact h.ledger (by simp)

theorem ConservesOutcome.done_of_ledger (h : u.ledger = s.ledger) : ConservesOutcome s (Machine.done u) :=
  .done (.of_ledger h)

theorem ConservesOutcome.doneLists_of_ledger (v : State) (h : u.ledger = s.ledger) :
    ConservesOutcome s (Machine.doneLists v u) := .doneLists (.of_ledger h) v

variable {tag : Byte} {kind : Nat} {cmd : Instr}

theorem conserves_hostNow {owner : State → Reply} (h : ∀ u, Conserves u (owner u).state) (s : State) :
    ConservesOutcome s (hostNow tag kind cmd owner s) := by
  unfold hostNow
  split
  · exact .same s
  · rename_i u _ hu
    exact .doneLists (((Conserves.of_ledger (ledger_takeRequest s hu)).trans (h u)).ledger (ledger_answer _ _ _ _)) s

/-- A request whose owner leaves the ledger. -/
theorem conserves_hostNow_of_ledger {owner : State → Reply} (h : ∀ u, (owner u).state.ledger = u.ledger) (s : State) :
    ConservesOutcome s (hostNow tag kind cmd owner s) := conserves_hostNow (fun u => .of_ledger (h u)) s

theorem conserves_hostLater {owner : HostRef → State → Reply ⊕ State}
    (h : ∀ ref u, (leftLater (owner ref u)).ledger = u.ledger) (s : State) :
    ConservesOutcome s (hostLater tag kind cmd owner s) := by
  unfold hostLater
  split
  · exact .same s
  · rename_i u ref hu
    have hs := ledger_takeRequest s hu
    have ho := h ref u
    split <;> rename_i he <;> rw [he] at ho
    · exact .doneLists_of_ledger s ((ledger_answer _ _ _ _).trans (ho.trans hs))
    · exact .doneLists_of_ledger s (ho.trans hs)

theorem conserves_panelNow {src : PanelRef} {code : Nat} {owner : State → State × PanelAnswer}
    (h : ∀ u, Conserves u (owner u).1) (s : State) : ConservesOutcome s (panelNow src code cmd owner s) :=
  .doneLists (((Conserves.of_ledger (ledger_takeHanded s cmd)).trans (h _)).ledger (ledger_answerPanel _ _ _ _)) s

theorem conserves_panelNow_of_ledger {src : PanelRef} {code : Nat} {owner : State → State × PanelAnswer}
    (h : ∀ u, (owner u).1.ledger = u.ledger) (s : State) : ConservesOutcome s (panelNow src code cmd owner s) :=
  conserves_panelNow (fun u => .of_ledger (h u)) s

end Sys2Proof.Machine
end

section
/-! SUPPORT. The operations that change the ledger keep its invariants: blocks taken and given back, bookings made, revised and
retired, series made and retired, the load table given over, and the resets. -/

namespace Sys2Proof.Machine

variable {s t u : State}

/-! ### What each does to the ledger -/

theorem map_modify_of_comm {α β : Type} {g : α → β} {f : α → α} {f' : β → β} (h : ∀ x, g (f x) = f' (g x))
    (l : List α) (i : Nat) :
    (l.modify i f).map g = (l.map g).modify i f' := by
  refine List.ext_getElem? fun j => ?_
  simp only [List.getElem?_map, List.getElem?_modify]
  cases l[j]? with
  | none => rfl
  | some x => by_cases hij : i = j <;> simp [hij, h]

theorem ledger_allocate {c : AllocClass} {ks : List BlockKind} {bs : List Nat} (h : s.allocate c ks = some (t, bs)) :
    t.ledger = { s.ledger with stack := ks.foldl Stack.take s.ledger.stack } := by
  obtain ⟨-, -, hst, ht⟩ := allocate_some h
  have hstack : t.store.stack = ks.foldl Stack.take s.store.stack := by rw [hst, foldl_takeOne_stack]
  rw [ht]
  simp only [State.ledger, hstack]

/-- An allocation that is admitted finds its blocks (R20). -/
theorem AllocClass.le_of_admits {c : AllocClass} {f n : Nat} (h : c.admits f n = true) : n ≤ f := by
  cases c with
  | host need =>
    simp only [AllocClass.admits, Bool.and_eq_true, decide_eq_true_eq] at h
    exact le_trans (Nat.le_add_left ..) h.1
  | part => simpa [AllocClass.admits] using h

theorem ledger_giveBack (s : State) (k : BlockKind) (b : Nat) :
    (s.giveBack k b).ledger = { s.ledger with stack := s.ledger.stack.give (k, b) } := by
  simp only [State.ledger, State.giveBack, giveOne_stack]

theorem ledger_giveBackOpt (s : State) (k : BlockKind) (b : Option Nat) : (s.giveBackOpt k b).ledger =
    { s.ledger with stack := (b.toList.map (Prod.mk k)).foldl Stack.give s.ledger.stack } := by
  cases b with
  | none => rfl
  | some b => exact ledger_giveBack s k b

/-- The claims of a booking in the order in which its blocks go back (R21). -/
def Holding.returns (x : Holding) : List (BlockKind × Nat) :=
  x.order.toList.map (Prod.mk .order) ++ x.note.toList.map (Prod.mk .note) ++ [(.head, x.head)]

theorem Holding.returns_perm (x : Holding) : x.returns.Perm x.claims :=
  (List.perm_append_comm.append_right _).trans List.perm_append_comm

theorem ledger_giveBackAll (s : State) (x : Holding) :
    (((s.giveBackOpt .order x.order).giveBackOpt .note x.note).giveBack .head x.head).ledger =
      { s.ledger with stack := x.returns.foldl Stack.give s.ledger.stack } := by
  simp only [ledger_giveBack, ledger_giveBackOpt, Holding.returns, List.foldl_append, List.foldl_cons, List.foldl_nil]

/-- A change of one entry and of the FIFO. -/
theorem ledger_modEntry {f : DirEntry → DirEntry} {g : Slot → Slot} (h : ∀ e, (f e).slot = g e.slot) (s : State) (i : Nat)
    (q : List Nat → List Nat) :
    ({ s with dir := { s.dir with entries := s.dir.entries.modify i f, fifo := q s.dir.fifo } } : State).ledger =
      { s.ledger with slots := s.ledger.slots.modify i g, fifo := q s.ledger.fifo } := by
  simp only [State.ledger, map_modify_of_comm h]

theorem ledger_retire (s : State) (b : Booking) : (s.retire b).ledger =
    { s.ledger with
      stack := b.holding.returns.foldl Stack.give s.ledger.stack
      fifo := s.ledger.fifo ++ [b.handle.idx]
      slots := s.ledger.slots.modify b.handle.idx fun e => ⟨e.generation, none⟩ } := by
  have h : (((s.unplan b.handle).giveBackBooking b).modRef b.series (· - 1)).ledger =
      { s.ledger with stack := b.holding.returns.foldl Stack.give s.ledger.stack } := by
    rw [ledger_modRef, State.giveBackBooking, ledger_giveBackAll _ b.holding, ledger_unplan]
  refine (ledger_modEntry (g := fun e => ⟨e.generation, none⟩) (fun e => rfl) _ b.handle.idx (· ++ [b.handle.idx])).trans ?_
  rw [h]

theorem ledger_returnCreation (s : State) (k : Taken) (l : Option Nat) : (s.returnCreation k l).ledger =
    { s.ledger with
      stack := (Holding.mk k.handle k.head k.note k.order).returns.foldl Stack.give s.ledger.stack
      fifo := k.handle.idx :: s.ledger.fifo
      slots := s.ledger.slots.modify k.handle.idx fun e => ⟨(e.generation + 255) % 256, none⟩ } := by
  have h := ledger_giveBackAll s ⟨k.handle, k.head, k.note, k.order⟩
  refine (ledger_modRef ..).trans ((ledger_modEntry (g := fun e => ⟨(e.generation + 255) % 256, none⟩) (fun e => rfl) _
    k.handle.idx (k.handle.idx :: ·)).trans ?_)
  rw [h]

theorem ledger_enter (s : State) (b : Booking) : (s.enter b).ledger =
    { s.ledger with slots := s.ledger.slots.modify b.handle.idx fun e => ⟨e.generation, some b.holding⟩ } :=
  ledger_modEntry (fun _ => rfl) s b.handle.idx id

/-- A change of a booking that changes its blocks. -/
theorem ledger_reviseBooking {f : Booking → Booking} {g : Holding → Holding} (h : ∀ b, (f b).holding = g b.holding) (s : State)
    (i : Nat) : (s.modBooking i f).ledger =
      { s.ledger with slots := s.ledger.slots.modify i fun e => { e with holding := e.holding.map g } } := by
  refine ledger_modEntry (fun e => ?_) s i id
  cases hb : e.booking with
  | none => simp [DirEntry.slot, hb]
  | some b => simp only [DirEntry.slot, hb, Option.map_some, h b]

theorem ledger_setSeries (s : State) (id : Nat) (o : Option Series) :
    ({ s with series := { s.series with list := s.series.list.set id o } } : State).ledger =
      { s.ledger with series := s.ledger.series.set id (o.map Series.holding) } := by
  simp [State.ledger, List.map_set]

/-! ### Bookings made -/

/-- What a booking made of a creation holds. -/
abbrev Taken.holding (k : Taken) : Holding := ⟨k.handle, k.head, k.note, k.order⟩

/-- The handle and the blocks of a creation, as it hands them out (R20, R24). -/
def takenOf (h : Handle) (withNote withOrder : Bool) (blocks : List Nat) : Taken where
  handle := h
  head := blocks.getD 0 0
  note := if withNote then some (blocks.getD 1 0) else none
  order := if withOrder then some (blocks.getD (if withNote then 2 else 1) 0) else none

/-- All that a creation takes, step by step (R20, R24). -/
theorem takeRecord_steps {c : AllocClass} {n o : Bool} {l : Option Nat} {k : Taken} (h : s.takeRecord c n o l = some (t, k)) :
    ∃ i rest u, s.dir.fifo = i :: rest ∧
      s.allocate c (bookingKinds n o) = some (u, s.store.free.take (bookingKinds n o).length) ∧
      k = takenOf ⟨i, ((s.dir.entries.getD i ⟨0, none⟩).generation + 1) % 256⟩ n o
        (s.store.free.take (bookingKinds n o).length) ∧
      t = State.modRef { u with dir := { u.dir with
        fifo := rest
        entries := u.dir.entries.modify i fun e =>
          { e with generation := ((s.dir.entries.getD i ⟨0, none⟩).generation + 1) % 256 } } } l (· + 1) := by
  unfold State.takeRecord at h
  split at h
  · cases h
  · rename_i i rest hf
    split at h
    · cases h
    · rename_i u bs ha
      obtain rfl : bs = s.store.free.take (bookingKinds n o).length := (allocate_some ha).2.1
      simp only [Option.some.injEq, Prod.mk.injEq] at h
      obtain ⟨rfl, rfl⟩ := h
      exact ⟨i, rest, u, hf, ha, rfl, rfl⟩

/-- The claims of a new booking are the blocks taken for it, each under its kind. -/
theorem claims_takenOf (h : Handle) (n o : Bool) {free : List Nat} (hn : (bookingKinds n o).length ≤ free.length) :
    (takenOf h n o (free.take (bookingKinds n o).length)).holding.claims = (bookingKinds n o).zip free := by
  match n, o, free, hn with
  | false, false, a :: _, _ => rfl
  | false, true, a :: b :: _, _ => rfl
  | true, false, a :: b :: _, _ => rfl
  | true, true, a :: b :: c :: _, _ => rfl

/-- The entry that a creation took becomes live under the new handle, with the blocks taken from the stack (R20, R24, R33). -/
theorem ledger_enter_takeRecord {c : AllocClass} {n o : Bool} {l : Option Nat} {k : Taken} {b : Booking}
    (h : s.takeRecord c n o l = some (t, k)) (hb : b.holding = k.holding) :
    ∃ rest, s.ledger.fifo = k.handle.idx :: rest ∧ (t.enter b).ledger = { s.ledger with
      stack := (bookingKinds n o).foldl Stack.take s.ledger.stack
      fifo := rest
      slots := s.ledger.slots.modify k.handle.idx fun _ => ⟨k.handle.gen, some k.holding⟩ } := by
  obtain ⟨i, rest, u, hf, ha, rfl, rfl⟩ := takeRecord_steps h
  have hidx : b.handle.idx = i := congrArg (fun x => x.handle.idx) hb
  refine ⟨rest, hf, (ledger_enter _ b).trans ?_⟩
  have hu := ledger_modEntry (f := fun e => { e with generation := ((s.dir.entries.getD i ⟨0, none⟩).generation + 1) % 256 })
    (g := fun e => { e with generation := ((s.dir.entries.getD i ⟨0, none⟩).generation + 1) % 256 }) (fun e => rfl) u i
    (fun _ => rest)
  rw [ledger_modRef, hu, ledger_allocate ha, hidx, hb]
  simp only [List.modify_modify_eq]
  rfl

theorem conserves_enter {c : AllocClass} {n o : Bool} {l : Option Nat} {k : Taken} {b : Booking}
    (h : s.takeRecord c n o l = some (t, k)) (hb : b.holding = k.holding) : Conserves s (t.enter b) := by
  obtain ⟨rest, hf, hL⟩ := ledger_enter_takeRecord h hb
  obtain ⟨i, _, u, -, ha, rfl, -⟩ := takeRecord_steps h
  rw [Conserves, hL]
  exact Ledger.keeps_enter hf rfl (AllocClass.le_of_admits (allocate_some ha).1) (claims_takenOf _ n o)

/-- An index of the FIFO that lies outside the directory: the FIFO is not right, and a change that leaves the entries alone has
only the counts and the sizes to keep. -/
theorem Ledger.keeps_of_outside {L M : Ledger} {i : Nat} (hi : i ∈ L.fifo) (hlt : L.slots.length ≤ i) (hsl : M.slots = L.slots)
    (hc : L.stackCounted → M.stackCounted) (hs : L.Shaped → M.Shaped) : L.Keeps M where
  counted := hc
  shaped := hs
  handles ha j x hx := by
    simp only [Ledger.slot, hsl] at hx ⊢
    exact ha j x hx
  fifo hs _ hr := absurd (hs.slots ▸ ((hr.2 i).mp hi).1) (Nat.not_lt.mpr hlt)
  balanced hs _ hr := absurd (hs.slots ▸ ((hr.2 i).mp hi).1) (Nat.not_lt.mpr hlt)

/-- A creation whose later checks fail is returned (R26). -/
theorem conserves_returnCreation {c : AllocClass} {n o : Bool} {l l' : Option Nat} {k : Taken} {b : Booking}
    (h : s.takeRecord c n o l = some (t, k)) (hb : b.holding = k.holding) :
    Conserves s ((t.enter b).returnCreation k l') := by
  obtain ⟨rest, hf, hL⟩ := ledger_enter_takeRecord h hb
  by_cases hlt : k.handle.idx < s.ledger.slots.length
  · refine (conserves_enter h hb).trans ?_
    rw [Conserves, ledger_returnCreation]
    refine Ledger.keeps_vacate (g := fun n => (n + 255) % 256) (x := k.holding) (fun _ => ?_) (.refl _) (Holding.returns_perm _)
    rw [hL, Ledger.slot_modify rfl, if_pos ⟨rfl, hlt⟩]
  · have hsl := List.modify_eq_self (f := fun _ => Slot.mk k.handle.gen (some k.holding)) (Nat.le_of_not_lt hlt)
    rw [Conserves, ledger_returnCreation, hL]
    refine Ledger.keeps_of_outside (i := k.handle.idx) (by simp [hf]) (Nat.le_of_not_lt hlt) ?_ ?_ ?_
    · simp only [hsl]
      exact List.modify_eq_self (Nat.le_of_not_lt hlt)
    · exact fun hc => foldl_give_counted _ (foldl_take_counted _ hc)
    · exact fun hs => ⟨hs.sizes, by simp [hs.slots], hs.series, hs.loads⟩

end Sys2Proof.Machine
end

section
/-! SUPPORT. The operations on bookings, orders and series keep the ledger's invariants. -/

namespace Sys2Proof.Machine

variable {s t u : State}

/-! ### Bookings -/

/-- With the handles agreed, a booking found in the directory stands at its own index. -/
theorem bookingAt_handle {i : Nat} {b : Booking} (h : s.handlesAgree) (hb : s.bookingAt i = some b) :
    s.bookingAt b.handle.idx = some b := by
  rw [h i b hb]
  exact hb

theorem conserves_retire {i : Nat} {b : Booking} (hb : s.bookingAt i = some b) : Conserves s (s.retire b) := by
  rw [Conserves, ledger_retire]
  refine Ledger.keeps_vacate (g := id) (x := b.holding) (fun ha => ?_) List.perm_append_comm (Holding.returns_perm _)
  rw [holding_slot, bookingAt_handle (handlesAgree_iff.mpr ha) hb, Option.map_some]

/-- A booking found is revised: its handle stays, and its blocks change with the stack (R44, R140). -/
theorem conserves_reviseBooking {i : Nat} {b : Booking} {st : Stack} {f : Booking → Booking} {g : Holding → Holding}
    (hb : s.bookingAt i = some b) (hf : ∀ x, (f x).holding = g x.holding) (hg : ∀ x, (g x).handle = x.handle)
    (ht : t.ledger = { s.ledger with stack := st })
    (hcount : s.ledger.stack.freeCount = s.ledger.stack.free.length → st.freeCount = st.free.length)
    (hbal : ∀ rest, Balanced s.ledger.stack (b.holding.claims ++ rest) → Balanced st ((g b.holding).claims ++ rest)) :
    Conserves s (t.modBooking b.handle.idx f) := by
  have hslot (ha : s.ledger.handlesAgree) : (s.ledger.slot b.handle.idx).holding = some b.holding := by
    rw [holding_slot, bookingAt_handle (handlesAgree_iff.mpr ha) hb, Option.map_some]
  rw [Conserves, ledger_reviseBooking hf, ht]
  refine Ledger.keeps_revise hg hcount (fun ha rest h => ?_) fun ha => Ledger.lt_of_live (hslot ha)
  simp only [Slot.claims, hslot ha] at h ⊢
  exact hbal rest h

/-- A booking gains a block of a kind it held none of: its note (R44) or its order (R140). -/
theorem conserves_gainBlock {i : Nat} {b : Booking} {k : BlockKind} {bs : List Nat} {need : Nat} {f : Booking → Booking}
    {g : Holding → Holding} (hb : s.bookingAt i = some b) (ha : s.allocate (.host need) [k] = some (t, bs))
    (hf : ∀ x, (f x).holding = g x.holding) (hg : ∀ x, (g x).handle = x.handle)
    (hclaims : (g b.holding).claims.Perm ((k, bs.getD 0 0) :: b.holding.claims)) :
    Conserves s (t.modBooking b.handle.idx f) := by
  obtain ⟨hadm, hbs, -, -⟩ := allocate_some ha
  refine conserves_reviseBooking hb hf hg (ledger_allocate ha) (foldl_take_counted [k]) fun rest h => ?_
  have hfree : 1 ≤ s.ledger.stack.free.length := h.counted ▸ AllocClass.le_of_admits hadm
  obtain ⟨x, others, hx⟩ := List.exists_cons_of_length_pos hfree
  have hbx : bs.getD 0 0 = x := by
    have hx' : s.store.free = x :: others := hx
    simp [hbs, hx']
  rw [hbx] at hclaims
  exact (h.take hx k).perm (hclaims.append_right rest).symm

theorem conserves_amendNote {i : Nat} {b : Booking} {note : Option (List Byte)} (hb : s.bookingAt i = some b)
    (h : s.amendNote b note = some t) : Conserves s t := by
  unfold State.amendNote at h
  split at h
  · cases h; exact .refl _
  · cases h; exact .refl _
  · rename_i n hn
    cases h
    refine conserves_reviseBooking (g := fun x => { x with note := none }) hb (fun _ => rfl) (fun _ => rfl)
      (ledger_giveBack ..) (fun hc => by simp [Stack.give, hc]) fun rest h => ?_
    refine Balanced.give (h.perm ?_)
    simp only [Holding.claims, hn, Option.map_some, Option.toList_some, List.map_cons]
    exact .swap ..
  · rename_i text n _ hn
    cases h
    refine conserves_reviseBooking (g := fun x => { x with note := some n.block }) hb (fun _ => rfl) (fun _ => rfl)
      rfl id fun rest h => ?_
    have hx : b.holding.note = some n.block := by simp [hn]
    rw [← hx]
    exact h
  · rename_i text hn
    split at h
    · rename_i s1 blocks ha
      cases h
      refine conserves_gainBlock (g := fun x => { x with note := some (blocks.getD 0 0) }) hb ha (fun _ => rfl)
        (fun _ => rfl) ?_
      simp only [Holding.claims, hn, Option.map_none, Option.toList_none, List.map_nil, List.nil_append, Option.toList_some,
        List.map_cons]
      exact .swap ..
    · cases h

/-! ### Host bookings -/

theorem order_isSome_of_takeRecord {c : AllocClass} {n o : Bool} {l : Option Nat} {k : Taken}
    (h : s.takeRecord c n o l = some (t, k)) : k.order.isSome = o := by
  obtain ⟨_, _, _, -, -, rfl, -⟩ := takeRecord_steps h
  cases o <;> rfl

/-- A new booking holds what its creation took, when an order comes with an order's block. -/
theorem holding_newBooking {room startMin endMin headCount : Nat} {organiser : Id32} {origin : Nat} {needs wants : Caps}
    {checkin : CheckinPolicy} {source : Source} {series : Option Nat} {note : List Byte} {order : Option OrderForm} (k : Taken)
    (h : k.order.isSome = order.isSome) :
    (newBooking k room startMin endMin headCount organiser origin needs wants checkin source series order note).holding =
      k.holding := by
  obtain ⟨hd, head, nt, od⟩ := k
  cases od <;> cases order
  case none.none | some.some => cases nt <;> rfl
  case none.some | some.none => simp at h

/-- The state that the making of a host booking leaves, made or refused. -/
def madeState : Except (Status × State) (State × Handle × Bool) → State
  | .error e => e.2
  | .ok r => r.1

@[simp] theorem madeState_error (e : Status × State) : madeState (.error e) = e.2 := rfl
@[simp] theorem madeState_ok (r : State × Handle × Bool) : madeState (.ok r) = r.1 := rfl

theorem conserves_makeHostBooking {now : Nat} {mk : Taken → Booking} {n : Bool} {order : Option OrderForm}
    (hmk : ∀ k : Taken, k.order.isSome = order.isSome → (mk k).holding = k.holding) :
    Conserves s (madeState (s.makeHostBooking now mk n order)) := by
  unfold State.makeHostBooking
  dsimp only
  split
  · exact .refl s
  · rename_i s1 k hk
    have hb := hmk k (order_isSome_of_takeRecord hk)
    have hin := conserves_enter hk hb
    split
    · exact hin.ledger (by rw [madeState_ok, ledger_handleStart, ledger_putOnTimeline])
    · split
      · rw [madeState_error]
        exact conserves_returnCreation hk hb
      · split
        · rw [madeState_error]
          exact conserves_returnCreation hk hb
        · rename_i hp
          rw [madeState_ok]
          exact hin.ledger (by rw [ledger_handleStart, ledger_putOnTimeline, ledger_planHost hp])

theorem conserves_bookSpan (f : BookForm) (sp : SpanOut) : Conserves s (s.bookSpan f sp).state := by
  unfold State.bookSpan
  dsimp only
  split
  · exact .refl s
  split
  · exact .refl s
  split
  · exact .refl s
  split
  · exact .refl s
  have hmade := conserves_makeHostBooking (s := s) (now := s.clock.minute) (n := storedNote f.note ≠ []) (order := f.order)
    (mk := fun t => newBooking t f.room sp.startMin sp.endMin f.headCount f.organiser f.origin f.needs f.wants
      (checkinOf f.override (s.room f.room)) .host none f.order (storedNote f.note)) holding_newBooking
  split <;> rename_i he <;> rw [he] at hmade <;> exact hmade

theorem conserves_book (f : BookForm) : Conserves s (s.book f).state := by
  unfold State.book
  repeat' split
  all_goals simp [conserves_bookSpan]

/-! ### AMEND and CANCEL -/

theorem bookingAt_of_lookupOr {h : Handle} {b : Booking} (hl : s.lookupOr h = .ok b) : s.bookingAt h.idx = some b := by
  unfold State.lookupOr at hl
  split at hl
  · cases hl
  · cases hl
  · cases hl
  · rename_i hf
    cases hl
    exact (State.bookingAt_of_lookup hf).2.1

theorem ledger_amendOrder {now : Nat} {b new : Booking} {drop tight : Bool}
    (h : s.amendOrder now b new drop = .ok (t, tight)) : t.ledger = s.ledger := by
  unfold State.amendOrder at h
  split at h
  · cases h; rfl
  split at h
  case h_1 | h_2 | h_3 | h_4 => cases h; rfl
  case h_5 | h_6 =>
    split at h <;> cases h
    simp
  all_goals
    split at h
    · cases h
    · split at h
      · rename_i r hp
        cases h
        rw [ledger_planHost hp, ledger_setUncounted]
      · split at h <;> cases h
        simp

theorem conserves_amendWrite {i : Nat} {b : Booking} (hb : s.bookingAt i = some b) (f : AmendForm) (target : Nat)
    (sp : SpanOut) : Conserves s (s.amendWrite f b target sp).state := by
  unfold State.amendWrite
  dsimp only
  split
  · simp
  · rename_i s1 hn
    have hnote := conserves_amendNote hb hn
    split
    · dsimp only
      split
      · exact hnote.ledger (by simp)
      · exact hnote.ledger (by simp)
    · split
      · exact .of_ledger rfl
      · rename_i s2 tight ho
        refine hnote.ledger ?_
        simp only [ledger_handleStart, ledger_replace]
        split at ho
        · exact ledger_amendOrder ho
        · cases ho; rfl

theorem conserves_amendPlace {i : Nat} {b : Booking} (hb : s.bookingAt i = some b) (f : AmendForm) (target : Nat) :
    Conserves s (s.amendPlace f b target).state := by
  unfold State.amendPlace
  dsimp only
  repeat' split
  all_goals simp [conserves_amendWrite hb]

theorem conserves_amend (f : AmendForm) : Conserves s (s.amend f).state := by
  unfold State.amend
  split
  · simp
  split
  · simp
  split
  · simp
  · rename_i b hl
    dsimp only
    repeat' split
    all_goals simp [conserves_amendPlace (bookingAt_of_lookupOr hl)]

theorem conserves_cancelBooking (b : Booking) : Conserves s (s.cancelBooking b).state := by
  have hexit : (if b.state = .displaced then s.modBooking b.handle.idx fun x => { x with state := .cancelled }
      else (s.modBooking b.handle.idx fun x => { x with state := .cancelled }).leaveActive b.handle.idx .hostCancel).ledger =
        s.ledger := by
    split <;> simp
  unfold State.cancelBooking
  dsimp only
  split
  · exact .of_ledger hexit
  · rename_i x hx
    split
    · exact (Conserves.of_ledger hexit).trans (conserves_retire hx)
    · exact .of_ledger hexit

theorem conserves_cancel (h : Handle) : Conserves s (s.cancel h).state := by
  unfold State.cancel
  repeat' split
  all_goals simp [conserves_cancelBooking]

/-! ### Orders -/

theorem conserves_placeOrder {i : Nat} {b : Booking} (hb : s.bookingAt i = some b) (f : OrderForm) :
    Conserves s (s.placeOrder b f).state := by
  unfold State.placeOrder
  split
  · simp
  · rename_i s1 block hblock
    split
    · exact .of_ledger rfl
    · rename_i s2 tight hp
      refine Conserves.ledger (t := s1.writeOrder b.handle.idx block f) ?_ (ledger_planHost hp)
      unfold State.orderBlock at hblock
      split at hblock
      · rename_i o ho
        cases hblock
        refine conserves_reviseBooking (g := fun x => { x with order := some o.block }) hb (fun _ => rfl) (fun _ => rfl)
          rfl id fun rest h => ?_
        have hx : b.holding.order = some o.block := by simp [ho]
        rw [← hx]
        exact h
      · rename_i ho
        obtain ⟨⟨s1, bs⟩, ha, he⟩ := Option.map_eq_some_iff.mp hblock
        cases he
        refine conserves_gainBlock (g := fun x => { x with order := some (bs.getD 0 0) }) hb ha (fun _ => rfl) (fun _ => rfl) ?_
        simp only [Holding.claims, ho, Option.map_none, Option.toList_none, List.map_nil, List.append_nil, Option.toList_some,
          List.map_cons, ← List.cons_append]
        exact List.perm_append_comm

theorem bookingAt_of_orderRequest {h : Handle} {b : Booking} (ho : s.orderRequest h = .ok b) : s.bookingAt h.idx = some b := by
  unfold State.orderRequest at ho
  split at ho
  · cases ho
  split at ho
  · cases ho
  exact bookingAt_of_lookupOr ho

theorem conserves_order (h : Handle) (f : OrderForm) : Conserves s (s.order h f).state := by
  unfold State.order
  split
  · simp
  · rename_i b ho
    repeat' split
    all_goals simp [conserves_placeOrder (bookingAt_of_orderRequest ho)]

end Sys2Proof.Machine
end

section
/-! SUPPORT. Walk-ups, series, the retirement walk, the load table and the resets keep the ledger's invariants. -/

namespace Sys2Proof.Machine

variable {s t u : State}

/-! ### Settled searches and walk-ups -/

theorem conserves_placeBook (q : SearchInputs) (f : BookFields) (x : Search) (pre : List Field) (rank : Nat) (c : Candidate) :
    Conserves s (s.placeBook q f x pre rank c).state := by
  have hmade := conserves_makeHostBooking (s := s) (now := s.clock.minute) (n := f.note ≠ []) (order := f.order)
    (mk := placedBooking q f x (s.room c.room) c.room) holding_newBooking
  unfold State.placeBook
  split <;> rename_i he <;> rw [he] at hmade
  · exact hmade
  · split <;> exact hmade

theorem conserves_settlePlaced (e : QueueEntry) (f : BookFields) (x : Search) :
    Conserves s (s.settlePlaced e f x).state := by
  unfold State.settlePlaced
  dsimp only
  repeat' split
  all_goals simp [conserves_placeBook]

theorem conserves_makeWalkUp (room endMin : Nat) (badge : Id32) (term : Term) :
    Conserves s (s.makeWalkUp room endMin badge term).1 := by
  unfold State.makeWalkUp
  split
  · simp
  · rename_i s1 k hk
    have hb : (walkUpBooking k (s.room room) room s.clock.minute endMin badge).holding = k.holding := by
      show (newBooking k room s.clock.minute endMin 1 badge (s.room room).building 0 0 .exempt .walkup none none []).holding = _
      exact holding_newBooking k (order_isSome_of_takeRecord hk)
    exact (conserves_enter hk hb).ledger (by simp)

theorem conserves_walkUpIn (room wanted : Nat) (badge : Id32) : Conserves s (s.walkUpIn room wanted badge).1 := by
  unfold State.walkUpIn
  dsimp only
  repeat' split
  all_goals simp [conserves_makeWalkUp]

/-! ### Series -/

theorem conserves_materialise (now id : Nat) (x : Series) : Conserves s (s.materialise now id x).1 := by
  unfold State.materialise
  dsimp only
  split
  · exact .of_ledger (by simp)
  split
  · exact .of_ledger (by simp)
  · rename_i s1 k hk
    have hb : (occurrence k id x (s.room x.room)).holding = k.holding := holding_newBooking k (order_isSome_of_takeRecord hk)
    refine (conserves_enter hk hb).ledger ?_
    simp only [ledger_handleStart, ledger_putOnTimeline]
    split
    · exact ledger_planPart ..
    · rfl

theorem conserves_one (d : Dealt) (now lapseBefore id : Nat) (x : Series) :
    Conserves d.state (d.one now lapseBefore id x).state := by
  have hadvance (v : State) : (v.modSeries id Series.advance).ledger = v.ledger :=
    ledger_modSeries v (f := Series.advance) (fun _ => rfl) id
  have hmade := conserves_materialise (s := d.state) now id x
  unfold Dealt.one
  split
  · exact .of_ledger (hadvance _)
  · split <;> rename_i he <;> rw [he] at hmade <;> exact hmade.ledger (hadvance _)

theorem conserves_upTo (now target lapseBefore id fuel : Nat) (d : Dealt) :
    Conserves d.state (Dealt.upTo now target lapseBefore id fuel d).state := by
  induction fuel generalizing d with
  | zero => exact .refl _
  | succ fuel ih =>
    unfold Dealt.upTo
    split
    · exact .refl _
    split
    · exact (conserves_one ..).trans (ih _)
    · exact .refl _

theorem conserves_dealSeries (now target lapseBefore id : Nat) :
    Conserves s (s.dealSeries now target lapseBefore id).state := conserves_upTo now target lapseBefore id _ ⟨s, 0, [], 0⟩

/-- The block kinds of a series (R58). -/
def seriesKinds (f : SeriesForm) : List BlockKind :=
  [BlockKind.series] ++ (if storedNote f.note = [] then [] else [BlockKind.note])

/-- The claims of a new series are the blocks taken for it, each under its kind. -/
theorem claims_seriesOf (f : SeriesForm) (threshold : Nat) {free : List Nat} (hn : (seriesKinds f).length ≤ free.length) :
    (seriesOf f threshold (free.take (seriesKinds f).length)).holding.claims = (seriesKinds f).zip free := by
  by_cases hf : storedNote f.note = []
  · match free with
    | a :: _ => simp [seriesKinds, seriesOf, SeriesHolding.claims, hf]
    | [] => simp [seriesKinds, hf] at hn
  · match free with
    | a :: b :: _ => simp [seriesKinds, seriesOf, SeriesHolding.claims, hf]
    | [a] => simp [seriesKinds, hf] at hn
    | [] => simp [seriesKinds, hf] at hn

/-- A series of a free id is stored (R56, R58). -/
theorem conserves_storeSeries {c : AllocClass} {id threshold : Nat} {f : SeriesForm} {bs : List Nat}
    (hid : s.freeSeries = some id) (ha : s.allocate c (seriesKinds f) = some (t, bs)) :
    Conserves s { t with series := { t.series with list := t.series.list.set id (some (seriesOf f threshold bs)) } } := by
  obtain ⟨hadm, rfl, -, -⟩ := allocate_some ha
  have hfree : s.ledger.series[id]? = some none := by
    obtain ⟨hlt, hnone, -⟩ := List.findIdx?_eq_some_iff_getElem.mp hid
    have hget : s.series.list[id] = none := by simpa using hnone
    simp [State.ledger, hlt, hget]
  rw [Conserves, ledger_setSeries, ledger_allocate ha]
  exact Ledger.keeps_storeSeries hfree (AllocClass.le_of_admits hadm) (claims_seriesOf f threshold)

theorem conserves_placeSeries (f : SeriesForm) : Conserves s (s.placeSeries f).state := by
  unfold State.placeSeries
  split
  · simp
  · rename_i id hid
    dsimp only
    split
    · simp
    · rename_i s1 blocks ha
      exact (conserves_storeSeries hid ha).trans (conserves_dealSeries ..)

theorem conserves_createSeries (f : SeriesForm) : Conserves s (s.createSeries f).state := by
  unfold State.createSeries
  repeat' split
  all_goals simp [conserves_placeSeries]

theorem conserves_retireSeries {id : Nat} {x : Series} (hx : s.seriesAt id = some x) : Conserves s (s.retireSeries id x) := by
  have hlive : s.ledger.series[id]? = some (some x.holding) := by
    have hget : s.series.list[id]? = some (some x) := by
      simpa [State.seriesAt, Option.join_eq_some_iff] using hx
    simp [State.ledger, hget]
  have hback : ((s.giveBackOpt .note (x.note.map Note.block)).giveBack .series x.block).ledger = { s.ledger with
      stack := ((x.note.map Note.block).toList.map (Prod.mk BlockKind.note) ++ [(BlockKind.series, x.block)]).foldl
        Stack.give s.ledger.stack } := by
    rw [ledger_giveBack, ledger_giveBackOpt, List.foldl_append]
    rfl
  rw [Conserves, State.retireSeries, ledger_setSeries, hback]
  exact Ledger.keeps_retireSeries hlive List.perm_append_comm

theorem conserves_seriesVisit (id : Nat) : Conserves s (s.seriesVisit id) := by
  unfold State.seriesVisit
  split
  · rename_i x hx
    split
    · exact conserves_retireSeries hx
    · exact .refl s
  · exact .refl s

theorem conserves_retireVisit (day i : Nat) : Conserves s (s.retireVisit day i) := by
  unfold State.retireVisit
  split
  · rename_i b hb
    split
    · exact conserves_retire hb
    · exact .refl s
  · exact .refl s

/-! ### The load table -/

/-- Rows given over keep the shape of a kitchen's rows (R151). -/
theorem lengths_giveOver (n : Nat) {rows : List (List Nat)}
    (h : rows.map List.length = List.replicate Config.dayRows Config.windows) :
    (giveOver n rows).map List.length = List.replicate Config.dayRows Config.windows := by
  have hd : (rows.drop n).map List.length = List.replicate (Config.dayRows - n) Config.windows := by
    rw [List.map_drop, h, List.drop_replicate]
  rw [giveOver, List.map_append, hd, List.map_replicate, List.length_replicate, List.replicate_append_replicate]
  congr 1
  omega

theorem conserves_beginPlanning (day : Nat) : Conserves s (s.beginPlanning day) := by
  unfold State.beginPlanning
  dsimp only
  split
  · refine Ledger.keeps_of_sizes rfl rfl rfl rfl fun hs => ⟨hs.sizes, hs.slots, hs.series, ?_⟩
    have hrows : s.catering.loads.map (List.map List.length) = _ := hs.loads
    obtain ⟨hlen, hall⟩ := List.eq_replicate_iff.mp hrows
    refine List.eq_replicate_iff.mpr ⟨by simpa [State.ledger] using hlen, ?_⟩
    simp only [State.ledger, List.map_map, List.forall_mem_map, Function.comp_apply] at hall ⊢
    exact fun rows h => lengths_giveOver _ (hall rows h)
  · exact .of_ledger (ledger_withCatering s rfl)

theorem conserves_planningDay (day : Nat) : Conserves s (s.planningDay day) := by
  unfold State.planningDay
  split
  · exact .of_ledger (ledger_withCatering s rfl)
  · exact conserves_beginPlanning day

theorem conserves_endPlanning (day : Nat) : Conserves s (s.endPlanning day) := by
  unfold State.endPlanning
  dsimp only
  split
  · refine Conserves.trans ?_ (conserves_beginPlanning _)
    exact .of_ledger (ledger_withCatering s rfl)
  · exact .of_ledger ((ledger_afterDayWalk _).trans (ledger_withCatering s rfl))

theorem conserves_beginTask (k : DayTask) : Conserves s (s.beginTask k) := by
  unfold State.beginTask
  split
  · dsimp only
    split <;> exact .of_ledger rfl
  · dsimp only
    split <;> exact .of_ledger rfl
  · have h := conserves_beginPlanning (s := s) k.day
    dsimp only
    split
    · exact h.ledger (ledger_withCatering _ rfl)
    · exact h

/-! ### Resets -/

theorem ledger_rederive (s : State) : s.rederive.ledger = s.ledger := rfl

theorem ledger_warmPanels (s : State) : s.warmPanels.ledger = { s.ledger with sizes := s.ledger.sizes.set 6 Config.ports } := by
  rw [State.warmPanels, overAll_keeps State.ledger fun p t => ledger_rebuildPanel t p]
  simp [State.ledger]

theorem ledger_warmBlocks (s : State) :
    s.warmBlocks.ledger = { s.ledger with sizes := s.ledger.sizes.set 4 Config.channels } := by
  simp [State.warmBlocks, State.ledger]

/-- The channels and the ports of a warm reset are of their sizes (R86, R121). -/
theorem conserves_warm : Conserves s s.warm := by
  have hkept : s.makeHolds.abandonSweep.abandonWalks.dropTimers.ledger = s.ledger := by simp
  rw [Conserves, State.warm, ledger_rederive, ledger_warmPanels, ledger_warmBlocks, hkept]
  refine Ledger.keeps_of_sizes rfl rfl rfl rfl fun hs => ⟨?_, hs.slots, hs.series, hs.loads⟩
  simp [hs.sizes]

theorem bookingAt_reset (i : Nat) : State.reset.bookingAt i = none := by
  simp only [State.bookingAt, State.reset, List.getD_eq_getElem?_getD, List.getElem?_replicate]
  split <;> rfl

/-- At power-on the ledger's invariants hold (R182). -/
theorem ledger_reset_right : State.reset.ledger.stackCounted ∧ State.reset.ledger.Shaped ∧ State.reset.ledger.handlesAgree ∧
    State.reset.ledger.fifoRight ∧ State.reset.ledger.balanced := by
  have hslots : State.reset.ledger.slots = List.replicate Config.handles ⟨0, none⟩ := by
    simp [State.ledger, State.reset, DirEntry.slot]
  have hholding (i : Nat) : (State.reset.ledger.slot i).holding = none := by rw [holding_slot, bookingAt_reset]; rfl
  have hfifo : State.reset.ledger.fifo = List.range Config.handles := upFrom_zero_eq_range _
  have hclaims : State.reset.ledger.claims = [] := by
    rw [Ledger.claims, hslots]
    simp [State.ledger, State.reset, Slot.claims]
  refine ⟨?_, ⟨?_, ?_, ?_, ?_⟩, ?_, ⟨?_, ?_⟩, ⟨?_, ?_, ?_⟩⟩
  · simp [Ledger.stackCounted, State.ledger, State.reset, Store.stack]
  · simp [State.ledger, State.reset]
  · simp [hslots]
  · simp [State.ledger, State.reset]
  · simp [State.ledger, State.reset]
  · exact fun i x hx => absurd hx (by simp [hholding])
  · exact hfifo ▸ List.nodup_range
  · exact fun i => by simp [hholding, hfifo]
  · simp [State.ledger, State.reset, Store.stack]
  · exact fun k => by rw [hclaims]; cases k <;> rfl
  · rw [hclaims]
    simp [State.ledger, State.reset, Store.stack, upFrom_zero_eq_range]

theorem conserves_powerOn : Conserves s s.powerOn := by
  obtain ⟨hc, hs, hh, hf, hb⟩ := ledger_reset_right
  exact ⟨fun _ => hc, fun _ => hs, fun _ => hh, fun _ _ _ => hf, fun _ _ _ _ => hb⟩

end Sys2Proof.Machine
end

section
/-! SUPPORT. Every command keeps the ledger's invariants. -/

namespace Sys2Proof.Machine

variable {s t : State}

/-! ### Commands that are no request -/

theorem conserves_execWarmReset (s : State) : ConservesOutcome s (execWarmReset s) := by
  unfold execWarmReset
  split
  · exact .done conserves_warm
  · exact .done conserves_powerOn

theorem conserves_execSecEdge (n : Nat) (s : State) : ConservesOutcome s (execSecEdge n s) := by
  unfold execSecEdge
  split
  · exact .same s
  · exact .done_of_ledger (ledger_countSecond _)
  · refine .done_of_ledger ?_
    split
    · exact ledger_countSecond _
    · rfl

theorem conserves_execDividerTick (s : State) : ConservesOutcome s (execDividerTick s) := by
  unfold execDividerTick
  split
  · exact .same s
  · split
    · exact .done_of_ledger rfl
    · exact .done_of_ledger (ledger_holdover s)
  · exact .done_of_ledger (ledger_countSecond s)

theorem conserves_execEnterHoldover (s : State) : ConservesOutcome s (execEnterHoldover s) := by
  unfold execEnterHoldover
  split
  · exact .done_of_ledger (ledger_holdover s)
  · exact .same s

theorem conserves_execMinuteEvent (s : State) : ConservesOutcome s (execMinuteEvent s) := by
  unfold execMinuteEvent
  split
  · exact .done_of_ledger (ledger_countSecond s)
  · exact .same s

theorem conserves_execSend (bytes : List Byte) (s : State) : ConservesOutcome s (execSend bytes s) :=
  .done_of_ledger (ledger_deliver s.beginTransfer bytes)

theorem conserves_execFetch (n : Nat) (s : State) : ConservesOutcome s (execFetch n s) := .done_of_ledger rfl

theorem conserves_execLinkReset (s : State) : ConservesOutcome s (execLinkReset s) :=
  .done_of_ledger (ledger_dropRequests s.beginTransfer)

theorem conserves_execTakeRequestFrame (s : State) : ConservesOutcome s (execTakeRequestFrame s) := by
  unfold execTakeRequestFrame
  split
  · exact .same s
  · split
    · exact .done_of_ledger (ledger_takeFrame ..)
    · exact .same s

theorem conserves_execRetentionLoss (s : State) : ConservesOutcome s (execRetentionLoss s) := .done_of_ledger rfl

theorem conserves_execSecondEvent (s : State) : ConservesOutcome s (execSecondEvent s) := by
  unfold execSecondEvent
  split
  · exact .same s
  · exact .doneLists_of_ledger s (by simp)

theorem conserves_execWindowExpiry (c : Nat) (s : State) : ConservesOutcome s (execWindowExpiry c s) := by
  unfold execWindowExpiry
  split
  · exact .same s
  · split
    · exact .doneLists_of_ledger s (by simp)
    · split
      · exact .doneLists_of_ledger s (by simp)
      · exact .same s

theorem conserves_execAbsenceExpiry (c : Nat) (s : State) : ConservesOutcome s (execAbsenceExpiry c s) := by
  unfold execAbsenceExpiry
  split
  · exact .same s
  · split
    · exact .doneLists_of_ledger s (by simp)
    · split
      · exact .doneLists_of_ledger s (by simp)
      · exact .same s

theorem conserves_execStartsAndEnds (s : State) : ConservesOutcome s (execStartsAndEnds s) := by
  unfold execStartsAndEnds
  split
  · exact .same s
  · exact .doneLists_of_ledger s (ledger_startsAndEnds ..)

theorem conserves_execWindowOpening (s : State) : ConservesOutcome s (execWindowOpening s) := by
  unfold execWindowOpening
  split
  · exact .same s
  · exact .doneLists_of_ledger s (ledger_windowOpenings ..)

theorem conserves_execCommit (s : State) : ConservesOutcome s (execCommit s) := by
  unfold execCommit
  split
  · exact .same s
  · exact .doneLists_of_ledger s (ledger_commits ..)

theorem conserves_execClosureTimes (s : State) : ConservesOutcome s (execClosureTimes s) := by
  unfold execClosureTimes
  split
  · exact .same s
  · exact .done_of_ledger (ledger_closureTimes ..)

theorem conserves_execRetirementWalk (s : State) : ConservesOutcome s (execRetirementWalk s) := by
  unfold execRetirementWalk
  split
  · exact .same s
  · exact .done_of_ledger (ledger_retirementDay ..)

theorem conserves_execMaterialisationWalk (s : State) : ConservesOutcome s (execMaterialisationWalk s) := by
  unfold execMaterialisationWalk
  split
  · exact .same s
  · exact .done_of_ledger (ledger_materialisationDay ..)

theorem conserves_execPlanningWalk (s : State) : ConservesOutcome s (execPlanningWalk s) := by
  unfold execPlanningWalk
  split
  · exact .same s
  · refine .done (Conserves.trans ?_ (conserves_planningDay _))
    exact .of_ledger rfl

theorem conserves_execRetirementWalkStep (s : State) : ConservesOutcome s (execRetirementWalkStep s) := by
  unfold execRetirementWalkStep
  split
  · rename_i day i _
    refine .doneLists ((conserves_retireVisit day i).ledger ?_) s
    exact ledger_withStore _ rfl
  · exact .same s

theorem conserves_execSeriesPassStep (s : State) : ConservesOutcome s (execSeriesPassStep s) := by
  unfold execSeriesPassStep
  split
  · rename_i id _
    have hv := conserves_seriesVisit (s := s) id
    refine .done ?_
    split
    · exact hv.ledger (ledger_withStore _ rfl)
    · exact hv.ledger (ledger_endRetirement ..)
  · exact .same s

theorem conserves_execMaterialisationWalkStep (s : State) : ConservesOutcome s (execMaterialisationWalkStep s) := by
  unfold execMaterialisationWalkStep
  split
  · exact .same s
  · rename_i w _
    have hv : Conserves s (s.materialiseVisit w.day w.id) := conserves_dealSeries ..
    refine .doneLists ?_ s
    split
    · exact hv.ledger (ledger_withSeries _ rfl)
    · exact hv.ledger (ledger_endMaterialisation ..)

theorem conserves_execPlanningWalkStep (s : State) : ConservesOutcome s (execPlanningWalkStep s) := by
  unfold execPlanningWalkStep
  split
  · exact .same s
  · split
    · exact .done (conserves_endPlanning _)
    · split
      · exact .doneLists_of_ledger s (by simp)
      · exact .done_of_ledger (by simp)

theorem conserves_execCancelPassStep (s : State) : ConservesOutcome s (execCancelPassStep s) := by
  unfold execCancelPassStep
  dsimp only
  split
  · exact .same s
  · exact .doneLists_of_ledger s ((ledger_passStep ..).trans (ledger_beginPass s))

theorem conserves_execSearchTake (s : State) : ConservesOutcome s (execSearchTake s) := by
  unfold execSearchTake
  split
  · exact .done_of_ledger rfl
  · exact .same s

theorem conserves_execPlacementWalkStep (s : State) : ConservesOutcome s (execPlacementWalkStep s) := by
  unfold execPlacementWalkStep
  split
  · exact .same s
  · split
    · exact .same s
    · split
      · exact .same s
      · exact .done_of_ledger rfl

theorem conserves_execPlaceCompletion (s : State) : ConservesOutcome s (execPlaceCompletion s) := by
  unfold execPlaceCompletion
  split
  · exact .same s
  · dsimp only
    split <;> exact .done_of_ledger (by simp)

theorem conserves_execPlaceAndBookCompletion (s : State) : ConservesOutcome s (execPlaceAndBookCompletion s) := by
  unfold execPlaceAndBookCompletion
  split
  · exact .same s
  · split
    · refine .doneLists (Conserves.ledger ?_ (ledger_answer ..)) s
      exact (Conserves.of_ledger (ledger_dequeue s _)).trans (conserves_settlePlaced ..)
    · exact .done_of_ledger (by simp)

theorem conserves_execFindNearbyCompletion (s : State) : ConservesOutcome s (execFindNearbyCompletion s) := by
  unfold execFindNearbyCompletion
  split
  · exact .same s
  · dsimp only
    split
    · split <;> exact .done_of_ledger (by simp)
    all_goals exact .done_of_ledger (by simp)

theorem conserves_execSweepSearchCompletion (s : State) : ConservesOutcome s (execSweepSearchCompletion s) := by
  unfold execSweepSearchCompletion
  split
  · exact .same s
  · dsimp only
    split
    · refine .doneLists_of_ledger s ((ledger_withSweep _ _).trans ?_)
      simp
    all_goals exact .done_of_ledger (by simp)

theorem conserves_execWithdrawal (p n : Nat) (s : State) : ConservesOutcome s (execWithdrawal p n s) := by
  unfold execWithdrawal
  dsimp only
  split <;> exact .done_of_ledger (by simp)

theorem conserves_execSweepStep (s : State) : ConservesOutcome s (execSweepStep s) := by
  unfold execSweepStep
  split
  · exact .doneLists_of_ledger s (by simp)
  · exact .same s

theorem conserves_execSweepReport (s : State) : ConservesOutcome s (execSweepReport s) := by
  unfold execSweepReport
  split
  · exact .doneLists_of_ledger s (by simp)
  · exact .same s

theorem conserves_execDeferredViewBuild (p : Nat) (s : State) : ConservesOutcome s (execDeferredViewBuild p s) := by
  unfold execDeferredViewBuild
  dsimp only
  split
  · exact .done_of_ledger (by simp)
  · exact .same s

theorem conserves_execPoll (p : Nat) (s : State) : ConservesOutcome s (execPoll p s) := by
  unfold execPoll
  split
  · exact .same s
  · split
    · exact .same s
    · exact .done_of_ledger (by simp)

theorem conserves_execReply (p : Nat) (frame : List Byte) (s : State) : ConservesOutcome s (execReply p frame s) := by
  unfold execReply
  dsimp only
  split
  · refine .done_of_ledger ?_
    split <;> simp
  · exact .same s

theorem conserves_execFollowUpReply (p : Nat) (frame : List Byte) (s : State) :
    ConservesOutcome s (execFollowUpReply p frame s) := by
  unfold execFollowUpReply
  dsimp only
  split
  · refine .done_of_ledger ?_
    split <;> simp
  · exact .same s

theorem conserves_execReplyTimeout (p : Nat) (s : State) : ConservesOutcome s (execReplyTimeout p s) := by
  unfold execReplyTimeout
  dsimp only
  split
  any_goals exact .same s
  all_goals exact .done_of_ledger (by simp)

theorem conserves_execHoldTakesEffect (p : Nat) (s : State) : ConservesOutcome s (execHoldTakesEffect p s) := by
  unfold execHoldTakesEffect
  split
  · exact .same s
  · split
    · exact .same s
    · exact .done_of_ledger (by simp)

theorem conserves_execViewBuild (r : Nat) (s : State) : ConservesOutcome s (execViewBuild r s) := by
  unfold execViewBuild
  dsimp only
  split
  · exact .done_of_ledger rfl
  · exact .done_of_ledger (ledger_modPanel ..)

theorem conserves_execListBuild (k : Nat) (s : State) : ConservesOutcome s (execListBuild k s) := by
  exact .done_of_ledger (foldl_keeps State.ledger (fun t p => ledger_buildList t k p) _ _)

theorem conserves_execPanelUnavailable (r : Nat) (s : State) : ConservesOutcome s (execPanelUnavailable r s) := by
  exact .done_of_ledger (overAll_keeps State.ledger (fun c t => ledger_suspendIn t r c) _)

theorem conserves_execPanelAvailable (r : Nat) (s : State) : ConservesOutcome s (execPanelAvailable r s) := by
  exact .doneLists_of_ledger s (overAll_keeps State.ledger (fun c t => ledger_resumeIn t r c) _)

theorem conserves_execOccupancyReading (r : Nat) (o : Bool) (n : Nat) (s : State) :
    ConservesOutcome s (execOccupancyReading r o n s) :=
  .doneLists_of_ledger s (by simp)

theorem conserves_execCatchUpCommitStep (s : State) : ConservesOutcome s (execCatchUpCommitStep s) := by
  unfold execCatchUpCommitStep
  split
  · split
    · exact .same s
    · split
      · split
        · exact .doneLists_of_ledger s (ledger_commitHead ..)
        · exact .done_of_ledger rfl
      · exact .done_of_ledger rfl
  · exact .same s

theorem conserves_execCatchUpClosureStep (s : State) : ConservesOutcome s (execCatchUpClosureStep s) := by
  unfold execCatchUpClosureStep
  split
  · split
    · exact .same s
    · split
      · exact .done_of_ledger rfl
      · refine .done_of_ledger ?_
        refine (ledger_withCatchUp _ _).trans ?_
        split <;> simp
  · exact .same s

theorem conserves_execCatchUpBookingStep (s : State) : ConservesOutcome s (execCatchUpBookingStep s) := by
  unfold execCatchUpBookingStep
  split
  · split
    · exact .same s
    · refine .doneLists_of_ledger s ?_
      refine (ledger_withCatchUp _ _).trans ?_
      split <;> simp
  · exact .same s

theorem conserves_execCatchUpDays (s : State) : ConservesOutcome s (execCatchUpDays s) := by
  unfold execCatchUpDays
  split
  · split
    · exact .same s
    · split
      · exact .done_of_ledger (ledger_catchUpDone s)
      · exact .done (.trans (.of_ledger (ledger_withCatchUp s _)) (conserves_beginTask _))
  · exact .same s

/-! ### Host requests -/

section HostRequests

variable (tag : Byte) (s : State)

theorem conserves_execReadCounts : ConservesOutcome s (execReadCounts tag s) :=
  conserves_hostNow_of_ledger (fun u => ledger_clearCounts u) s

theorem conserves_execSetNoticeEnables (m : Bool) (e : Enables) : ConservesOutcome s (execSetNoticeEnables tag m e s) :=
  conserves_hostNow_of_ledger (fun _ => rfl) s

theorem conserves_execBook (f : BookForm) : ConservesOutcome s (execBook tag f s) :=
  conserves_hostNow (fun _ => conserves_book ..) s
theorem conserves_execAmend (f : AmendForm) : ConservesOutcome s (execAmend tag f s) :=
  conserves_hostNow (fun _ => conserves_amend ..) s
theorem conserves_execCancel (h : Handle) : ConservesOutcome s (execCancel tag h s) :=
  conserves_hostNow (fun _ => conserves_cancel ..) s
theorem conserves_execCreateSeries (f : SeriesForm) : ConservesOutcome s (execCreateSeries tag f s) :=
  conserves_hostNow (fun _ => conserves_createSeries ..) s
theorem conserves_execOrder (h : Handle) (f : OrderForm) : ConservesOutcome s (execOrder tag h f s) :=
  conserves_hostNow (fun _ => conserves_order ..) s
theorem conserves_execChangeOrder (h : Handle) (f : OrderForm) : ConservesOutcome s (execChangeOrder tag h f s) :=
  conserves_hostNow_of_ledger (fun u => ledger_changeOrder u h f) s

theorem conserves_execSetTime (m sec : Nat) : ConservesOutcome s (execSetTime tag m sec s) := by
  refine conserves_hostNow_of_ledger (fun u => ?_) s
  split
  · rfl
  · split <;> rfl

theorem conserves_execStart : ConservesOutcome s (execStart tag s) := by
  refine conserves_hostNow_of_ledger (fun u => ?_) s
  split
  · rfl
  · split
    · rfl
    · exact ledger_startClock u

theorem conserves_execTrimTime (n : Int) : ConservesOutcome s (execTrimTime tag n s) := by
  unfold execTrimTime hostStepped
  split
  · exact .same s
  · rename_i u ref hu
    refine .done_of_ledger ((ledger_answer ..).trans (Eq.trans ?_ (ledger_takeRequest s hu)))
    dsimp only
    repeat' split
    all_goals simp

theorem conserves_execSetDistances (a : Nat) (row : List Nat) : ConservesOutcome s (execSetDistances tag a row s) := by
  refine conserves_hostNow_of_ledger (fun u => ?_) s
  split
  · rfl
  · split
    · rfl
    · simp [State.ledger]

theorem conserves_execSetWeights (w : Weights) : ConservesOutcome s (execSetWeights tag w s) := by
  refine conserves_hostNow_of_ledger (fun u => ?_) s
  split <;> rfl

theorem conserves_execSetPolicy (f : PolicyForm) : ConservesOutcome s (execSetPolicy tag f s) := by
  refine conserves_hostNow_of_ledger (fun u => ?_) s
  split
  · rfl
  · split <;> rfl

theorem conserves_execSetRoom (f : RoomForm) : ConservesOutcome s (execSetRoom tag f s) := by
  refine conserves_hostNow_of_ledger (fun u => ?_) s
  split
  · rfl
  · exact ledger_setRoom u f

theorem conserves_execRemoveRoom (r : Nat) : ConservesOutcome s (execRemoveRoom tag r s) := by
  refine conserves_hostNow_of_ledger (fun u => ?_) s
  dsimp only
  repeat' split
  all_goals simp

theorem conserves_execReadRoom (r : Nat) : ConservesOutcome s (execReadRoom tag r s) := by
  refine conserves_hostNow_of_ledger (fun u => ?_) s
  split
  · rfl
  · split <;> rfl

theorem conserves_execSetKitchen (f : KitchenForm) : ConservesOutcome s (execSetKitchen tag f s) := by
  refine conserves_hostNow_of_ledger (fun u => ?_) s
  split
  · rfl
  · split <;> simp

theorem conserves_execSetKitchenProfile (k : Nat) (p : List Nat) : ConservesOutcome s (execSetKitchenProfile tag k p s) := by
  refine conserves_hostNow_of_ledger (fun u => ?_) s
  repeat' split
  all_goals simp

theorem conserves_execRemoveKitchen (k : Nat) : ConservesOutcome s (execRemoveKitchen tag k s) := by
  refine conserves_hostNow_of_ledger (fun u => ?_) s
  dsimp only
  repeat' split
  all_goals simp

theorem conserves_execReadKitchen (k : Nat) : ConservesOutcome s (execReadKitchen tag k s) := by
  refine conserves_hostNow_of_ledger (fun u => ?_) s
  split
  · rfl
  · split <;> rfl

theorem conserves_execReadBooking (h : Handle) : ConservesOutcome s (execReadBooking tag h s) := by
  refine conserves_hostNow_of_ledger (fun u => ?_) s
  split <;> rfl

theorem conserves_execListRoom (r : Nat) (m n : Option Nat) : ConservesOutcome s (execListRoom tag r m n s) := by
  refine conserves_hostNow_of_ledger (fun u => ?_) s
  split
  · rfl
  · split <;> rfl

theorem conserves_execEndSeries (id : Nat) : ConservesOutcome s (execEndSeries tag id s) := by
  refine conserves_hostNow_of_ledger (fun u => ?_) s
  split
  · rfl
  · split
    · rfl
    · split
      · rfl
      · refine (ledger_withSeries _ rfl).trans ?_
        simp

theorem conserves_execResumeSeries (id : Nat) : ConservesOutcome s (execResumeSeries tag id s) := by
  refine conserves_hostNow (fun u => ?_) s
  split
  · simp
  · split
    · simp
    · simp
    · split
      · simp
      · refine Conserves.trans ?_ (conserves_dealSeries ..)
        exact .of_ledger (ledger_modSeries u (f := fun x => { x with state := .active, noShows := 0 }) (fun _ => rfl) id)

theorem conserves_execReadSeries (id : Nat) : ConservesOutcome s (execReadSeries tag id s) := by
  refine conserves_hostNow_of_ledger (fun u => ?_) s
  split
  · rfl
  · split <;> rfl

theorem conserves_execPlace (f : PlaceForm) : ConservesOutcome s (execPlace tag f s) :=
  conserves_hostLater (fun _ u => ledger_admitSearch u _ _ _ _ _ _) s

theorem conserves_execPlaceAndBook (f : PlaceBookForm) : ConservesOutcome s (execPlaceAndBook tag f s) :=
  conserves_hostLater (fun _ u => ledger_admitSearch u _ _ _ _ _ _) s

theorem conserves_execCloseRoom (f : CloseForm) : ConservesOutcome s (execCloseRoom tag f s) :=
  conserves_hostLater (fun ref u => ledger_closeRoom u f ref) s

theorem conserves_execReopenRoom (r : Nat) : ConservesOutcome s (execReopenRoom tag r s) := by
  refine conserves_hostNow_of_ledger (fun u => ?_) s
  exact ledger_reopenRoom u r

theorem conserves_execBindPanel (p k r : Nat) : ConservesOutcome s (execBindPanel tag p k r s) := by
  refine conserves_hostNow_of_ledger (fun u => ?_) s
  split
  · rfl
  · simp

theorem conserves_execUnbind (p : Nat) : ConservesOutcome s (execUnbind tag p s) := by
  refine conserves_hostLater (fun ref u => ?_) s
  dsimp only
  repeat' split
  all_goals simp [leftLater, State.holdPanel]

theorem conserves_execBar (p : Nat) : ConservesOutcome s (execBar tag p s) := by
  refine conserves_hostLater (fun ref u => ?_) s
  repeat' split
  all_goals simp [leftLater, State.holdPanel]

theorem conserves_execUnbar (p : Nat) : ConservesOutcome s (execUnbar tag p s) := by
  refine conserves_hostNow_of_ledger (fun u => ?_) s
  repeat' split
  all_goals simp

theorem conserves_execSetPoll (p e : Nat) : ConservesOutcome s (execSetPoll tag p e s) := by
  refine conserves_hostNow_of_ledger (fun u => ?_) s
  split
  · rfl
  · split <;> simp

theorem conserves_execReadPanel (p : Nat) : ConservesOutcome s (execReadPanel tag p s) := by
  refine conserves_hostNow_of_ledger (fun u => ?_) s
  split <;> rfl

theorem conserves_execVoidOrder (h : Handle) : ConservesOutcome s (execVoidOrder tag h s) := by
  refine conserves_hostNow_of_ledger (fun u => ?_) s
  split
  · rfl
  · split
    all_goals simp

theorem conserves_execReadLoad (k day w : Nat) (n : Option Nat) : ConservesOutcome s (execReadLoad tag k day w n s) := by
  refine conserves_hostNow_of_ledger (fun u => ?_) s
  split
  · rfl
  · split <;> rfl

theorem conserves_execNextChanged (category : Nat) : ConservesOutcome s (execNextChanged tag category s) := by
  refine conserves_hostNow_of_ledger (fun u => ?_) s
  split
  · simp
  · simp
  · simp
  · rfl

end HostRequests

/-! ### Panel requests -/

section PanelRequests

variable (src : PanelRef) (h : Option Handle) (s : State)

theorem conserves_execCheckIn (badge : Id32) : ConservesOutcome s (execCheckIn src badge h s) :=
  conserves_panelNow_of_ledger (fun u => ledger_checkIn u src badge h) s

theorem conserves_execWalkUp (n : Nat) (badge : Id32) : ConservesOutcome s (execWalkUp src n badge s) := by
  refine conserves_panelNow (fun u => ?_) s
  split
  · simp
  · split
    · simp
    · exact conserves_walkUpIn ..

theorem conserves_execExtend (n : Nat) : ConservesOutcome s (execExtend src n h s) := by
  refine conserves_panelNow_of_ledger (fun u => ?_) s
  split
  · rfl
  · split
    · rfl
    · split <;> simp

theorem conserves_execEndNow : ConservesOutcome s (execEndNow src h s) := by
  refine conserves_panelNow_of_ledger (fun u => ?_) s
  split
  · rfl
  · split
    · rfl
    · split <;> simp

theorem conserves_execFindNearby : ConservesOutcome s (execFindNearby src s) := by
  refine conserves_panelNow_of_ledger (fun u => ?_) s
  repeat' split
  all_goals simp

theorem conserves_execOut : ConservesOutcome s (execOut src h s) := by
  refine conserves_panelNow_of_ledger (fun u => ?_) s
  split
  · rfl
  · split <;> simp

theorem conserves_execHanded : ConservesOutcome s (execHanded src h s) := by
  refine conserves_panelNow_of_ledger (fun u => ?_) s
  split
  · rfl
  · split <;> simp

theorem conserves_execDiscard : ConservesOutcome s (execDiscard src h s) := by
  refine conserves_panelNow_of_ledger (fun u => ?_) s
  split
  · rfl
  · split <;> simp

theorem conserves_execReceived : ConservesOutcome s (execReceived src h s) := by
  refine conserves_panelNow_of_ledger (fun u => ?_) s
  split
  · rfl
  · split <;> simp

end PanelRequests

/-! ### All of them -/

/-- Every command keeps the invariants of the store, the directory and the tables (R19, R24). -/
theorem exec_conserves (c : Instr) (s : State) : ConservesOutcome s (exec c s) :=
  match c with
  | .powerOnReset => .done conserves_powerOn
  | .warmReset => conserves_execWarmReset s
  | .secEdge _ => conserves_execSecEdge _ s
  | .dividerTick => conserves_execDividerTick s
  | .enterHoldover => conserves_execEnterHoldover s
  | .minuteEvent => conserves_execMinuteEvent s
  | .setTime _ _ _ => conserves_execSetTime _ s _ _
  | .start _ => conserves_execStart _ s
  | .trimTime _ _ => conserves_execTrimTime _ s _
  | .retentionLoss => conserves_execRetentionLoss s
  | .secondEvent => conserves_execSecondEvent s
  | .windowExpiry _ => conserves_execWindowExpiry _ s
  | .absenceExpiry _ => conserves_execAbsenceExpiry _ s
  | .startsAndEnds => conserves_execStartsAndEnds s
  | .windowOpening => conserves_execWindowOpening s
  | .commit => conserves_execCommit s
  | .closureTimes => conserves_execClosureTimes s
  | .retirementWalk => conserves_execRetirementWalk s
  | .retirementWalkStep => conserves_execRetirementWalkStep s
  | .seriesPassStep => conserves_execSeriesPassStep s
  | .materialisationWalk => conserves_execMaterialisationWalk s
  | .materialisationWalkStep => conserves_execMaterialisationWalkStep s
  | .planningWalk => conserves_execPlanningWalk s
  | .planningWalkStep => conserves_execPlanningWalkStep s
  | .cancelPassStep => conserves_execCancelPassStep s
  | .status => .done_of_ledger rfl
  | .otherTransferCommand _ => .done_of_ledger rfl
  | .send _ => conserves_execSend _ s
  | .fetch _ => conserves_execFetch _ s
  | .linkReset => conserves_execLinkReset s
  | .takeRequestFrame => conserves_execTakeRequestFrame s
  | .readTime _ => conserves_hostNow_of_ledger (fun _ => rfl) s
  | .readRetention _ => conserves_hostNow_of_ledger (fun _ => rfl) s
  | .setDistances _ _ _ => conserves_execSetDistances _ s _ _
  | .setRoom _ _ => conserves_execSetRoom _ s _
  | .removeRoom _ _ => conserves_execRemoveRoom _ s _
  | .readRoom _ _ => conserves_execReadRoom _ s _
  | .setKitchen _ _ => conserves_execSetKitchen _ s _
  | .setKitchenProfile _ _ _ => conserves_execSetKitchenProfile _ s _ _
  | .removeKitchen _ _ => conserves_execRemoveKitchen _ s _
  | .readKitchen _ _ => conserves_execReadKitchen _ s _
  | .setWeights _ _ => conserves_execSetWeights _ s _
  | .setPolicy _ _ => conserves_execSetPolicy _ s _
  | .readStore _ => conserves_hostNow_of_ledger (fun _ => rfl) s
  | .book _ _ => conserves_execBook _ s _
  | .amend _ _ => conserves_execAmend _ s _
  | .cancel _ _ => conserves_execCancel _ s _
  | .readBooking _ _ => conserves_execReadBooking _ s _
  | .listRoom _ _ _ _ => conserves_execListRoom _ s _ _ _
  | .createSeries _ _ => conserves_execCreateSeries _ s _
  | .endSeries _ _ => conserves_execEndSeries _ s _
  | .resumeSeries _ _ => conserves_execResumeSeries _ s _
  | .readSeries _ _ => conserves_execReadSeries _ s _
  | .place _ _ => conserves_execPlace _ s _
  | .placeAndBook _ _ => conserves_execPlaceAndBook _ s _
  | .readPlacement _ => conserves_hostNow_of_ledger (fun _ => rfl) s
  | .readTimers _ => conserves_hostNow_of_ledger (fun _ => rfl) s
  | .bindPanel _ _ _ _ => conserves_execBindPanel _ s _ _ _
  | .unbind _ _ => conserves_execUnbind _ s _
  | .bar _ _ => conserves_execBar _ s _
  | .unbar _ _ => conserves_execUnbar _ s _
  | .setPoll _ _ _ => conserves_execSetPoll _ s _ _
  | .readPanel _ _ => conserves_execReadPanel _ s _
  | .order _ _ _ => conserves_execOrder _ s _ _
  | .changeOrder _ _ _ => conserves_execChangeOrder _ s _ _
  | .voidOrder _ _ => conserves_execVoidOrder _ s _
  | .readLoad _ _ _ _ _ => conserves_execReadLoad _ s _ _ _ _
  | .closeRoom _ _ => conserves_execCloseRoom _ s _
  | .reopenRoom _ _ => conserves_execReopenRoom _ s _
  | .readSweep _ => conserves_hostNow_of_ledger (fun _ => rfl) s
  | .setNoticeEnables _ _ _ => conserves_execSetNoticeEnables _ s _ _
  | .readNotices _ => conserves_hostNow_of_ledger (fun _ => rfl) s
  | .nextChanged _ _ => conserves_execNextChanged _ s _
  | .readCounts _ => conserves_execReadCounts _ s
  | .searchTake => conserves_execSearchTake s
  | .placementWalkStep => conserves_execPlacementWalkStep s
  | .placeCompletion => conserves_execPlaceCompletion s
  | .placeAndBookCompletion => conserves_execPlaceAndBookCompletion s
  | .findNearbyCompletion => conserves_execFindNearbyCompletion s
  | .sweepSearchCompletion => conserves_execSweepSearchCompletion s
  | .withdrawal _ _ => conserves_execWithdrawal _ _ s
  | .sweepStep => conserves_execSweepStep s
  | .sweepReport => conserves_execSweepReport s
  | .panelSecond => .done_of_ledger (by simp [State.ledger])
  | .deferredViewBuild _ => conserves_execDeferredViewBuild _ s
  | .poll _ => conserves_execPoll _ s
  | .reply _ _ => conserves_execReply _ _ s
  | .followUpReply _ _ => conserves_execFollowUpReply _ _ s
  | .replyTimeout _ => conserves_execReplyTimeout _ s
  | .frameDiscarded _ _ => .same s
  | .holdTakesEffect _ => conserves_execHoldTakesEffect _ s
  | .viewBuild _ => conserves_execViewBuild _ s
  | .listBuild _ => conserves_execListBuild _ s
  | .checkIn _ _ _ => conserves_execCheckIn _ _ s _
  | .occupancyReading _ _ _ => conserves_execOccupancyReading _ _ _ s
  | .panelUnavailable _ => conserves_execPanelUnavailable _ s
  | .panelAvailable _ => conserves_execPanelAvailable _ s
  | .walkUp _ _ _ => conserves_execWalkUp _ s _ _
  | .extend _ _ _ => conserves_execExtend _ _ s _
  | .endNow _ _ => conserves_execEndNow _ _ s
  | .findNearby _ => conserves_execFindNearby _ s
  | .out _ _ => conserves_execOut _ _ s
  | .handed _ _ => conserves_execHanded _ _ s
  | .discard _ _ => conserves_execDiscard _ _ s
  | .received _ _ => conserves_execReceived _ _ s
  | .catchUpCommitStep => conserves_execCatchUpCommitStep s
  | .catchUpClosureStep => conserves_execCatchUpClosureStep s
  | .catchUpBookingStep => conserves_execCatchUpBookingStep s
  | .catchUpDays => conserves_execCatchUpDays s

theorem step_conserves (h : step s = .next t) : Conserves s t := by
  unfold step at h
  split at h
  · cases h; exact .refl s
  · refine Conserves.trans ?_ (exec_conserves _ _ t h)
    exact .of_ledger rfl

/-- Settles O56: each invariant is one of the ledger, and every command keeps the ledger's. -/
theorem everyStepKeepsTheStoreAndTheTables : Obligations.EveryStepKeepsTheStoreAndTheTables := by
  intro s t h
  have hk := step_conserves h
  simp only [stackCounted_iff, shaped_iff, handlesAgree_iff, fifoRight_iff, blocksRight_iff]
  exact ⟨hk.counted, hk.shaped, fun hs ha hf => ⟨hk.fifo hs ha hf, hk.balanced hs ha hf⟩⟩

/-- Settles O57, by what every command keeps of the ledger, and the lookup's generation. -/
theorem everyStepKeepsHandlesAgreed : Obligations.EveryStepKeepsHandlesAgreed := by
  intro s t h hs
  have ht : t.handlesAgree := handlesAgree_iff.mpr ((step_conserves h).handles (handlesAgree_iff.mp hs))
  refine ⟨ht, fun hd b hl => ?_⟩
  obtain ⟨-, hb, hgen⟩ := State.bookingAt_of_lookup hl
  rw [ht hd.idx b hb, hgen]

end Sys2Proof.Machine
end

section
/-! SUPPORT. Allocations and returned creations (R19 to R26). -/

namespace Sys2Proof.Machine

variable {s t u : State}

/-! ### What an allocation hands out -/

/-- The counts after blocks are taken for a list of kinds (R19). -/
theorem foldl_takeOne_held (ks : List BlockKind) (st : Store) (k : BlockKind) :
    (ks.foldl Store.takeOne st).heldOf k = st.heldOf k + ks.count k := by
  induction ks generalizing st with
  | nil => rfl
  | cons j ks ih =>
    rw [List.foldl_cons, ih, List.count_cons]
    have h : (st.takeOne j).heldOf k = st.heldOf k + if j = k then 1 else 0 := by cases j <;> cases k <;> rfl
    rw [h, beq_eq_decide]
    simp only [decide_eq_true_eq]
    omega

theorem admits_host {need f n : Nat} :
    (AllocClass.host need).admits f n = true ↔ 64 + n ≤ f ∧ 64 + need ≤ f := by
  simp only [AllocClass.admits, Bool.and_eq_true, decide_eq_true_eq]
  rfl

theorem admits_part {f n : Nat} : AllocClass.part.admits f n = true ↔ n ≤ f := decide_eq_true_iff

/-- An admitted allocation, with all that it changes (R20, R22). -/
theorem allocate_of_admits {cls : AllocClass} {ks : List BlockKind} (h : cls.admits s.store.freeCount ks.length = true) :
    s.allocate cls ks = some ({ s with
      store := ks.foldl Store.takeOne s.store
      notice := { s.notice with
        store := s.notice.store || (ks.foldl Store.takeOne s.store).freeCount < Config.lowWater } },
      s.store.free.take ks.length) := if_pos h

/-! ### A returned creation -/

/-- A block taken and given back: the store is as before (R19). -/
theorem giveOne_takeOne {st : Store} {b : Nat} {rest : List Nat} (hf : st.free = b :: rest)
    (hc : st.freeCount = st.free.length) (k : BlockKind) : (st.takeOne k).giveOne k b = st := by
  obtain ⟨free, freeCount, hh, hn, ho, hs, w, p, d⟩ := st
  obtain rfl : free = b :: rest := hf
  obtain rfl : freeCount = (b :: rest).length := hc
  cases k <;> simp [Store.takeOne, Store.giveOne, Store.countKind]

/-- Blocks given back in the reverse of the order in which they were taken: the store is as before (R21, R26). -/
theorem giveAll_takeAll (ks : List BlockKind) {st : Store} (hc : st.freeCount = st.free.length)
    (hn : ks.length ≤ st.free.length) :
    (ks.zip st.free).reverse.foldl (fun u p => u.giveOne p.1 p.2) (ks.foldl Store.takeOne st) = st := by
  induction ks generalizing st with
  | nil => rfl
  | cons k ks ih =>
    cases hf : st.free with
    | nil => simp [hf] at hn
    | cons b rest =>
      have hfree : (st.takeOne k).free = rest := by simp [Store.takeOne, hf]
      have hcount : (st.takeOne k).freeCount = (st.takeOne k).free.length := by simp [Store.takeOne, hc, hf]
      have hrest := ih hcount (by simpa [hfree, hf] using hn)
      rw [hfree] at hrest
      rw [List.zip_cons_cons, List.reverse_cons, List.foldl_append, List.foldl_cons (f := Store.takeOne), hrest]
      exact giveOne_takeOne hf hc k

theorem giveBackAll_eq (s : State) (x : Holding) :
    (((s.giveBackOpt .order x.order).giveBackOpt .note x.note).giveBack .head x.head) =
      { s with store := x.returns.foldl (fun u p => u.giveOne p.1 p.2) s.store } := by
  obtain ⟨h, head, note, order⟩ := x
  cases note <;> cases order <;> rfl

/-- The blocks of a creation go back in the reverse of the order in which it took them (R20, R21). -/
theorem returns_takenOf (h : Handle) (n o : Bool) {free : List Nat} (hn : (bookingKinds n o).length ≤ free.length) :
    (takenOf h n o (free.take (bookingKinds n o).length)).holding.returns = ((bookingKinds n o).zip free).reverse := by
  match n, o, free, hn with
  | false, false, a :: _, _ => rfl
  | false, true, a :: b :: _, _ => rfl
  | true, false, a :: b :: _, _ => rfl
  | true, true, a :: b :: c :: _, _ => rfl

/-- The reference counts with that of a link raised or lowered (R24, R26). -/
def linkRefs (l : Option Nat) (f : Nat → Nat) (refs : List Nat) : List Nat := l.elim refs fun id => refs.modify id f

theorem modRef_eq (s : State) (l : Option Nat) (f : Nat → Nat) :
    s.modRef l f = { s with dir := { s.dir with refs := linkRefs l f s.dir.refs } } := by cases l <;> rfl

theorem linkRefs_succ_pred (l : Option Nat) (refs : List Nat) : linkRefs l (· - 1) (linkRefs l (· + 1) refs) = refs := by
  cases l with
  | none => rfl
  | some id =>
    show (refs.modify id _).modify id _ = refs
    rw [List.modify_modify_eq]
    exact List.modify_id id refs

/-- The entry of a creation is FREE again with its former generation (R26). -/
theorem entry_restored {es : List DirEntry} {i : Nat} {f : DirEntry → DirEntry} (hb : (es.getD i ⟨0, none⟩).booking = none)
    (hf : f (es.getD i ⟨0, none⟩) = ⟨(es.getD i ⟨0, none⟩).generation, none⟩) : es.modify i f = es := by
  refine List.ext_getElem? fun j => ?_
  rw [List.getElem?_modify]
  by_cases hij : i = j
  · subst hij
    cases he : es[i]? with
    | none => rfl
    | some e =>
      have hd : es.getD i ⟨0, none⟩ = e := by simp [he]
      rw [hd] at hb hf
      simp only [if_pos, Option.map_eq_map, Option.map_some, hf, ← hb]
  · cases es[j]? <;> simp [hij]

theorem returnCreation_eq (s : State) (k : Taken) (l : Option Nat) : s.returnCreation k l = { s with
    store := k.holding.returns.foldl (fun u p => u.giveOne p.1 p.2) s.store
    dir := ⟨s.dir.entries.modify k.handle.idx fun e => ⟨(e.generation + 255) % 256, none⟩, k.handle.idx :: s.dir.fifo,
      linkRefs l (· - 1) s.dir.refs⟩ } := by
  have h := giveBackAll_eq s k.holding
  rw [State.returnCreation, modRef_eq]
  dsimp only
  rw [h]

/-- The directory after a creation has taken the head of the FIFO (R24). -/
def Directory.took (d : Directory) (i : Nat) (rest : List Nat) (gen : Nat) (l : Option Nat) : Directory :=
  ⟨d.entries.modify i fun e => { e with generation := gen }, rest, linkRefs l (· + 1) d.refs⟩

/-- The state that a creation leaves (R20, R24). -/
theorem takeRecord_eq {c : AllocClass} {n o : Bool} {l : Option Nat} {k : Taken} {i : Nat} {rest : List Nat}
    (hf : s.dir.fifo = i :: rest) (h : s.takeRecord c n o l = some (t, k)) :
    k = takenOf ⟨i, ((s.dir.entries.getD i ⟨0, none⟩).generation + 1) % 256⟩ n o
        (s.store.free.take (bookingKinds n o).length) ∧
      (bookingKinds n o).length ≤ s.store.freeCount ∧
      t = { s with
        store := (bookingKinds n o).foldl Store.takeOne s.store
        dir := s.dir.took i rest (((s.dir.entries.getD i ⟨0, none⟩).generation + 1) % 256) l
        notice := { s.notice with store := t.notice.store } } := by
  obtain ⟨j, rest', u, hf', ha, rfl, rfl⟩ := takeRecord_steps h
  obtain ⟨rfl, rfl⟩ := List.cons.inj (hf.symm.trans hf')
  have hadm := (allocate_some ha).1
  rw [allocate_of_admits hadm] at ha
  cases ha
  refine ⟨rfl, AllocClass.le_of_admits hadm, ?_⟩
  rw [modRef_eq]
  rfl

/-- A creation entered and returned leaves the directory as it was (R24, R26). -/
theorem directory_restored {d : Directory} {i : Nat} {rest : List Nat} {l : Option Nat} (x : Booking) (hf : d.fifo = i :: rest)
    (hb : (d.entries.getD i ⟨0, none⟩).booking = none) (hg : (d.entries.getD i ⟨0, none⟩).generation < 256) :
    let d' := d.took i rest (((d.entries.getD i ⟨0, none⟩).generation + 1) % 256) l
    (⟨(d'.entries.modify i fun e => { e with booking := some x }).modify i fun e => ⟨(e.generation + 255) % 256, none⟩,
      i :: d'.fifo, linkRefs l (· - 1) d'.refs⟩ : Directory) = d := by
  obtain ⟨es, fifo, refs⟩ := d
  obtain rfl : fifo = i :: rest := hf
  dsimp only at hb hg
  simp only [Directory.took, linkRefs_succ_pred, Directory.mk.injEq, and_true, List.modify_modify_eq]
  refine entry_restored hb ?_
  simp only [Function.comp_apply, DirEntry.mk.injEq, and_true]
  omega

/-- A creation returned: the store, the FIFO, the entry and the reference counts are as before the take (R26). -/
theorem returnCreation_takeRecord {c : AllocClass} {n o : Bool} {l : Option Nat} {k : Taken} {b : Booking} {i : Nat}
    {rest : List Nat} (hc : s.store.freeCount = s.store.free.length) (hf : s.dir.fifo = i :: rest) (hb : s.bookingAt i = none)
    (hg : (s.dir.entries.getD i ⟨0, none⟩).generation < 256) (h : s.takeRecord c n o l = some (t, k))
    (hk : b.handle = k.handle) :
    k.handle = ⟨i, ((s.dir.entries.getD i ⟨0, none⟩).generation + 1) % 256⟩ ∧
      (t.enter b).returnCreation k l = { s with notice := { s.notice with store := t.notice.store } } := by
  obtain ⟨hkt, hle, ht⟩ := takeRecord_eq hf h
  have hlen : (bookingKinds n o).length ≤ s.store.free.length := hc ▸ hle
  have hstore := giveAll_takeAll (bookingKinds n o) hc hlen
  rw [← returns_takenOf ⟨i, ((s.dir.entries.getD i ⟨0, none⟩).generation + 1) % 256⟩ n o hlen, ← hkt] at hstore
  have hdir := directory_restored (l := l) b hf hb hg
  have hkh : k.handle = ⟨i, ((s.dir.entries.getD i ⟨0, none⟩).generation + 1) % 256⟩ := by rw [hkt]; rfl
  refine ⟨hkh, ?_⟩
  generalize t.notice.store = flag at ht ⊢
  subst ht
  rw [returnCreation_eq, State.enter, hk, hkh]
  dsimp only at hdir ⊢
  rw [hstore, hdir]

/-- Settles O11: what was taken goes back in the reverse of the order in which it was taken. -/
theorem creationsTakeAllOrLeaveNoTrace : Obligations.CreationsTakeAllOrLeaveNoTrace := by
  refine ⟨fun s cls ks => ⟨fun h => ?_, fun h => ?_⟩, ?_⟩
  · have hadm : cls.admits s.store.freeCount ks.length = true := by
      cases cls with
      | host need => exact admits_host.mpr h
      | part => exact admits_part.mpr h
    refine ⟨_, allocate_of_admits hadm, foldl_takeOne_free .., foldl_takeOne_freeCount ..,
      foldl_takeOne_held ks s.store .head, foldl_takeOne_held ks s.store .note, foldl_takeOne_held ks s.store .order,
      foldl_takeOne_held ks s.store .series, ?_, rfl⟩
    simp [foldl_takeOne_freeCount, Config.lowWater]
  · refine allocate_eq_none (Bool.eq_false_iff.mpr fun hadm => ?_)
    cases cls with
    | host need =>
      obtain ⟨hblocks, hneed⟩ := admits_host.mp hadm
      rcases h with h | h
      · exact Nat.not_le.mpr h hblocks
      · exact Nat.not_le.mpr h hneed
    | part => exact Nat.not_le.mpr h (admits_part.mp hadm)
  · intro s s1 cls n o link t b i rest hc hf hb hg h hk
    exact returnCreation_takeRecord (stackCounted_iff.mp hc) hf hb hg h hk

end Sys2Proof.Machine
end

section
/-! SUPPORT. Retirement of bookings and of series, and the retirement walk (R27, R29, R30). -/

namespace Sys2Proof.Machine

variable {s t u : State} {b : Booking} {i j day : Nat}

/-! ### A booking retired -/

/-- An order taken out of the scheduler changes the kitchens and the scheduler alone (R134). -/
theorem unplan_keeps (s : State) (h : Handle) :
    s.unplan h = { s with kitchens := (s.unplan h).kitchens, catering := (s.unplan h).catering } := by
  have hload (k : Nat) (w : AbsWindow) (f : Nat → Nat) :
      s.modLoad k w f = { s with catering := (s.modLoad k w f).catering } := by
    unfold State.modLoad
    split
    · split <;> rfl
    · rfl
  have hunload (o : Order) : s.unload o = { s with catering := (s.unload o).catering } := by
    unfold State.unload
    split
    · exact hload ..
    · rfl
  unfold State.unplan
  split
  · rw [hunload]
    rfl
  · rfl

theorem unplan_of_none {h : Handle} (ho : s.orderAt h.idx = none) : s.unplan h = s := by simp [State.unplan, ho]

/-- All that a retirement does (R27). -/
theorem retire_eq (s : State) (b : Booking) : s.retire b = { s with
    store := b.holding.returns.foldl (fun u p => u.giveOne p.1 p.2) s.store
    dir := ⟨s.dir.entries.modify b.handle.idx fun e => { e with booking := none }, s.dir.fifo ++ [b.handle.idx],
      linkRefs b.series (· - 1) s.dir.refs⟩
    kitchens := (s.unplan b.handle).kitchens
    catering := (s.unplan b.handle).catering } := by
  have hback := giveBackAll_eq (s.unplan b.handle) b.holding
  rw [unplan_keeps s b.handle] at hback
  rw [State.retire, State.giveBackBooking, unplan_keeps s b.handle, modRef_eq]
  dsimp only at hback ⊢
  rw [hback]

/-- The blocks of a retired booking go back order first and head on top (R21). -/
theorem retire_free (s : State) (b : Booking) : (s.retire b).store.free =
    b.head :: ((b.note.map Note.block).toList ++ ((b.order.map Order.block).toList ++ s.store.free)) := by
  have h := giveBackBooking_free (s := s) b
  rw [State.giveBackBooking, giveBackAll_eq s b.holding] at h
  rw [retire_eq]
  exact h

theorem bookingAt_retire (s : State) (b : Booking) (j : Nat) :
    (s.retire b).bookingAt j = if b.handle.idx = j then none else s.bookingAt j := by
  rw [retire_eq, State.bookingAt]
  dsimp only
  rw [getD_modify]
  by_cases hj : b.handle.idx = j
  · by_cases hlt : j < s.dir.entries.length
    · simp [hj, hlt]
    · simp [hj, hlt]
  · simp [hj, State.bookingAt]

theorem generation_retire (s : State) (b : Booking) (j : Nat) :
    ((s.retire b).dir.entries.getD j ⟨0, none⟩).generation = (s.dir.entries.getD j ⟨0, none⟩).generation := by
  rw [retire_eq]
  dsimp only
  rw [getD_modify]
  split <;> rfl

/-- A booking without an order leaves the kitchens and the scheduler as they are when it is retired. -/
theorem retire_catering (hb : s.bookingAt b.handle.idx = some b) (ho : b.order = none) :
    (s.retire b).catering = s.catering ∧ (s.retire b).kitchens = s.kitchens := by
  have hu : s.unplan b.handle = s := unplan_of_none (by simp [State.orderAt, hb, ho])
  rw [retire_eq, hu]
  exact ⟨rfl, rfl⟩

/-! ### The walk over the directory -/

theorem retirable_iff : retirable day b = true ↔
    (b.state = .ended ∨ b.state = .endedEarly ∨ b.state = .released ∨ b.state = .cancelled) ∧
      b.endMin / 1440 < day ∧ b.mark = false := by
  rw [show b.endMin / 1440 = dayOf b.endMin from rfl]
  simp [retirable, and_assoc, or_assoc]

/-- The place of the walk after an entry (R29). -/
theorem walkAfter_eq (i : Nat) : (if i + 1 < Config.handles then WalkPos.entry (i + 1) else .series 0) =
    if i < 8191 then .entry (i + 1) else .series 0 := by
  have h : (i + 1 < Config.handles) = (i < 8191) := by
    show (i + 1 < 8192) = (i < 8191)
    rw [eq_iff_iff]
    omega
  simp only [h]

theorem execRetirementWalkStep_entry (h : s.store.walk = some ⟨day, .entry i⟩) : execRetirementWalkStep s =
    doneLists s { s.retireVisit day i with store := { (s.retireVisit day i).store with
      walk := some ⟨day, if i < 8191 then .entry (i + 1) else .series 0⟩ } } := by
  simp only [execRetirementWalkStep, h, walkAfter_eq]

/-- The walk visits a booking that is eligible, and retires it (R29). -/
theorem retireVisit_of_retirable (hb : s.bookingAt i = some b) (hr : retirable day b = true) :
    s.retireVisit day i = s.retire b := by simp [State.retireVisit, hb, hr]

theorem retireVisit_of_not_retirable (h : ∀ b, s.bookingAt i = some b → retirable day b = false) : s.retireVisit day i = s := by
  unfold State.retireVisit
  split
  · rename_i b hb
    simp [h b hb]
  · rfl

/-- A walk step that leaves its entry changes the walk's place alone. -/
theorem retirementWalkStep_leaves (hw : s.store.walk = some ⟨day, .entry i⟩)
    (h : ∀ b, s.bookingAt i = some b → retirable day b = false) : exec .retirementWalkStep s = .next
      ({ s with store := { s.store with
          walk := some ⟨day, if i < 8191 then .entry (i + 1) else .series 0⟩ } }).followAttn := by
  show execRetirementWalkStep s = _
  rw [execRetirementWalkStep_entry hw, retireVisit_of_not_retirable h]
  exact doneLists_of_congr rfl rfl rfl

/-- The state after a walk step that retired a booking: the walk at its next place, the kitchen lists, and ATTN. -/
def State.retiredStep (s : State) (b : Booking) (w : Option RetirementWalk) : State :=
  (({ s.retire b with store := { (s.retire b).store with walk := w } } : State).relist s).followAttn

theorem retiredStep_dir (s : State) (b : Booking) (w : Option RetirementWalk) : (s.retiredStep b w).dir = (s.retire b).dir :=
  relist_dir _

theorem retiredStep_store (s : State) (b : Booking) (w : Option RetirementWalk) :
    (s.retiredStep b w).store = { (s.retire b).store with walk := w } := relist_store _

theorem retiredStep_catering (s : State) (b : Booking) (w : Option RetirementWalk) :
    (s.retiredStep b w).catering = (s.retire b).catering := relist_catering _

theorem bookingAt_retiredStep (s : State) (b : Booking) (w : Option RetirementWalk) (j : Nat) :
    (s.retiredStep b w).bookingAt j = if b.handle.idx = j then none else s.bookingAt j :=
  (State.bookingAt_congr (retiredStep_dir s b w) j).trans (bookingAt_retire s b j)

theorem retiredStep_frame (s : State) (b : Booking) (w : Option RetirementWalk) : s.retiredStep b w = { s with
    store := (s.retiredStep b w).store, dir := (s.retiredStep b w).dir, kitchens := (s.retiredStep b w).kitchens
    catering := (s.retiredStep b w).catering, panelBus := (s.retiredStep b w).panelBus
    attn := (s.retiredStep b w).attn } := by
  unfold State.retiredStep
  rw [relist_keeps, retire_eq]
  rfl

/-- A walk step that retires the booking of its entry (R27, R29). -/
theorem retirementWalkStep_retires (hw : s.store.walk = some ⟨day, .entry i⟩) (hb : s.bookingAt i = some b)
    (hi : b.handle.idx = i) (hr : retirable day b = true) :
    ∃ t, exec .retirementWalkStep s = .next t ∧
      t.store.walk = some ⟨day, if i < 8191 then .entry (i + 1) else .series 0⟩ ∧ t.bookingAt i = none ∧
      (t.dir.entries.getD i ⟨0, none⟩).generation = (s.dir.entries.getD i ⟨0, none⟩).generation ∧
      t.dir.fifo = s.dir.fifo ++ [i] ∧
      t.store.free = b.head :: ((b.note.map Note.block).toList ++ (b.order.map Order.block).toList ++ s.store.free) ∧
      (∀ id, b.series = some id → t.dir.refs = s.dir.refs.modify id (· - 1)) ∧
      (∀ j, j ≠ i → t.bookingAt j = s.bookingAt j) ∧ (b.order = none → t.catering = s.catering) ∧
      t = { s with store := t.store, dir := t.dir, kitchens := t.kitchens, catering := t.catering
                   panelBus := t.panelBus, attn := t.attn } := by
  subst hi
  refine ⟨s.retiredStep b _, ?_, congrArg Store.walk (retiredStep_store ..), ?_, ?_, ?_, ?_, ?_, fun j hj => ?_, fun ho => ?_,
    retiredStep_frame ..⟩
  · show execRetirementWalkStep s = _
    rw [execRetirementWalkStep_entry hw, retireVisit_of_retirable hb hr]
    rfl
  · rw [bookingAt_retiredStep, if_pos rfl]
  · rw [retiredStep_dir, generation_retire]
  · rw [retiredStep_dir, retire_eq]
  · rw [retiredStep_store, List.append_assoc]
    exact retire_free s b
  · intro id hs
    rw [retiredStep_dir, retire_eq, hs]
    rfl
  · rw [bookingAt_retiredStep, if_neg (Ne.symm hj)]
  · rw [retiredStep_catering, (retire_catering hb ho).1]

/-! ### The day events -/

theorem retirementWalk_day {d : Nat} {rest : List Nat} (h : s.owed.retirements = d :: rest) : exec .retirementWalk s =
    .next (({ s with owed := { s.owed with retirements := rest } } : State).retirementDay d).followAttn := by
  show execRetirementWalk s = _
  rw [execRetirementWalk, h]
  rfl

theorem retirementDay_of_idle {v : State} (h : v.store.walk = none) (d : Nat) : v.retirementDay d = v.beginRetirement d := by
  simp [State.retirementDay, h]

theorem retirementDay_of_walking {v : State} (h : v.store.walk ≠ none) (d : Nat) :
    v.retirementDay d = { v with store := { v.store with pendingDay := some d } } := by
  simp [State.retirementDay, Option.isSome_iff_ne_none.mpr h]

/-! ### The series pass -/

theorem seriesRetirable_iff {id : Nat} {x : Series} : s.seriesRetirable id x = true ↔
    x.state = .finished ∧ s.dir.refs.getD id 0 = 0 ∧ x.passOwed = false ∧ x.mark = false := by
  simp [State.seriesRetirable, and_assoc]

theorem seriesVisit_of_retirable {id : Nat} {x : Series} (hx : s.seriesAt id = some x) (hr : s.seriesRetirable id x = true) :
    s.seriesVisit id = s.retireSeries id x := by simp [State.seriesVisit, hx, hr]

theorem seriesVisit_of_not_retirable {id : Nat} (h : ∀ x, s.seriesAt id = some x → s.seriesRetirable id x = false) :
    s.seriesVisit id = s := by
  unfold State.seriesVisit
  split
  · rename_i x hx
    simp [h x hx]
  · rfl

/-- A series retired changes the store and the list of series alone, and leaves the days of the store's walk (R30). -/
theorem retireSeries_keeps (s : State) (id : Nat) (x : Series) :
    s.retireSeries id x = { s with store := (s.retireSeries id x).store
                                   series := { s.series with list := s.series.list.set id none } } ∧
      (s.retireSeries id x).store.pendingDay = s.store.pendingDay := by
  have hgive (st : Store) (k : BlockKind) (n : Nat) : (st.giveOne k n).pendingDay = st.pendingDay := by cases k <;> rfl
  cases hn : x.note <;> simp [State.retireSeries, State.giveBackOpt, State.giveBack, hn, hgive]

theorem seriesAt_retireSeries (s : State) (id j : Nat) (x : Series) :
    (s.retireSeries id x).seriesAt j = if id = j then none else s.seriesAt j := by
  rw [(retireSeries_keeps s id x).1, State.seriesAt]
  dsimp only
  rw [List.getElem?_set]
  by_cases hj : id = j
  · rw [if_pos hj, if_pos hj]
    split <;> rfl
  · rw [if_neg hj, if_neg hj]
    rfl

theorem retireSeries_free (s : State) (id : Nat) (x : Series) :
    (s.retireSeries id x).store.free = x.block :: ((x.note.map Note.block).toList ++ s.store.free) := by
  simp [State.retireSeries]

/-- The visit leaves the pending day and the catch-up walk. -/
theorem seriesVisit_keeps (s : State) (id : Nat) :
    (s.seriesVisit id).store.pendingDay = s.store.pendingDay ∧ (s.seriesVisit id).catchUp = s.catchUp := by
  unfold State.seriesVisit
  split
  · rename_i x _
    split
    · refine ⟨(retireSeries_keeps s id x).2, ?_⟩
      rw [(retireSeries_keeps s id x).1]
    · exact ⟨rfl, rfl⟩
  · exact ⟨rfl, rfl⟩

theorem seriesPassStep_before {id : Nat} (hw : s.store.walk = some ⟨day, .series id⟩) (hid : id < 1023) :
    exec .seriesPassStep s = .next ({ s.seriesVisit id with
      store := { (s.seriesVisit id).store with walk := some ⟨day, .series (id + 1)⟩ } }).followAttn := by
  have hlt : id + 1 < Config.seriesIds := by
    show id + 1 < 1024
    omega
  show execSeriesPassStep s = _
  simp only [execSeriesPassStep, hw, if_pos hlt]
  rfl

theorem seriesPassStep_last (hw : s.store.walk = some ⟨day, .series 1023⟩) :
    exec .seriesPassStep s = .next ((s.seriesVisit 1023).endRetirement day).followAttn := by
  have hlt : ¬ 1023 + 1 < Config.seriesIds := by decide
  show execSeriesPassStep s = _
  simp only [execSeriesPassStep, hw, if_neg hlt]
  rfl

/-- Outside the catch-up walk the end of a retirement walk writes the days of the store and begins the pending day's walk
(R29). -/
theorem endRetirement_store {v : State} (h : v.catchUp = none) (d : Nat) :
    (v.endRetirement d).store.lastDay = some d ∧ (v.endRetirement d).store.pendingDay = none ∧
      (v.endRetirement d).store.walk = v.store.pendingDay.map fun p => ⟨p, .entry 0⟩ := by
  unfold State.endRetirement
  dsimp only
  split
  · rename_i p hp
    simp [State.beginRetirement, hp]
  · rename_i hp
    simp [State.afterDayWalk, h, hp]

/-! ### The statement -/

/-- Settles O12. -/
theorem retirementWalkRetires : Obligations.RetirementWalkRetires := by
  refine ⟨fun s => ⟨fun d rest h => ⟨fun hw => ?_, fun hw => ?_⟩, fun day i hw => ⟨?_, fun h => ?_⟩⟩,
    fun s day id hw => ⟨fun x hid hx hf href hp hm => ?_, fun hid h => ?_, fun hid hc => ?_⟩⟩
  · rw [retirementWalk_day h, retirementDay_of_idle (by exact hw)]
    rfl
  · rw [retirementWalk_day h, retirementDay_of_walking (by exact hw)]
  · intro b hb hi _ hst hday hmark
    exact retirementWalkStep_retires hw hb hi (retirable_iff.mpr ⟨hst, hday, hmark⟩)
  · refine retirementWalkStep_leaves hw fun b hb => Bool.eq_false_iff.mpr fun hr => ?_
    obtain ⟨hst, hday, hmark⟩ := retirable_iff.mp hr
    rcases h b hb with h | h | h | h | h | h
    · simp [h] at hst
    · simp [h] at hst
    · simp [h] at hst
    · simp [h] at hst
    · omega
    · simp [h] at hmark
  · have hr := seriesRetirable_iff.mpr ⟨hf, href, hp, hm⟩
    refine ⟨_, seriesPassStep_before hw hid, rfl, ?_, ?_, fun j hj => ?_, ?_⟩
    all_goals rw [seriesVisit_of_retirable hx hr]
    · exact (seriesAt_retireSeries s id id x).trans (if_pos rfl)
    · exact retireSeries_free s id x
    · exact (seriesAt_retireSeries s id j x).trans (if_neg (Ne.symm hj))
    · rw [(retireSeries_keeps s id x).1]
      rfl
  · rw [seriesPassStep_before hw hid, seriesVisit_of_not_retirable fun x hx => Bool.eq_false_iff.mpr fun hr => ?_]
    obtain ⟨hf, href, hp, hm⟩ := seriesRetirable_iff.mp hr
    rcases h x hx with h | h | h | h
    · exact h hf
    · exact h href
    · simp [h] at hp
    · simp [h] at hm
  · subst hid
    obtain ⟨hpend, hcatch⟩ := seriesVisit_keeps s 1023
    obtain ⟨hlast, hnone, hwalk⟩ := endRetirement_store (hcatch.trans hc) day
    exact ⟨_, seriesPassStep_last hw, hlast, hnone, hwalk.trans (by rw [hpend])⟩

end Sys2Proof.Machine
end

section
/-! SUPPORT. The withdrawal of a booking by CANCEL (R36, R45, R28). -/

namespace Sys2Proof.Machine

variable {s s1 t u v : State} {b : Booking} {h : Handle} {ref : HostRef} {tag : Byte}

/-! ### The booking withdrawn -/

/-- From `s` to `t` the booking `b` has become CANCELLED: it and its place on the timeline, its channel and its timer change,
and every other booking, the FIFO, the store and the link are as before (R36, R45). -/
structure Withdrawn (b : Booking) (s t : State) : Prop where
  own : ∃ x, t.bookingAt b.handle.idx = some x ∧ x = { b with state := .cancelled, timer := x.timer } ∧
    (b.state ≠ .displaced → x.timer = none)
  others : ∀ j, j ≠ b.handle.idx → t.bookingAt j = s.bookingAt j
  fifo : t.dir.fifo = s.dir.fifo
  store : t.store = s.store
  link : t.link = s.link
  off : b.state ≠ .displaced → b.handle ∉ (t.room b.room).timeline
  channel : ∀ c, b.timer = some c → b.state = .awaiting → c < s.bank.channels.length → (t.channel c).state = .free

/-- The exit of an active booking without an order is that from its timeline and of its channel (R36). -/
theorem leaveActive_hostCancel (hb : s.bookingAt b.handle.idx = some b) (ho : b.order = none) :
    s.leaveActive b.handle.idx .hostCancel = (s.takeOffTimeline b.room b.handle).returnChannel b.handle.idx := by
  have hat : ((s.takeOffTimeline b.room b.handle).returnChannel b.handle.idx).bookingAt b.handle.idx =
      some { b with timer := none } := bookingAt_returnChannel hb
  have hnone : ((s.takeOffTimeline b.room b.handle).returnChannel b.handle.idx).exitOrder b.handle .hostCancel =
      (s.takeOffTimeline b.room b.handle).returnChannel b.handle.idx := by
    simp [State.exitOrder, State.orderAt, hat, ho]
  simp only [State.leaveActive, hb, hnone]
  cases b.series <;> simp

/-- A channel freed is FREE (R86). -/
theorem channel_freeChannel {c : Nat} (hc : c < s.bank.channels.length) : ((s.freeChannel c).channel c).state = .free := by
  simp only [State.channel, State.freeChannel, State.modChannel]
  rw [getD_modify_same hc]
  rfl

/-- What the return of a channel leaves: all but the channels, and the timer of its booking (R36, R100). -/
theorem returnChannel_keeps {j : Nat} (hb : s.bookingAt j = some b) (hr : b.state ≠ .released) :
    (∀ i, i ≠ j → (s.returnChannel j).bookingAt i = s.bookingAt i) ∧ (s.returnChannel j).dir.fifo = s.dir.fifo ∧
      (s.returnChannel j).store = s.store ∧ (s.returnChannel j).link = s.link ∧ (s.returnChannel j).rooms = s.rooms ∧
      ∀ c, b.timer = some c → c < s.bank.channels.length → ((s.returnChannel j).channel c).state = .free := by
  cases ht : b.timer with
  | none =>
    rw [returnChannel_of_none hb ht]
    exact ⟨fun _ _ => rfl, rfl, rfl, rfl, rfl, fun _ hc => nomatch hc⟩
  | some d =>
    have he : s.returnChannel j = (s.freeChannel d).modBooking j fun b => { b with timer := none } := by
      simp [State.returnChannel, hb, ht, hr]
    rw [he]
    refine ⟨fun i hi => State.bookingAt_modBooking_other (Ne.symm hi), rfl, rfl, rfl, rfl, fun c hc hlt => ?_⟩
    obtain rfl : d = c := by simpa using hc
    exact channel_freeChannel hlt

/-- The state of a CANCEL once the booking is withdrawn, and before R28. -/
def State.withdraw (s : State) (b : Booking) : State :=
  if b.state = .displaced then s.modBooking b.handle.idx fun x => { x with state := .cancelled }
  else (s.modBooking b.handle.idx fun x => { x with state := .cancelled }).leaveActive b.handle.idx .hostCancel

theorem withdrawn_withdraw (hb : s.bookingAt b.handle.idx = some b) (ho : b.order = none) : Withdrawn b s (s.withdraw b) := by
  have hown : (s.modBooking b.handle.idx fun x => { x with state := .cancelled }).bookingAt b.handle.idx =
      some { b with state := .cancelled } := by simp [hb]
  have hothers (j : Nat) (hj : j ≠ b.handle.idx) :
      (s.modBooking b.handle.idx fun x => { x with state := .cancelled }).bookingAt j = s.bookingAt j :=
    State.bookingAt_modBooking_other (Ne.symm hj)
  unfold State.withdraw
  split
  · rename_i hd
    exact ⟨⟨_, hown, rfl, fun hn => absurd hd hn⟩, hothers, rfl, rfl, rfl, fun hn => absurd hd hn,
      fun _ _ ha => by simp [hd] at ha⟩
  · rename_i hd
    rw [leaveActive_hostCancel (b := { b with state := .cancelled }) hown ho]
    dsimp only
    generalize hv : s.modBooking b.handle.idx (fun x => { x with state := .cancelled }) = v at hown hothers ⊢
    have hoff : (v.takeOffTimeline b.room b.handle).bookingAt b.handle.idx = some { b with state := .cancelled } := hown
    obtain ⟨hoth, hfifo, hstore, hlink, hrooms, hchan⟩ := returnChannel_keeps hoff (by simp)
    subst hv
    refine ⟨⟨_, bookingAt_returnChannel hoff, rfl, fun _ => rfl⟩, fun j hj => (hoth j hj).trans (hothers j hj), hfifo, hstore,
      hlink, fun _ => ?_, fun c hc _ hlt => hchan c hc hlt⟩
    rw [State.room, hrooms]
    exact fun hmem => (mem_takeOffTimeline.mp hmem).2 rfl rfl

/-! ### The request -/

/-- After the withdrawal of a booking without an order: it is retired when its mark is clear, and stays when it is set
(R28, R45). -/
theorem cancelBooking_cases (hb : s.bookingAt b.handle.idx = some b) (ho : b.order = none) :
    ∃ x, (s.withdraw b).bookingAt b.handle.idx = some x ∧ x = { b with state := .cancelled, timer := x.timer } ∧
      (b.mark = false → s.cancelBooking b = ⟨(s.withdraw b).retire x, .ok, [flagField true, orderStateField none]⟩) ∧
      (b.mark = true → s.cancelBooking b = ⟨s.withdraw b, .ok, [flagField false, orderStateField none]⟩) := by
  obtain ⟨x, hx, hxb, -⟩ := (withdrawn_withdraw hb ho).own
  have hxo : x.order = none := by rw [hxb]; exact ho
  have hxm : x.mark = b.mark := by rw [hxb]
  have hc : s.cancelBooking b = match (s.withdraw b).bookingAt b.handle.idx with
      | none => ⟨s.withdraw b, .ok, []⟩
      | some x => if retirableOrder x.order ∧ !x.mark then
          ⟨(s.withdraw b).retire x, .ok, [flagField true, orderStateField x.order]⟩
        else ⟨s.withdraw b, .ok, [flagField false, orderStateField x.order]⟩ := rfl
  refine ⟨x, hx, hxb, fun hm => ?_, fun hm => ?_⟩
  · rw [hc, hx]
    simp [hxo, hxm, hm, retirableOrder]
  · rw [hc, hx]
    simp [hxo, hxm, hm]

theorem relist_link (s before : State) : (s.relist before).link = s.link := by rw [relist_keeps]

/-- A CANCEL that passes its tests (R45). -/
theorem cancel_taken (ht : s.taken (.cancel tag h) = some (s1, ref)) (hr : s1.running = true) (hc : s1.catching = false)
    (hl : s1.lookup h = .found b) (hs : b.state = .booked ∨ b.state = .awaiting ∨ b.state = .displaced) :
    exec (.cancel tag h) s = .next ((((s1.cancelBooking b).state.answer ref (s1.cancelBooking b).status
      (s1.cancelBooking b).body)).relist s).followAttn := by
  have ho : s1.cancel h = s1.cancelBooking b := by
    rcases hs with hs | hs | hs <;> simp [State.cancel, State.lookupOr, hr, hc, hl, hs]
  exact (hostNow_taken (fun u => u.cancel h) (takeRequest_of_taken rfl ht)).trans (by rw [ho])

theorem cancel_refused {st : Status} (ht : s.taken (.cancel tag h) = some (s1, ref)) (ho : s1.cancel h = refuse s1 st) :
    exec (.cancel tag h) s = .next (s1.answered ref st []) := taken_reads (owner := fun u => u.cancel h) rfl ht ho

/-- What the last acts of a request leave: the directory, the store, the rooms and the channels, and the link with its
answer. -/
theorem answered_relist_keeps (u before : State) (ref : HostRef) (st : Status) (body : List Field) :
    let t := ((u.answer ref st body).relist before).followAttn
    t.dir = u.dir ∧ t.store = u.store ∧ t.rooms = u.rooms ∧ t.bank = u.bank ∧ t.link = (u.answer ref st body).link := by
  refine ⟨?_, ?_, ?_, ?_, relist_link ..⟩
  · rw [State.followAttn_dir, relist_dir, answer_dir]
  · rw [State.followAttn_store, relist_store, answer_store]
  · rw [State.followAttn_rooms, relist_rooms, answer_rooms]
  · rw [State.followAttn_bank, relist_bank, answer_keeps]

/-- A retired booking leaves the rooms, the channels and the link as they are. -/
theorem retire_keeps (s : State) (b : Booking) :
    (s.retire b).rooms = s.rooms ∧ (s.retire b).bank = s.bank ∧ (s.retire b).link = s.link := by
  rw [retire_eq]
  exact ⟨rfl, rfl, rfl⟩

/-- Settles O19, by what the withdrawal of the booking leaves, and then R28. -/
theorem cancelWithdrawsTheBooking : Obligations.CancelWithdrawsTheBooking := by
  intro s s1 ref tag h b ht hr hc hl hh _
  subst hh
  have hb := (State.bookingAt_of_lookup hl).2.1
  refine ⟨fun hs => cancel_refused ht ?_, fun hs => cancel_refused ht ?_, fun hs ho => ?_⟩
  · rcases hs with hs | hs | hs | hs <;> simp [State.cancel, State.lookupOr, hr, hc, hl, hs]
  · simp [State.cancel, State.lookupOr, hr, hc, hl, hs]
  obtain ⟨x, hx, hxb, hclear, hset⟩ := cancelBooking_cases hb ho
  have hw := withdrawn_withdraw hb ho
  have hexec := cancel_taken ht hr hc hl hs
  have hhandle : x.handle = b.handle := by rw [hxb]
  refine ⟨fun hm => ?_, fun hm => ?_⟩
  · rw [hclear hm] at hexec
    obtain ⟨hdir, hstore, hrooms, hbank, hlink⟩ := answered_relist_keeps ((s1.withdraw b).retire x) s ref .ok
      [flagField true, orderStateField none]
    obtain ⟨hkrooms, hkbank, hklink⟩ := retire_keeps (s1.withdraw b) x
    refine ⟨_, hexec, ?_, ?_, ?_, fun hd => ?_, fun c htimer ha hlt => ?_, fun j hj => ?_, ?_⟩
    · rw [State.bookingAt_congr hdir, bookingAt_retire, if_pos (by rw [hhandle])]
    · rw [hdir, retire_eq, hhandle]
      exact congrArg (· ++ _) hw.fifo
    · have hnote : x.note = b.note := by rw [hxb]
      have horder : x.order = none := by rw [hxb]; exact ho
      have hhead : x.head = b.head := by rw [hxb]
      rw [hstore, retire_free, hhead, hnote, horder, hw.store]
      rfl
    · rw [State.room, hrooms, hkrooms]
      exact hw.off hd
    · rw [State.channel, hbank, hkbank]
      exact hw.channel c htimer ha hlt
    · rw [State.bookingAt_congr hdir, bookingAt_retire, if_neg (by rw [hhandle]; exact Ne.symm hj), hw.others j hj]
    · exact hlink.trans (answer_link_congr (hklink.trans hw.link) _ _)
  · rw [hset hm] at hexec
    obtain ⟨hdir, hstore, hrooms, -, hlink⟩ := answered_relist_keeps (s1.withdraw b) s ref .ok
      [flagField false, orderStateField none]
    refine ⟨_, x, hexec, ?_, hxb, ?_, ?_, fun hd => ⟨?_, ?_⟩, fun j hj => ?_, ?_⟩
    · rw [State.bookingAt_congr hdir, hx]
    · rw [hdir, hw.fifo]
    · rw [hstore, hw.store]
    · rw [State.room, hrooms]
      exact hw.off hd
    · obtain ⟨y, hy, -, hnone⟩ := hw.own
      obtain rfl : x = y := Option.some.inj (hx.symm.trans hy)
      exact hnone hd
    · rw [State.bookingAt_congr hdir, hw.others j hj]
    · exact hlink.trans (answer_link_congr hw.link _ _)

end Sys2Proof.Machine
end

section
/-! SUPPORT. Spans on the 5-minute grid (R37, R41), and what the freedom test of R35 says of a timeline whose bookings keep
their spacing (R34). -/

namespace Sys2Proof.Machine

variable {n now start a b e m : Nat} {l : List Booking} {nb p x y : Booking} {sp : SpanOut} {f : AmendForm}

/-! ### Spacing -/

/-- The second booking may follow the first on a timeline with a turnover of `n` (R34). -/
def Follows (n : Nat) (x y : Booking) : Prop := x.startMin ≤ y.startMin ∧ x.endMin + n ≤ y.startMin

theorem spaced_iff_isChain : spaced n l ↔ l.IsChain (Follows n) := by
  induction l with
  | nil => simp [spaced]
  | cons x l ih =>
    cases l with
    | nil => simp [spaced]
    | cons y rest => simp [spaced, ih, Follows, and_assoc]

/-- A spaced timeline stands in ascending order of start. -/
theorem starts_ascend (h : spaced n l) : l.Pairwise fun x y => x.startMin ≤ y.startMin :=
  List.IsChain.pairwise (R := fun x y : Booking => x.startMin ≤ y.startMin)
    ((spaced_iff_isChain.mp h).imp fun _ _ hxy => hxy.1)

theorem filter_eq_takeWhile_start (h : l.Pairwise fun x y => x.startMin ≤ y.startMin) :
    (l.filter fun x => x.startMin < a) = l.takeWhile fun x => x.startMin < a := by
  induction l with
  | nil => rfl
  | cons x l ih =>
    obtain ⟨hx, hl⟩ := List.pairwise_cons.mp h
    by_cases hxa : x.startMin < a
    · simp [hxa, ih hl]
    · have hnone : ∀ y ∈ l, ¬ y.startMin < a := fun y hy => by have := hx y hy; omega
      simpa [hxa] using hnone

theorem filter_eq_dropWhile_start (h : l.Pairwise fun x y => x.startMin ≤ y.startMin) :
    (l.filter fun x => a ≤ x.startMin) = l.dropWhile fun x => x.startMin < a := by
  induction l with
  | nil => rfl
  | cons x l ih =>
    obtain ⟨hx, hl⟩ := List.pairwise_cons.mp h
    by_cases hxa : x.startMin < a
    · simp [hxa, Nat.not_le.mpr hxa, ih hl]
    · have hall : ∀ y ∈ l, a ≤ y.startMin := fun y hy => by have := hx y hy; omega
      simpa [hxa, Nat.not_lt.mp hxa] using hall

/-- The previous and the next booking of R35 on a spaced timeline. -/
theorem prevBooking_of_spaced (h : spaced n l) : prevBooking l a = (l.takeWhile fun x => x.startMin < a).getLast? := by
  rw [prevBooking, filter_eq_takeWhile_start (starts_ascend h)]

theorem nextBooking_of_spaced (h : spaced n l) : nextBooking l a = (l.dropWhile fun x => x.startMin < a).head? := by
  rw [nextBooking, filter_eq_dropWhile_start (starts_ascend h)]

/-- The two clauses of R35. -/
theorem freedom_eq_none_iff :
    freedom n l a b = none ↔
      (∀ p, prevBooking l a = some p → p.endMin + n ≤ a) ∧ ∀ q, nextBooking l a = some q → b + n ≤ q.startMin := by
  unfold freedom
  rcases prevBooking l a with - | p
  · rcases nextBooking l a with - | q <;> simp
  · by_cases hp : p.endMin + n ≤ a
    · rcases nextBooking l a with - | q <;> simp [hp]
    · simp [hp]

/-- A booking put into a spaced timeline at the place its start gives keeps the spacing exactly when the freedom test of its
span passes. -/
theorem spaced_insert_iff (h : spaced n l) :
    spaced n (l.takeWhile (fun x => x.startMin < nb.startMin) ++ nb :: l.dropWhile fun x => x.startMin < nb.startMin) ↔
      freedom n l nb.startMin nb.endMin = none := by
  have hchain := spaced_iff_isChain.mp h
  rw [← List.takeWhile_append_dropWhile (p := fun x : Booking => x.startMin < nb.startMin) (l := l),
    List.isChain_append] at hchain
  obtain ⟨hbefore, hafter, -⟩ := hchain
  have hlast : ∀ p, (l.takeWhile fun x => x.startMin < nb.startMin).getLast? = some p → p.startMin < nb.startMin := fun p hp => by
    simpa using (List.mem_takeWhile_imp (List.mem_of_getLast? hp))
  have hhead : ∀ q, (l.dropWhile fun x => x.startMin < nb.startMin).head? = some q → nb.startMin ≤ q.startMin := fun q hq => by
    have := List.head?_dropWhile_not (fun x : Booking => decide (x.startMin < nb.startMin)) l
    rw [hq] at this
    simpa using this
  rw [spaced_iff_isChain, List.isChain_append, List.isChain_cons, freedom_eq_none_iff, prevBooking_of_spaced h,
    nextBooking_of_spaced h]
  simp only [Option.mem_def, List.head?_cons, Option.some.injEq, Follows]
  constructor
  · rintro ⟨-, ⟨hnext, -⟩, hprev⟩
    exact ⟨fun p hp => (hprev p hp nb rfl).2, fun q hq => (hnext q hq).2⟩
  · rintro ⟨hprev, hnext⟩
    refine ⟨hbefore, ⟨fun q hq => ⟨hhead q hq, hnext q hq⟩, hafter⟩, fun p hp y hy => ?_⟩
    subst hy
    exact ⟨(hlast p hp).le, hprev p hp⟩

/-- Settles O13. -/
theorem freedomTestKeepsSpacing : Obligations.FreedomTestKeepsSpacing := by
  intro turnover l nb h _
  refine ⟨(spaced_insert_iff h).symm, fun p hp hlt => ?_⟩
  rw [freedom, prevBooking_of_spaced h, hp]
  simp [Nat.not_le.mpr hlt]

/-! ### The grid -/

theorem floorGrid_eq (m : Nat) : floorGrid m = m / 5 * 5 := by unfold floorGrid; omega

theorem lengthOk_iff : lengthOk a b = true ↔ a + 5 ≤ b ∧ b ≤ a + 1440 := by simp [lengthOk]

/-- The span that a start and an unrounded end make (R37). -/
def spanTo (start : Nat) (rounded : Bool) (last : Nat) : SpanOut := ⟨start, ceilGrid last, rounded, decide (last % 5 ≠ 0)⟩

/-- Which end a form asks for, counted from a start on its place: the end given, or the start with a length added (R37,
log 42). -/
def Asks (given start : Nat) (endMin length kept : Option Nat) (last : Nat) : Prop :=
  (endMin = some last ∧ length = none ∧ given < last) ∨
    (∃ n, endMin = none ∧ length = some n ∧ 1 ≤ n ∧ last = start + n) ∨
    ∃ n, endMin = none ∧ length = none ∧ kept = some n ∧ last = start + n

/-- All the spans that `formEnd` gives. -/
theorem formEnd_eq_some_iff {given : Nat} {r : Bool} {endMin length kept : Option Nat} :
    formEnd given start r endMin length kept = some sp ↔
      ∃ last, Asks given start endMin length kept last ∧ sp = spanTo start r last ∧ start + 5 ≤ ceilGrid last ∧
        ceilGrid last ≤ start + 1440 := by
  rcases endMin with - | e <;> rcases length with - | k <;> rcases kept with - | j <;>
    simp [formEnd, Asks, spanTo, lengthOk_iff, Nat.one_le_iff_ne_zero, Option.ite_none_right_eq_some, and_assoc] <;> tauto

/-- A host request's form names the end that it asks for. -/
theorem Asks.last_eq {given last : Nat} {endMin length : Option Nat} (h : Asks given start endMin length none last) :
    (∀ e, endMin = some e → last = e) ∧ ∀ k, length = some k → last = start + k := by
  rcases h with ⟨he, hl, -⟩ | ⟨k, he, hl, -, hlast⟩ | ⟨k, -, -, hnone, -⟩
  · simp [he, hl]
  · simp [he, hl, hlast]
  · simp at hnone

/-- A span of R37 that a host request gets, by its fields. -/
theorem formSpan_eq_some_iff {f : SpanForm} {kept : Option Nat} :
    formSpan now f kept = some sp ↔ f.startMin ≤ now + 259200 ∧
      ∃ last, Asks f.startMin (floorGrid f.startMin) f.endMin f.length kept last ∧
        sp = spanTo (floorGrid f.startMin) (decide (f.startMin % 5 ≠ 0)) last ∧
        floorGrid f.startMin + 5 ≤ ceilGrid last ∧ ceilGrid last ≤ floorGrid f.startMin + 1440 := by
  rw [← formEnd_eq_some_iff, formSpan, Config.ahead]
  split
  · simp; omega
  · simp; omega

/-- R41 step 8 on a span that stands. -/
theorem amendSpan_eq_some_iff {b : Booking} :
    amendSpan now f b = some sp ↔ amendForm now f b = some sp ∧ (b.state = .awaiting ∨ b.state = .inUse → now + 5 ≤ sp.endMin) := by
  simp only [amendSpan, Option.filter_eq_some_iff]
  simp only [Bool.not_eq_true', Bool.and_eq_false_iff, Bool.or_eq_false_iff, decide_eq_false_iff_not, not_lt]
  tauto

theorem amendSpan_of_booked {b : Booking} (hs : b.state = .booked ∨ b.state = .displaced) :
    amendSpan now f b = amendForm now f b := by
  refine Option.ext fun sp => ?_
  rw [amendSpan_eq_some_iff]
  rcases hs with hs | hs <;> simp [hs]

/-- A length kept is rounded up as a given one is (log 17). -/
theorem formEnd_kept {given : Nat} {r : Bool} {k : Nat} (hk : 1 ≤ k) :
    formEnd given start r none none (some k) = formEnd given start r none (some k) none := by
  simp [formEnd, Nat.one_le_iff_ne_zero.mp hk]

/-- A form with an end or a length of its own keeps none. -/
theorem formEnd_given {given : Nat} {r : Bool} {endMin length kept : Option Nat} (h : endMin.isSome = true ∨ length.isSome = true) :
    formEnd given start r endMin length kept = formEnd given start r endMin length none := by
  rcases endMin with - | e <;> rcases length with - | k <;> simp_all [formEnd]

theorem spans_of_booked {b : Booking} (hs : b.state = .booked ∨ b.state = .displaced) :
    (∀ m, f.startMin = some m →
      (f.endMin.isSome = true ∨ f.length.isSome = true →
        amendSpan now f b = formSpan now ⟨m, f.endMin, f.length⟩ none) ∧
      (f.endMin = none → f.length = none → b.startMin < b.endMin →
        amendSpan now f b = formSpan now ⟨m, none, some (b.endMin - b.startMin)⟩ none)) ∧
    (f.startMin = none → f.endMin = none → f.length = none →
      amendSpan now f b = some ⟨b.startMin, b.endMin, false, false⟩) ∧
    (∀ e last, f.startMin = none →
      f.endMin = some last ∧ f.length = none ∧ b.startMin < last ∨
        (∃ n, f.endMin = none ∧ f.length = some n ∧ 1 ≤ n ∧ last = b.startMin + n) →
      e = (last + 4) / 5 * 5 → b.startMin + 5 ≤ e → e ≤ b.startMin + 1440 →
      amendSpan now f b = some ⟨b.startMin, e, false, decide (e ≠ last)⟩) := by
  rw [amendSpan_of_booked hs]
  refine ⟨fun m hm => ⟨fun hgiven => ?_, fun hne hnl hlt => ?_⟩, fun hm he hl => ?_, fun e last hm hask he hmin hmax => ?_⟩
  · simp only [amendForm, hm, formSpan, formEnd_given hgiven]
  · simp only [amendForm, hm, hne, hnl, formSpan, formEnd_kept (show 1 ≤ b.endMin - b.startMin by omega)]
  · simp [amendForm, hm, amendEnds, he, hl]
  · have hends : amendEnds f = true := by
      rcases hask with ⟨h, -⟩ | ⟨k, -, h, -⟩ <;> simp [amendEnds, h]
    have hform : amendForm now f b = formEnd b.startMin b.startMin false f.endMin f.length none := by
      simp [amendForm, hm, hends]
    rw [← ceilGrid_eq] at he
    rw [hform, formEnd_eq_some_iff]
    refine ⟨last, hask.imp_right .inl, ?_, he ▸ hmin, he ▸ hmax⟩
    rw [spanTo, ← he, SpanOut.mk.injEq]
    refine ⟨rfl, rfl, rfl, decide_eq_decide.mpr ?_⟩
    rw [he, ceilGrid_eq]
    omega

/-- Settles O14, by what `formEnd` asks for. -/
theorem spansLieOnTheGrid : Obligations.SpansLieOnTheGrid := by
  refine ⟨fun now f b => ⟨fun sp h => (amendSpan_eq_some_iff.mp h).2, spans_of_booked⟩, fun now f => ⟨?_, ?_, ?_⟩⟩
  · intro sp h
    obtain ⟨-, last, hask, rfl, hmin, hmax⟩ := formSpan_eq_some_iff.mp h
    obtain ⟨hend, hlength⟩ := hask.last_eq
    simp only [spanTo, decide_eq_true_eq, floorGrid_eq, ceilGrid_eq] at hmin hmax hlength ⊢
    refine ⟨by omega, by omega, by omega, by omega, hmin, hmax, fun e he => ?_, fun k hk => ?_, by omega, fun e he => ?_,
      fun k hk => ?_⟩
    · have := hend e he; omega
    · have := hlength k hk; omega
    · have := hend e he; omega
    · have := hlength k hk; omega
  · intro hnear
    refine ⟨fun e he hl hlt hmax => ?_, fun k he hl hk hmax => ?_⟩
    · refine ⟨_, formSpan_eq_some_iff.mpr ⟨hnear, e, .inl ⟨he, hl, hlt⟩, rfl, ?_, ?_⟩⟩ <;>
        rw [floorGrid_eq, ceilGrid_eq] <;> omega
    · refine ⟨_, formSpan_eq_some_iff.mpr ⟨hnear, _, .inr (.inl ⟨k, he, hl, hk, rfl⟩), rfl, ?_, ?_⟩⟩ <;>
        rw [floorGrid_eq, ceilGrid_eq] <;> omega
  · intro hbad
    refine Option.eq_none_iff_forall_ne_some.mpr fun sp h => ?_
    obtain ⟨hnear, last, hask, -⟩ := formSpan_eq_some_iff.mp h
    rcases hask with ⟨he, hl, hlt⟩ | ⟨j, he, hl, hj, -⟩ | ⟨j, -, -, hnone, -⟩
    · rcases hbad with ⟨-, h2⟩ | ⟨h1, -⟩ | h3 | ⟨e, h4, hle⟩ | h5
      · simp [hl] at h2
      · simp [he] at h1
      · simp [hl] at h3
      · rw [he, Option.some.injEq] at h4
        omega
      · omega
    · rcases hbad with ⟨h1, -⟩ | ⟨-, h2⟩ | h3 | ⟨e, h4, -⟩ | h5
      · simp [he] at h1
      · simp [hl] at h2
      · rw [hl, Option.some.injEq] at h3
        omega
      · simp [he] at h4
      · omega
    · simp at hnone

end Sys2Proof.Machine
end

section
/-! SUPPORT. Starts and ends at a minute event (R48 to R50): one booking by the table, and the whole event. -/

namespace Sys2Proof.Machine

variable {s t : State} {i j m : Nat} {b x : Booking} {h : Handle} {k : ExitKind}

/-! ### What an exit leaves of the other bookings -/

theorem bookingAt_reportRoom (s : State) (r i : Nat) : (s.reportRoom r).bookingAt i = s.bookingAt i := rfl

@[simp] theorem bookingAt_unplan (s : State) (h : Handle) (i : Nat) : (s.unplan h).bookingAt i = s.bookingAt i :=
  State.bookingAt_congr (by rw [unplan_keeps]) i

theorem bookingAt_setUncounted_other {st : OrderState} {c : Option Nat} (hi : i ≠ h.idx) :
    (s.setUncounted h st c).bookingAt i = s.bookingAt i :=
  (State.bookingAt_modOrder_other (Ne.symm hi)).trans (bookingAt_unplan s h i)

theorem bookingAt_cateringFailure_other (hi : i ≠ j) : (s.cateringFailure j).bookingAt i = s.bookingAt i :=
  State.bookingAt_modBooking_other (Ne.symm hi)

theorem bookingAt_strand_other {p : Bool} (hi : i ≠ j) : (s.strand j p).bookingAt i = s.bookingAt i := by
  have ho : (s.modOrder j fun o => { o with state := .stranded }).bookingAt i = s.bookingAt i :=
    State.bookingAt_modOrder_other (Ne.symm hi)
  cases p
  · exact ho
  · exact (bookingAt_cateringFailure_other hi).trans ho

/-- What an exit does to an order (R148): nothing, or the order is voided or stranded. -/
theorem exitOrder_cases (s : State) (h : Handle) (k : ExitKind) :
    s.exitOrder h k = s ∨ s.exitOrder h k = s.voidOrder h ∨ ∃ p, s.exitOrder h k = s.strand h.idx p := by
  unfold State.exitOrder
  split
  · exact .inl rfl
  · split
    case h_1 | h_2 | h_3 => exact .inr (.inl rfl)
    case h_4 =>
      split
      · exact .inl rfl
      · exact .inr (.inr ⟨_, rfl⟩)
    case h_5 => exact .inr (.inr ⟨_, rfl⟩)
    all_goals exact .inl rfl

theorem bookingAt_exitOrder_other (hi : i ≠ h.idx) : (s.exitOrder h k).bookingAt i = s.bookingAt i := by
  rcases exitOrder_cases s h k with he | he | ⟨p, he⟩ <;> rw [he]
  · exact bookingAt_setUncounted_other hi
  · exact bookingAt_strand_other hi

/-- All that the Series Unit's count of a release changes (R62, R63). -/
theorem seriesRelease_keeps (s : State) (id : Nat) : s.seriesRelease id =
    { s with series := (s.seriesRelease id).series, notice := { s.notice with series := (s.seriesRelease id).notice.series } } := by
  unfold State.seriesRelease
  split
  · rfl
  · dsimp only
    split <;> rfl

theorem bookingAt_returnChannel_other (hi : i ≠ j) : (s.returnChannel j).bookingAt i = s.bookingAt i := by
  unfold State.returnChannel
  split
  · rfl
  · split
    · rfl
    · dsimp only
      split <;> exact State.bookingAt_modBooking_other (Ne.symm hi)

/-- The last step of R36: the series hears of a release. -/
def State.exitSeries (s : State) (link : Option Nat) (k : ExitKind) : State :=
  match link with
  | some id => if k = .release then s.seriesRelease id else s
  | none => s

theorem exitSeries_keeps (s : State) (link : Option Nat) (k : ExitKind) : s.exitSeries link k =
    { s with series := (s.exitSeries link k).series
             notice := { s.notice with series := (s.exitSeries link k).notice.series } } := by
  unfold State.exitSeries
  split
  · split
    · exact seriesRelease_keeps s _
    · rfl
  · rfl

/-- The four steps of R36 one after the other. -/
theorem leaveActive_eq (hb : s.bookingAt j = some b) :
    s.leaveActive j k =
      (((s.takeOffTimeline b.room b.handle).returnChannel j).exitOrder b.handle k).exitSeries b.series k := by
  cases hs : b.series <;> simp [State.leaveActive, hb, hs, State.exitSeries]

theorem bookingAt_exitSeries (s : State) (link : Option Nat) (k : ExitKind) (i : Nat) :
    (s.exitSeries link k).bookingAt i = s.bookingAt i := State.bookingAt_congr (by rw [exitSeries_keeps]) i

/-- A booking that leaves the active states changes no other. -/
theorem bookingAt_leaveActive_other (hb : s.bookingAt j = some b) (hj : b.handle.idx = j) (hi : i ≠ j) :
    (s.leaveActive j k).bookingAt i = s.bookingAt i := by
  rw [leaveActive_eq hb, bookingAt_exitSeries, bookingAt_exitOrder_other (by rwa [hj]), bookingAt_returnChannel_other hi]
  rfl

/-! ### What an exit leaves of the rooms and the store -/

theorem store_exitOrder (s : State) (h : Handle) (k : ExitKind) : (s.exitOrder h k).store = s.store := by
  rcases exitOrder_cases s h k with he | he | ⟨p, he⟩ <;> rw [he]
  · rw [State.voidOrder, State.setUncounted, State.modOrder_store, unplan_keeps]
  · cases p <;> rfl

theorem store_returnChannel (s : State) (j : Nat) : (s.returnChannel j).store = s.store := by
  unfold State.returnChannel
  split
  · rfl
  · split
    · rfl
    · dsimp only
      split <;> rfl

@[simp] theorem store_leaveActive (s : State) (j : Nat) (k : ExitKind) : (s.leaveActive j k).store = s.store := by
  cases hb : s.bookingAt j with
  | none => simp [State.leaveActive, hb]
  | some b => rw [leaveActive_eq hb, exitSeries_keeps, store_exitOrder, store_returnChannel]; rfl

theorem rooms_exitOrder (s : State) (h : Handle) (k : ExitKind) : (s.exitOrder h k).rooms = s.rooms := by
  rcases exitOrder_cases s h k with he | he | ⟨p, he⟩ <;> rw [he]
  · rw [State.voidOrder, State.setUncounted, State.modOrder_rooms, unplan_keeps]
  · cases p <;> rfl

theorem panels_exitOrder (s : State) (h : Handle) (k : ExitKind) : (s.exitOrder h k).panelBus = s.panelBus := by
  rcases exitOrder_cases s h k with he | he | ⟨p, he⟩ <;> rw [he]
  · rw [State.voidOrder, State.setUncounted, State.modOrder_panelBus, unplan_keeps]
  · cases p <;> rfl

/-- A room's timeline after the return of a channel is that before it. -/
theorem timeline_returnChannel (s : State) (j r : Nat) : ((s.returnChannel j).room r).timeline = (s.room r).timeline := by
  unfold State.returnChannel
  split
  · rfl
  · split
    · rfl
    · dsimp only
      split
      · exact timeline_modRoom (f := fun x => { x with noShow := saturate x.noShow }) (fun _ => rfl) _ r
      · rfl

/-- A booking that leaves the active states leaves its room's timeline (R36 step 1). -/
theorem timeline_leaveActive (hb : s.bookingAt j = some b) (r : Nat) :
    ((s.leaveActive j k).room r).timeline = ((s.takeOffTimeline b.room b.handle).room r).timeline := by
  have hrooms : (s.leaveActive j k).rooms = ((s.takeOffTimeline b.room b.handle).returnChannel j).rooms := by
    rw [leaveActive_eq hb, exitSeries_keeps, rooms_exitOrder]
  rw [State.room, hrooms]
  exact timeline_returnChannel ..

theorem not_mem_leaveActive (hb : s.bookingAt j = some b) : b.handle ∉ ((s.leaveActive j k).room b.room).timeline := by
  rw [timeline_leaveActive hb, mem_takeOffTimeline]
  exact fun hmem => hmem.2 rfl rfl

/-! ### CHANGED -/

/-- A CHANGED whose cause has occurred stays so through an exit: what an exit does to the flag is to raise it again. -/
theorem changed_exitOrder (hc : s.notice.changed = .raised) : (s.exitOrder h k).notice.changed = .raised := by
  rcases exitOrder_cases s h k with he | he | ⟨p, he⟩ <;> rw [he]
  · exact hc
  · rw [State.voidOrder, State.setUncounted, State.modOrder_notice, unplan_keeps]
    exact hc
  · cases p
    · exact hc
    · rfl

theorem notice_returnChannel (s : State) (j : Nat) : (s.returnChannel j).notice = s.notice := by
  unfold State.returnChannel
  split
  · rfl
  · split
    · rfl
    · dsimp only
      split <;> rfl

theorem changed_leaveActive (hc : s.notice.changed = .raised) : (s.leaveActive j k).notice.changed = .raised := by
  cases hb : s.bookingAt j with
  | none => simpa [State.leaveActive, hb] using hc
  | some b =>
    rw [leaveActive_eq hb, exitSeries_keeps]
    exact changed_exitOrder (by rw [notice_returnChannel]; exact hc)

theorem changed_release (s : State) (j : Nat) : (s.release j).notice.changed = .raised := changed_leaveActive rfl

/-! ### One booking -/

theorem bookingAt_endBooking_other {f : Attendance → Attendance} (hb : s.bookingAt j = some b) (hj : b.handle.idx = j)
    (hi : i ≠ j) : (s.endBooking j f).bookingAt i = s.bookingAt i := by
  have hat : (s.modBooking j fun b => { b with state := .ended, attendance := f b.attendance }).bookingAt j =
      some { b with state := .ended, attendance := f b.attendance } := by simp [hb]
  exact (bookingAt_leaveActive_other hat hj hi).trans (State.bookingAt_modBooking_other (Ne.symm hi))

theorem bookingAt_release_other (hb : s.bookingAt j = some b) (hj : b.handle.idx = j) (hi : i ≠ j) :
    (s.release j).bookingAt i = s.bookingAt i := by
  have hat : ((s.modBooking j fun b => { b with state := .released, attendance := .noShow }).markBooking j).bookingAt j =
      some { b with state := .released, attendance := .noShow, mark := true } := by
    change ((s.modBooking j _).modBooking j _).bookingAt j = _
    simp [hb]
  refine (bookingAt_leaveActive_other hat hj hi).trans ?_
  exact (State.bookingAt_modBooking_other (Ne.symm hi)).trans (State.bookingAt_modBooking_other (Ne.symm hi))

theorem bookingAt_startOne_other (hi : i ≠ h.idx) : (s.startOne m h).bookingAt i = s.bookingAt i := by
  rcases startOne_cases s m h with ⟨he, -⟩ | ⟨b, f, r, -, -, -, he, -⟩ <;> rw [he]
  exact State.bookingAt_modBooking_other (Ne.symm hi)

/-- What the end of a booking is at a minute event (R49, R50). -/
theorem endOne_eq (s : State) (m : Nat) (h : Handle) :
    s.endOne m h = s ∨ s.endOne m h = s.release h.idx ∨ ∃ f, s.endOne m h = s.endBooking h.idx f := by
  unfold State.endOne
  split
  · exact .inl rfl
  · split
    · split
      · exact .inr (.inr ⟨_, rfl⟩)
      · split
        · exact .inr (.inl rfl)
        · exact .inr (.inr ⟨_, rfl⟩)
      · exact .inl rfl
    · exact .inl rfl

theorem bookingAt_endOne_other (hb : s.bookingAt h.idx = some b) (hj : b.handle.idx = h.idx) (hi : i ≠ h.idx) :
    (s.endOne m h).bookingAt i = s.bookingAt i := by
  rcases endOne_eq s m h with he | he | ⟨f, he⟩ <;> rw [he]
  · exact bookingAt_release_other hb hj hi
  · exact bookingAt_endBooking_other hb hj hi

/-- What a booking is after its exit: all but its order and mark. -/
theorem Exits.booking {y : Booking} (he : Exits j b y s t) :
    ∃ x, t.bookingAt j = some x ∧ x.state = y.state ∧ x.attendance = y.attendance ∧ x.timer = y.timer ∧
      x.endMin = y.endMin ∧ (y.mark = true → x.mark = true) := by
  obtain ⟨x, hx, mk, o, hm, rfl⟩ := some_of_rel he.own rfl
  exact ⟨_, hx, rfl, rfl, rfl, rfl, hm⟩

/-- Settles O20, by the cases of R48 to R50. -/
theorem startsAndEndsByTheTable : Obligations.StartsAndEndsByTheTable := by
  intro s m h b hb hh _
  subst hh
  refine ⟨fun hs hm => ⟨fun hc => ?_, fun hc hp ho => ?_, fun hc ho => ?_⟩, fun hno => ?_, fun hs hm => ?_,
    fun c hs hm hc => ⟨fun hrun => ?_, fun hsus => ?_⟩, fun hm => ?_,
    fun j hj => ⟨bookingAt_startOne_other hj, bookingAt_endOne_other hb rfl hj⟩⟩
  · have he : s.startOne m b.handle = (s.modBooking b.handle.idx fun x => { x with state := .inUse }).reportRoom b.room := by
      simp [State.startOne, hb, hs, hm, hc]
    rw [he]
    exact (State.bookingAt_modBooking_same _ _).trans (by rw [hb]; rfl)
  · simp [State.startOne, hb, hs, hc, hp, ho]
  · have hno : ¬ (s.panelAvailable b.room = true ∧ b.startMin = m + (s.room b.room).earlyOpen) := by
      rcases ho with ho | ho <;> simp [ho]
    have he : s.startOne m b.handle = (s.modBooking b.handle.idx fun x =>
        { x with state := .inUse, checkin := .exempt, attendance := .unknown }).reportRoom b.room := by
      simp only [State.startOne, hb, hs, hm, hc, and_self, if_true, if_neg hno]
    rw [he]
    exact (State.bookingAt_modBooking_same _ _).trans (by rw [hb]; rfl)
  · have hnot : ¬ (b.state = .booked ∧ b.startMin ≤ m) := fun hn => hno.elim (· hn.1) (by omega)
    simp only [State.startOne, hb, if_neg hnot]
  · have he : s.endOne m b.handle = s.endBooking b.handle.idx id := by simp [State.endOne, hb, hm, hs]
    have hat : (s.modBooking b.handle.idx fun b => { b with state := .ended, attendance := id b.attendance }).bookingAt
        b.handle.idx = some { b with state := .ended } := by simp [hb]
    obtain ⟨x, hx, hst, hatt, htimer, hend, -⟩ := (exits_endBooking hb rfl id).booking
    rw [he]
    exact ⟨x, hx, hst, hatt, htimer, hend, not_mem_leaveActive (b := { b with state := .ended }) hat⟩
  · have he : s.endOne m b.handle = s.release b.handle.idx := by simp [State.endOne, hb, hm, hs, hc, hrun]
    obtain ⟨x, hx, hst, hatt, htimer, -, hmark⟩ := (exits_release hb rfl).booking
    rw [he]
    exact ⟨x, hx, hst, hatt, hmark rfl, htimer, changed_release s _⟩
  · have he : s.endOne m b.handle = s.endBooking b.handle.idx fun _ => .unknown := by
      simp [State.endOne, hb, hm, hs, hc, hsus]
    obtain ⟨x, hx, hst, hatt, htimer, -⟩ := (exits_endBooking hb rfl fun _ => .unknown).booking
    rw [he]
    exact ⟨x, hx, hst, hatt, htimer⟩
  · simp [State.endOne, hb, Nat.not_le.mpr hm]

/-! ### The whole event -/

/-- What a start depends on beside its booking: the panels, and each room's panel and early_open (R48). -/
def State.setting (s : State) : List Panel × (Nat → Option Nat × Nat) :=
  (s.panelBus.panels, fun r => ((s.room r).panel, (s.room r).earlyOpen))

theorem setting_modRoom {q : Nat} {f : Room → Room} (hf : ∀ x, (f x).panel = x.panel ∧ (f x).earlyOpen = x.earlyOpen)
    (s : State) : (s.modRoom q f).setting = s.setting := by
  refine Prod.ext rfl (funext fun r => ?_)
  simp only [State.setting, State.room, State.modRoom, getD_modify]
  split
  · exact Prod.ext (hf _).1 (hf _).2
  · rfl

theorem setting_returnChannel (s : State) (j : Nat) : (s.returnChannel j).setting = s.setting := by
  unfold State.returnChannel
  split
  · rfl
  · split
    · rfl
    · dsimp only
      split
      · exact setting_modRoom (f := fun x => { x with noShow := saturate x.noShow }) (fun _ => ⟨rfl, rfl⟩) _
      · rfl

theorem setting_leaveActive (s : State) (j : Nat) (k : ExitKind) : (s.leaveActive j k).setting = s.setting := by
  cases hb : s.bookingAt j with
  | none => simp [State.leaveActive, hb]
  | some b =>
    have hroom (u : State) (link : Option Nat) (h : Handle) : ((u.exitOrder h k).exitSeries link k).setting = u.setting := by
      rw [exitSeries_keeps]
      exact Prod.ext (by simp only [State.setting, panels_exitOrder])
        (by simp only [State.setting, State.room, rooms_exitOrder])
    rw [leaveActive_eq hb, hroom, setting_returnChannel]
    exact setting_modRoom (f := fun x => { x with timeline := x.timeline.filter (· ≠ b.handle) }) (fun _ => ⟨rfl, rfl⟩) s

theorem panelAvailable_of_setting (hs : t.setting = s.setting) (r : Nat) : t.panelAvailable r = s.panelAvailable r := by
  obtain ⟨hpanels, hrooms⟩ := Prod.ext_iff.mp hs
  replace hpanels : t.panelBus.panels = s.panelBus.panels := hpanels
  have hpanel : (t.room r).panel = (s.room r).panel := congrArg Prod.fst (congrFun hrooms r)
  cases hp : (s.room r).panel with
  | none => simp [State.panelAvailable, hpanel, hp]
  | some p => simp [State.panelAvailable, State.panel, hpanel, hp, hpanels]

theorem earlyOpen_of_setting (hs : t.setting = s.setting) (r : Nat) : (t.room r).earlyOpen = (s.room r).earlyOpen :=
  congrArg Prod.snd (congrFun (Prod.ext_iff.mp hs).2 r)

/-- The start of the booking has been taken at the minute, in the setting of `s`: it is not BOOKED with its start come, unless
it is left to its window opening (R48). -/
def State.StartTaken (s : State) (m : Nat) (b : Booking) : Prop :=
  b.state = .booked → b.startMin ≤ m →
    b.checkin = .required ∧ s.panelAvailable b.room = true ∧ b.startMin = m + (s.room b.room).earlyOpen

/-- The booking's end has been taken: it is not AWAITING or IN_USE with its end come (R49, R50). -/
def EndTaken (m : Nat) (b : Booking) : Prop := b.state = .inUse ∨ b.state = .awaiting → m < b.endMin

/-- What each operation of a minute event does to the bookings: entry `j` alone may change its state, and to one that no
start and no end waits for, once taken. Nothing here supposes the handles agreed. -/
structure Passes (j : Nat) (s t : State) : Prop where
  setting : t.setting = s.setting
  store : t.store = s.store
  shrinks : Shrinks s t
  others : ∀ i, i ≠ j → Option.Rel Kept (s.bookingAt i) (t.bookingAt i)

theorem Passes.refl (j : Nat) (s : State) : Passes j s s := ⟨rfl, rfl, fun _ _ => id, fun _ _ => rel_refl _⟩

/-- An exit from entry `j`, whatever handle the booking there carries. -/
theorem passes_leaveActive (s : State) (j : Nat) (k : ExitKind) : Passes j s (s.leaveActive j k) := by
  refine ⟨setting_leaveActive s j k, store_leaveActive s j k, fun r h => ?_, fun i hi => ?_⟩
  all_goals cases hb : s.bookingAt j with
    | none => simp [State.leaveActive, hb, rel_refl]
    | some b => ?_
  · rw [timeline_leaveActive hb]
    exact fun hmem => (mem_takeOffTimeline.mp hmem).1
  · rw [leaveActive_eq hb, bookingAt_exitSeries]
    have ho := (touches_exitOrder (j := i + 1) (d := none) (s := (s.takeOffTimeline b.room b.handle).returnChannel j)
      (h := b.handle) (k := k)).others i (by omega)
    rwa [bookingAt_returnChannel_other hi] at ho

theorem passes_modBooking (s : State) (j : Nat) (f : Booking → Booking) : Passes j s (s.modBooking j f) :=
  ⟨rfl, rfl, fun _ _ => id, fun i hi => by rw [State.bookingAt_modBooking_other (Ne.symm hi)]; exact rel_refl _⟩

theorem Passes.trans {u : State} (hs : Passes j s t) (ht : Passes j t u) : Passes j s u :=
  ⟨ht.setting.trans hs.setting, ht.store.trans hs.store, hs.shrinks.trans ht.shrinks,
    fun i hi => rel_trans (R := Kept) Kept.trans (hs.others i hi) (ht.others i hi)⟩

theorem Passes.report (ht : Passes j s t) (r : Nat) : Passes j s (t.reportRoom r) :=
  ⟨ht.setting, ht.store, ht.shrinks, ht.others⟩

theorem passes_markBooking (s : State) (j : Nat) : Passes j s (s.markBooking j) :=
  let hm := passes_modBooking s j fun b => { b with mark := true }
  ⟨hm.setting, hm.store, hm.shrinks, hm.others⟩

theorem passes_startOne (s : State) (m : Nat) (h : Handle) : Passes h.idx s (s.startOne m h) := by
  rcases startOne_cases s m h with ⟨he, -⟩ | ⟨b, f, r, -, -, -, he, -⟩ <;> rw [he]
  · exact .refl _ s
  · exact (passes_modBooking s h.idx f).report r

theorem passes_endOne (s : State) (m : Nat) (h : Handle) : Passes h.idx s (s.endOne m h) := by
  rcases endOne_eq s m h with he | he | ⟨f, he⟩ <;> rw [he]
  · exact .refl _ s
  · exact ((passes_modBooking s h.idx _).trans (passes_markBooking _ h.idx)).trans (passes_leaveActive _ _ _)
  · exact (passes_modBooking s h.idx _).trans (passes_leaveActive _ _ _)


/-! ### Starts and ends, once taken, stay taken -/

theorem StartTaken.congr (hs : t.setting = s.setting) : t.StartTaken m b ↔ s.StartTaken m b := by
  simp only [State.StartTaken, panelAvailable_of_setting hs, earlyOpen_of_setting hs]

theorem Kept.startTaken (h : Kept b x) (hb : s.StartTaken m b) : s.StartTaken m x := by
  obtain ⟨mk, o, -, rfl⟩ := h
  exact hb

theorem Kept.endTaken (h : Kept b x) (hb : EndTaken m b) : EndTaken m x := by
  obtain ⟨mk, o, -, rfl⟩ := h
  exact hb

theorem startTaken_of_inactive (ha : b.state.active = false) : s.StartTaken m b := fun hs => by
  simp [hs, BookingState.active] at ha

theorem endTaken_of_inactive (ha : b.state.active = false) : EndTaken m b := fun hs => by
  rcases hs with hs | hs <;> simp [hs, BookingState.active] at ha

/-- Both the start and the end of a booking have been taken. -/
def State.BothTaken (s : State) (m : Nat) (b : Booking) : Prop := s.StartTaken m b ∧ EndTaken m b

theorem Kept.bothTaken (h : Kept b x) (hb : s.BothTaken m b) : s.BothTaken m x := ⟨h.startTaken hb.1, h.endTaken hb.2⟩

theorem Passes.at_other {R : Booking → Prop} (hR : ∀ {b x}, Kept b x → R b → R x) (h : Passes j s t) (hi : i ≠ j)
    (hs : s.At i R) : t.At i R := by
  intro x hx
  obtain ⟨b, hb, hbx⟩ := rel_of_some (h.others i hi) hx
  exact hR hbx (hs b hb)

theorem startOne_startTaken (s : State) (m : Nat) (h : Handle) : (s.startOne m h).At h.idx (s.StartTaken m) := by
  intro x hx hs hm
  cases hb : s.bookingAt h.idx with
  | none =>
    simp [State.startOne, hb] at hx
  | some b =>
    rcases startOne_cases s m h with ⟨he, -⟩ | ⟨b', f, r, hb', -, -, he, hf⟩
    · rw [he, hb, Option.some.injEq] at hx
      subst hx
      by_contra hno
      have hst : ((s.startOne m h).bookingAt h.idx).map Booking.state = some .inUse := by
        cases hc : b.checkin with
        | exempt => simp [State.startOne, hb, hs, hm, hc, bookingAt_reportRoom]
        | required =>
          have hdue : ¬ (s.panelAvailable b.room = true ∧ b.startMin = m + (s.room b.room).earlyOpen) :=
            fun hd => hno ⟨hc, hd⟩
          simp [State.startOne, hb, hs, hm, hc, hdue, bookingAt_reportRoom]
      rw [he, hb] at hst
      simp [hs] at hst
    · rw [he, bookingAt_reportRoom, State.bookingAt_modBooking_same, hb'] at hx
      obtain rfl : f b' = x := by simpa using hx
      simp [(hf b').1] at hs

/-- A booking whose start is taken is not started again. -/
theorem startOne_of_startTaken (hs : s.At h.idx (s.StartTaken m)) : s.startOne m h = s := by
  cases hb : s.bookingAt h.idx with
  | none => simp [State.startOne, hb]
  | some b =>
    by_cases hdue : b.state = .booked ∧ b.startMin ≤ m
    · obtain ⟨hc, hp, ho⟩ := hs b hb hdue.1 hdue.2
      simp only [State.startOne, hb, if_pos hdue, hc, if_pos (And.intro hp ho)]
    · simp only [State.startOne, hb, if_neg hdue]

theorem state_leaveActive (hb : s.bookingAt j = some b) : (s.leaveActive j k).At j (·.state = b.state) := by
  intro x hx
  rw [leaveActive_eq hb, bookingAt_exitSeries] at hx
  have ho := (touches_exitOrder (j := j + 1) (d := none) (s := (s.takeOffTimeline b.room b.handle).returnChannel j)
    (h := b.handle) (k := k)).others j (by omega)
  have hoff : (s.takeOffTimeline b.room b.handle).bookingAt j = some b := hb
  rw [bookingAt_returnChannel hoff] at ho
  obtain ⟨y, hy, mk, o, -, rfl⟩ := rel_of_some ho hx
  obtain rfl := Option.some.inj hy
  rfl

/-- An end that is due takes its booking out of the active states; one that is not changes nothing. -/
theorem endOne_taken (s : State) (m : Nat) (h : Handle) :
    (s.endOne m h = s ∧ s.At h.idx (EndTaken m)) ∨ (s.endOne m h).At h.idx (·.state.active = false) := by
  have hended (f : Attendance → Attendance) : (s.endBooking h.idx f).At h.idx (·.state.active = false) := fun x hx => by
    cases hb : s.bookingAt h.idx with
    | none => simp [State.endBooking, State.leaveActive, hb] at hx
    | some b =>
      have hat : (s.modBooking h.idx fun b => { b with state := .ended, attendance := f b.attendance }).bookingAt h.idx =
          some { b with state := .ended, attendance := f b.attendance } := by simp [hb]
      rw [state_leaveActive hat x hx]
      rfl
  have hreleased : (s.release h.idx).At h.idx (·.state.active = false) := fun x hx => by
    cases hb : s.bookingAt h.idx with
    | none =>
      have hnone : ((s.modBooking h.idx fun b => { b with state := .released, attendance := .noShow }).markBooking
          h.idx).bookingAt h.idx = none := by
        change ((s.modBooking h.idx _).modBooking h.idx _).bookingAt h.idx = _
        simp [hb]
      simp [State.release, State.leaveActive, hnone] at hx
    | some b =>
      have hat : ((s.modBooking h.idx fun b => { b with state := .released, attendance := .noShow }).markBooking
          h.idx).bookingAt h.idx = some { b with state := .released, attendance := .noShow, mark := true } := by
        change ((s.modBooking h.idx _).modBooking h.idx _).bookingAt h.idx = _
        simp [hb]
      rw [state_leaveActive hat x hx]
      rfl
  cases hb : s.bookingAt h.idx with
  | none => exact .inl ⟨by simp [State.endOne, hb], fun b hb' => by simp [hb] at hb'⟩
  | some b =>
    by_cases hdue : (b.state = .inUse ∨ b.state = .awaiting) ∧ b.endMin ≤ m
    · right
      rcases hdue with ⟨hs | hs, hm⟩
      · have he : s.endOne m h = s.endBooking h.idx id := by simp [State.endOne, hb, hm, hs]
        exact he ▸ hended id
      · simp only [State.endOne, hb, if_pos hm, hs]
        split
        · exact hreleased
        · exact hended _
    · left
      refine ⟨?_, fun b' hb' ha => ?_⟩
      · unfold State.endOne
        simp only [hb]
        split
        · rename_i hm
          split <;> simp_all
        · rfl
      · obtain rfl : b = b' := by simpa [hb] using hb'
        by_contra hlt
        exact hdue ⟨ha, by omega⟩

/-! ### The rooms one after the other -/

section Event

variable {s0 : State}

theorem startOne_takes (hs : t.setting = s0.setting) (h : Handle) : (t.startOne m h).At h.idx (s0.StartTaken m) :=
  fun x hx => (StartTaken.congr hs).mp (startOne_startTaken t m h x hx)

theorem startOne_keeps_start (hs : t.setting = s0.setting) (h : Handle) (ht : t.At i (s0.StartTaken m)) :
    (t.startOne m h).At i (s0.StartTaken m) := by
  by_cases hi : i = h.idx
  · exact hi ▸ startOne_takes hs h
  · exact (passes_startOne t m h).at_other Kept.startTaken hi ht

theorem startOne_keeps_both (hs : t.setting = s0.setting) (h : Handle) (ht : t.At i (s0.BothTaken m)) :
    (t.startOne m h).At i (s0.BothTaken m) := by
  by_cases hi : i = h.idx
  · subst hi
    rw [startOne_of_startTaken fun b hb => (StartTaken.congr hs).mpr (ht b hb).1]
    exact ht
  · exact (passes_startOne t m h).at_other Kept.bothTaken hi ht

theorem endOne_keeps_start (h : Handle) (ht : t.At i (s0.StartTaken m)) : (t.endOne m h).At i (s0.StartTaken m) := by
  by_cases hi : i = h.idx
  · subst hi
    rcases endOne_taken t m h with ⟨he, -⟩ | ha
    · rwa [he]
    · exact fun x hx => startTaken_of_inactive (ha x hx)
  · exact (passes_endOne t m h).at_other Kept.startTaken hi ht

theorem endOne_takes (h : Handle) (ht : t.At h.idx (s0.StartTaken m)) : (t.endOne m h).At h.idx (s0.BothTaken m) := by
  rcases endOne_taken t m h with ⟨he, hend⟩ | ha
  · rw [he]
    exact fun b hb => ⟨ht b hb, hend b hb⟩
  · exact fun x hx => ⟨startTaken_of_inactive (ha x hx), endTaken_of_inactive (ha x hx)⟩

theorem endOne_keeps_both (h : Handle) (ht : t.At i (s0.BothTaken m)) : (t.endOne m h).At i (s0.BothTaken m) := by
  by_cases hi : i = h.idx
  · subst hi
    exact endOne_takes h fun b hb => (ht b hb).1
  · exact (passes_endOne t m h).at_other Kept.bothTaken hi ht

/-- What stays through the whole event. -/
structure During (s0 t : State) : Prop where
  setting : t.setting = s0.setting
  store : t.store = s0.store

theorem During.passes {u : State} (ht : During s0 t) (h : Passes j t u) : During s0 u :=
  ⟨h.setting.trans ht.setting, h.store.trans ht.store⟩

/-- The starts of a room, and what stays through them. -/
theorem starts_of_room (ht : During s0 t) (r : Nat) :
    let u := (t.room r).timeline.foldl (fun v h => v.startOne m h) t
    During s0 u ∧ Shrinks t u ∧ ∀ h ∈ (t.room r).timeline, u.At h.idx (s0.StartTaken m) := by
  have hkeep := foldl_invariant (P := fun v => During s0 v ∧ Shrinks t v) (f := fun v h => v.startOne m h)
    (fun v h hv => ⟨hv.1.passes (passes_startOne v m h), hv.2.trans (passes_startOne v m h).shrinks⟩)
    (t.room r).timeline ⟨ht, fun _ _ => id⟩
  refine ⟨hkeep.1, hkeep.2, fun h hh => ?_⟩
  exact foldl_reaches (P := During s0) (fun v k hv => hv.passes (passes_startOne v m k))
    (fun v hv => startOne_takes hv.setting h) (fun v k hv hq => startOne_keeps_start hv.setting k hq) hh ht

/-- One room at the event: nothing on its timeline is left overdue. -/
theorem room_taken (ht : During s0 t) (r : Nat) :
    During s0 (t.startsAndEndsIn m r) ∧
      ∀ h ∈ ((t.startsAndEndsIn m r).room r).timeline, (t.startsAndEndsIn m r).At h.idx (s0.BothTaken m) := by
  obtain ⟨hu, hut, hstarts⟩ := starts_of_room (m := m) ht r
  have hkeep := foldl_invariant (f := fun v h => v.endOne m h)
    (P := fun v => During s0 v ∧ Shrinks ((t.room r).timeline.foldl (fun v h => v.startOne m h) t) v)
    (fun v h hv => ⟨hv.1.passes (passes_endOne v m h), hv.2.trans (passes_endOne v m h).shrinks⟩)
    (((t.room r).timeline.foldl (fun v h => v.startOne m h) t).room r).timeline ⟨hu, fun _ _ => id⟩
  refine ⟨hkeep.1, fun h hh => ?_⟩
  have hmid := hkeep.2 r h hh
  exact foldl_reaches (f := fun v h => v.endOne m h) (P := fun v => v.At h.idx (s0.StartTaken m))
    (Q := fun v => v.At h.idx (s0.BothTaken m)) (fun v k hv => endOne_keeps_start k hv)
    (fun v hv => endOne_takes h hv) (fun v k _ hq => endOne_keeps_both k hq) hmid (hstarts h (hut r h hmid))

/-- What another room's starts and ends leave of it. -/
theorem room_stays_taken (ht : During s0 t) (q r : Nat)
    (hr : ∀ h ∈ (t.room r).timeline, t.At h.idx (s0.BothTaken m)) :
    ∀ h ∈ ((t.startsAndEndsIn m q).room r).timeline, (t.startsAndEndsIn m q).At h.idx (s0.BothTaken m) := by
  intro h hh
  have hstart := foldl_invariant (f := fun v k => v.startOne m k)
    (P := fun v => During s0 v ∧ Shrinks t v ∧ (h ∈ (t.room r).timeline → v.At h.idx (s0.BothTaken m)))
    (fun v k hv => ⟨hv.1.passes (passes_startOne v m k), hv.2.1.trans (passes_startOne v m k).shrinks,
      fun hm => startOne_keeps_both hv.1.setting k (hv.2.2 hm)⟩) (t.room q).timeline ⟨ht, fun _ _ => id, hr h⟩
  have hend := foldl_invariant (f := fun v k => v.endOne m k)
    (P := fun v => Shrinks t v ∧ (h ∈ (t.room r).timeline → v.At h.idx (s0.BothTaken m)))
    (fun v k hv => ⟨hv.1.trans (passes_endOne v m k).shrinks, fun hm => endOne_keeps_both k (hv.2 hm)⟩)
    (((t.room q).timeline.foldl (fun v k => v.startOne m k) t).room q).timeline hstart.2
  exact hend.2 (hend.1 r h hh)

/-- The engine's minute event leaves nothing overdue on a timeline of any room of the table, whatever the records are. -/
theorem startsAndEnds_taken (s0 : State) (m r : Nat) (hr : r < Config.rooms) :
    During s0 (s0.startsAndEnds m) ∧
      ∀ h ∈ ((s0.startsAndEnds m).room r).timeline, (s0.startsAndEnds m).At h.idx (s0.BothTaken m) :=
  ⟨overAll_invariant (P := During s0) (fun q _ hv => (room_taken hv q).1) ⟨rfl, rfl⟩,
    overAll_reaches (P := During s0) (fun q _ hv => (room_taken hv q).1) hr (fun _ hv => (room_taken hv r).2)
      (fun q _ hv hq => room_stays_taken hv q r hq) ⟨rfl, rfl⟩⟩

end Event

/-- What the last acts of the event's step leave. -/
theorem During.doneLists {s0 u before : State} (hduring : During s0 u) (hout : (u.relist before).outside = s0.outside) :
    ∃ t, doneLists before u = .next t ∧ During s0 t ∧ t.owed = s0.owed ∧ t.clock = s0.clock ∧ t.link = s0.link ∧
      t.rooms = u.rooms ∧ t.dir = u.dir := by
  have hrooms := relist_rooms (s := u) before
  have hset : (u.relist before).setting = u.setting :=
    Prod.ext (relist_panels before) (by simp only [State.setting, State.room, hrooms])
  have hattn : (u.relist before).followAttn.setting = (u.relist before).setting := rfl
  refine ⟨_, rfl, ⟨(hattn.trans hset).trans hduring.setting, ?_⟩, (State.followAttn_owed _).trans (owed_of_outside hout),
    (State.followAttn_clock _).trans (clock_of_outside hout), (State.followAttn_link _).trans (link_of_outside hout),
    (State.followAttn_rooms _).trans hrooms, (State.followAttn_dir _).trans (relist_dir before)⟩
  exact ((State.followAttn_store _).trans (relist_store before)).trans hduring.store

theorem outside_event (s0 before : State) (m : Nat) : ((s0.startsAndEnds m).relist before).outside = s0.outside := by
  rw [outside_relist, outside_startsAndEnds]

/-- Settles O21. -/
theorem minuteLeavesNothingOverdue : Obligations.MinuteLeavesNothingOverdue := by
  intro s m rest ho _
  have hexec (s0 : State) (hs0 : s0 = { s with owed := { s.owed with starts := rest } }) :
      exec .startsAndEnds s = doneLists s (s0.startsAndEnds m) := by
    subst hs0
    change execStartsAndEnds s = _
    simp only [execStartsAndEnds, ho]
  obtain ⟨s0, hs0⟩ : ∃ s0 : State, s0 = { s with owed := { s.owed with starts := rest } } := ⟨_, rfl⟩
  obtain ⟨t, ht, hduring, howed, hclock, hlink, hrooms, hdir⟩ :=
    (startsAndEnds_taken s0 m 0 (by decide)).1.doneLists (outside_event s0 s m)
  refine ⟨t, (hexec s0 hs0).trans ht, howed.trans (by rw [hs0]), hclock.trans (by rw [hs0]), hlink.trans (by rw [hs0]),
    hduring.store.trans (by rw [hs0]), fun r hr h hh b hb => ?_⟩
  rw [State.room, hrooms] at hh
  rw [State.bookingAt_congr hdir] at hb
  obtain ⟨hstart, hend⟩ := (startsAndEnds_taken s0 m r hr).2 h hh b hb
  refine ⟨fun hu => ?_, fun hu => ?_, fun hu => ?_⟩
  · have := hend (.inl hu.1); omega
  · have := hend (.inr hu.1); omega
  · obtain ⟨hs, hm, hleft⟩ := hu
    obtain ⟨hc, hp, hopen⟩ := hstart hs hm
    rw [panelAvailable_of_setting hduring.setting, earlyOpen_of_setting hduring.setting] at hleft
    simp [hc, hp, hopen] at hleft

end Sys2Proof.Machine
end

section
/-! SUPPORT. BOOK: the order of its refusals (R38). -/

namespace Sys2Proof.Machine

variable {s s1 t u : State} {ref : HostRef} {tag : Byte} {f : BookForm} {sp : SpanOut} {st : Status} {body : List Field}

/-! ### What the planning computation reads -/

theorem beyond_congr (hc : t.catering = s.catering) (d : Nat) : t.beyond d = s.beyond d := by simp only [State.beyond, hc]
theorem planningScope_congr (hc : t.catering = s.catering) (d : Nat) : t.planningScope d = s.planningScope d := by
  simp only [State.planningScope, hc]

/-- Any state with the same kitchens and load table tries the windows of a kitchen alike. -/
theorem tryWindows_swap (s u : State) (now covers k ready fuel j : Nat) :
    ({ u with kitchens := s.kitchens, catering := s.catering } : State).tryWindows now covers k ready fuel j =
      s.tryWindows now covers k ready fuel j := by
  induction fuel generalizing j with
  | zero => rfl
  | succ fuel ih =>
    simp only [State.tryWindows, ih]
    rfl

/-- The planning computation reads the kitchens and the load table (R137). -/
theorem planAt_congr (hk : t.kitchens = s.kitchens) (hc : t.catering = s.catering) (now covers start b : Nat) :
    t.planAt now covers start b = s.planAt now covers start b := by
  have hswap : ({ s with kitchens := t.kitchens, catering := t.catering } : State).planAt now covers start b =
      t.planAt now covers start b :=
    congrArg (fun g => List.findSome? g (t.kitchensFor b)) (funext fun rk => by
      simp only [State.tryKitchen, tryWindows_swap]
      rfl)
  rw [← hswap, hk, hc]

/-! ### The conditions of R38 in order -/

theorem book_eq_bookSpan (hr : s.running = true) (hc : s.catching = false) (hf : bookFormOk f = true)
    (ht : (s.room f.room).inTable = true) (hm : s.clock.minute ≤ f.span.startMin)
    (hsp : formSpan s.clock.minute f.span none = some sp) : s.book f = s.bookSpan f sp := by
  simp [State.book, hr, hc, hf, ht, Nat.not_lt.mpr hm, hsp]

theorem bookFormOk_eq_false (h : 511 < f.room ∨ f.headCount = 0 ∨ 400 < f.headCount ∨ 63 < f.origin ∨
    40 < (f.note.getD []).length ∨ (∃ n, f.override = some n ∧ 1 < n) ∨ ∃ o, f.order = some o ∧ orderOk o = false) :
    bookFormOk f = false := by
  refine Bool.eq_false_iff.mpr fun hok => ?_
  simp only [bookFormOk, Bool.and_eq_true, decide_eq_true_eq, headOk, noteOk, Config.rooms, Config.buildings] at hok
  obtain ⟨⟨⟨⟨⟨hroom, hhead⟩, horigin⟩, hnote⟩, hcode⟩, horder⟩ := hok
  rcases h with h | h | h | h | h | ⟨n, hn, h⟩ | ⟨o, ho, h⟩
  · exact absurd (of_decide_eq_true hroom) (Nat.not_lt.mpr h)
  · omega
  · omega
  · exact absurd (of_decide_eq_true horigin) (Nat.not_lt.mpr h)
  · omega
  · simp only [hn, codeOk, decide_eq_true_eq] at hcode
    omega
  · simp [ho, orderOptOk, h] at horder

/-- The blocks that a BOOK takes (R20): the head, the note and the order. -/
theorem length_bookingKinds (note : List Byte) (order : Option OrderForm) :
    (bookingKinds (decide (note ≠ [])) order.isSome).length =
      1 + (if note = [] then 0 else 1) + (if order.isSome then 1 else 0) := by
  by_cases hn : note = [] <;> cases order <;> simp [bookingKinds, hn]

/-- The booking that a BOOK makes of what it takes (R33, R38). -/
def bookedAs (s : State) (f : BookForm) (sp : SpanOut) (t : Taken) : Booking :=
  newBooking t f.room sp.startMin sp.endMin f.headCount f.organiser f.origin f.needs f.wants
    (checkinOf f.override (s.room f.room)) .host none f.order (storedNote f.note)

/-- What a BOOK answers once its booking is made, or its creation returned. -/
def bookReply (sp : SpanOut) : Except (Status × State) (State × Handle × Bool) → Reply
  | .error (st, s1) => ⟨s1, st, []⟩
  | .ok (s1, h, tight) => ⟨s1, .ok, s1.bookAnswer h sp tight⟩

/-- A span that nothing on the room's timeline refuses. -/
structure Bookable (s : State) (f : BookForm) (sp : SpanOut) : Prop where
  open_ : (s.room f.room).service ≠ .closing
  clear : (s.room f.room).closedFor sp.startMin sp.endMin = false
  free : s.blocker f.room none sp.startMin sp.endMin = none
  scope : s.seriesScope (sp.startMin / 1440) = false

theorem bookSpan_of_bookable (h : Bookable s f sp) : s.bookSpan f sp =
    bookReply sp (s.makeHostBooking s.clock.minute (bookedAs s f sp) (decide (storedNote f.note ≠ [])) f.order) := by
  simp only [State.bookSpan, h.open_, h.clear, h.free, dayOf, Config.dayMinutes, h.scope]
  simp only [if_false, Bool.false_eq_true]
  rfl

/-- A BOOK with no handle, or with too few blocks. -/
theorem makeHostBooking_noSpace {now : Nat} {mk : Taken → Booking} {note : Bool} {order : Option OrderForm}
    (h : s.dir.fifo = [] ∨ s.store.freeCount < 64 + (bookingKinds note order.isSome).length) :
    s.makeHostBooking now mk note order = .error (.noSpace, s) := by
  have hnone : s.takeRecord (.host (bookingKinds note order.isSome).length) note order.isSome none = none :=
    takeRecord_eq_none (h.imp_right fun hlt => Bool.eq_false_iff.mpr fun ha => by
      have := (admits_host.mp ha).1
      omega)
  simp only [State.makeHostBooking, hnone]

/-- A record that can be had. -/
theorem takeRecord_of_space {i n : Nat} {rest : List Nat} {note order : Bool} {link : Option Nat}
    (hfifo : s.dir.fifo = i :: rest) (hn : n = (bookingKinds note order).length) (hspace : 64 + n ≤ s.store.freeCount) :
    ∃ u k, s.takeRecord (.host n) note order link = some (u, k) := by
  have hadm : (AllocClass.host n).admits s.store.freeCount (bookingKinds note order).length = true :=
    admits_host.mpr ⟨hn ▸ hspace, hspace⟩
  simp only [State.takeRecord, hfifo, allocate_of_admits hadm]
  exact ⟨_, _, rfl⟩

/-- Why the HOST context refuses an order within a BOOK (R138, R152). -/
def PlanRefused (s : State) (room start covers : Nat) (st : Status) : Prop :=
  st = .wait ∧ s.planningScope (start / 1440) = true ∨
    s.planningScope (start / 1440) = false ∧
      (st = .notAllowed ∧ (s.room room).foodAllowed = false ∨
        st = .cateringFull ∧ (s.room room).foodAllowed = true ∧ s.beyond (start / 1440) = false ∧
          s.planAt s.clock.minute covers start (s.room room).building = none)

theorem planHost_error {now : Nat} {b : Booking} {covers : Nat}
    (h : st = .notAllowed ∧ (s.room b.room).foodAllowed = false ∨
      st = .cateringFull ∧ (s.room b.room).foodAllowed = true ∧ s.beyond (b.startMin / 1440) = false ∧
        s.planAt now covers b.startMin (s.room b.room).building = none) :
    s.planHost now b covers = .error st := by
  rcases h with ⟨rfl, hfood⟩ | ⟨rfl, hfood, hbeyond, hplan⟩
  · simp [State.planHost, hfood]
  · simp [State.planHost, hfood, dayOf, Config.dayMinutes, hbeyond, hplan]

/-- A refused plan returns the creation: what is left of it is the STORE flag (R26, R38 steps 11 and 12). -/
theorem makeHostBooking_refused {i : Nat} {rest : List Nat} {mk : Taken → Booking} {note : Bool} {o : OrderForm}
    {room start : Nat} (hmk : ∀ k, (mk k).handle = k.handle ∧ (mk k).room = room ∧ (mk k).startMin = start)
    (hcount : s.stackCounted = true) (hfifo : s.dir.fifo = i :: rest) (hfree : s.bookingAt i = none)
    (hgen : (s.dir.entries.getD i ⟨0, none⟩).generation < 256)
    (hspace : 64 + (bookingKinds note true).length ≤ s.store.freeCount) (hst : PlanRefused s room start o.covers st) :
    ∃ flag, s.makeHostBooking s.clock.minute mk note (some o) =
      .error (st, { s with notice := { s.notice with store := flag } }) := by
  obtain ⟨u, k, hu⟩ := takeRecord_of_space (link := none) hfifo rfl hspace
  obtain ⟨-, -, -, -, -, -, -, -, hkeep⟩ := takeRecord_some hu
  obtain ⟨hhandle, hroom, hstart⟩ := hmk k
  have hret := (returnCreation_takeRecord (stackCounted_iff.mp hcount) hfifo hfree hgen hu hhandle).2
  have hkit : (u.enter (mk k)).kitchens = s.kitchens := by rw [State.enter_kitchens, hkeep]
  have hcat : (u.enter (mk k)).catering = s.catering := by rw [State.enter_catering, hkeep]
  have hrooms (r : Nat) : (u.enter (mk k)).room r = s.room r := by rw [State.room, State.enter_rooms, hkeep]; rfl
  refine ⟨u.notice.store, ?_⟩
  rw [← hret]
  simp only [State.makeHostBooking, Option.isSome_some, hu, planningScope_congr hcat, hstart, dayOf, Config.dayMinutes]
  rcases hst with ⟨rfl, hscope⟩ | ⟨hscope, hplan⟩
  · simp [hscope]
  · have herr : (u.enter (mk k)).planHost s.clock.minute (mk k) o.covers = .error st := by
      refine planHost_error ?_
      rw [hroom, hrooms, hstart, beyond_congr hcat, planAt_congr hkit hcat]
      exact hplan
    simp [hscope, herr]

/-! ### The refusals as BOOK answers them -/

theorem book_answers (ht : s.taken (.book tag f) = some (s1, ref)) (ho : s1.book f = ⟨s1, st, body⟩) :
    exec (.book tag f) s = .next (s1.answered ref st body) := taken_reads (owner := fun u => u.book f) rfl ht ho

/-- A refused plan as BOOK answers it. -/
theorem book_returns {flag : Bool} (ht : s.taken (.book tag f) = some (s1, ref))
    (ho : s1.book f = ⟨{ s1 with notice := { s1.notice with store := flag } }, st, []⟩) :
    ∃ t, exec (.book tag f) s = .next t ∧ t.link = (s1.answer ref st []).link ∧
      t = { s1 with notice := { s1.notice with store := t.notice.store }, link := t.link, attn := t.attn } := by
  have hexec := hostNow_plain (owner := fun u => u.book f) (takeRequest_of_taken rfl ht) ho rfl rfl rfl
  refine ⟨_, hexec,
    answer_link_congr (s := s1) (t := { s1 with notice := { s1.notice with store := flag } }) rfl st [], ?_⟩
  rw [State.answered, answer_keeps]
  rfl

/-- Settles O15, condition by condition. -/
theorem bookRefusalsInOrder : Obligations.BookRefusalsInOrder := by
  intro s s1 ref tag f ht
  refine ⟨fun hr => ?_, fun hr hc => ?_, fun hr hc => ⟨fun hbad => ?_, fun hf => ⟨fun hin => ?_, fun hin => ⟨fun hm => ?_, fun hm =>
    ⟨fun hsp => ?_, fun sp hsp => ?_⟩⟩⟩⟩⟩
  · exact book_answers ht (by simp [State.book, hr, refuse])
  · exact book_answers ht (by simp [State.book, hr, hc, refuse])
  · exact book_answers ht (by simp [State.book, hr, hc, bookFormOk_eq_false hbad, refuse])
  · exact book_answers ht (by simp [State.book, hr, hc, hf, hin, refuse])
  · exact book_answers ht (by simp [State.book, hr, hc, hf, hin, hm, refuse])
  · exact book_answers ht (by simp [State.book, hr, hc, hf, hin, Nat.not_lt.mpr hm, hsp, refuse])
  have hbook := book_eq_bookSpan hr hc hf hin hm hsp
  refine ⟨fun hcl => ?_, fun hcl => ⟨fun c hclose hlt hgt => ?_, fun h hclear hblock => ?_, fun hclear hfree =>
    ⟨fun hscope => ?_, fun hscope kinds hkinds => ?_⟩⟩⟩
  · exact book_answers ht (by simp [hbook, State.bookSpan, hcl, refuse])
  · have hclosed : (s1.room f.room).closedFor sp.startMin sp.endMin = true := by
      simp [Room.closedFor, hclose, overlap, hlt, hgt]
    exact book_answers ht (by simp [hbook, State.bookSpan, hcl, hclosed, refuse])
  · exact book_answers ht (by simp [hbook, State.bookSpan, hcl, hclear, hblock, handleField])
  · exact book_answers ht (by simp [hbook, State.bookSpan, hcl, hclear, hfree, dayOf, Config.dayMinutes, hscope, refuse])
  rw [bookSpan_of_bookable ⟨hcl, hclear, hfree, hscope⟩] at hbook
  have hlen : (bookingKinds (decide (storedNote f.note ≠ [])) f.order.isSome).length = kinds :=
    (length_bookingKinds _ _).trans hkinds.symm
  refine ⟨fun hspace => ?_, fun o i rest ho hcount hfifo hnone hgen hspace st hst => ?_⟩
  · refine book_answers ht (hbook.trans ?_)
    rw [makeHostBooking_noSpace (by rwa [hlen])]
    rfl
  · rw [ho, Option.isSome_some] at hlen
    have hrefused : PlanRefused s1 f.room sp.startMin o.covers st := hst.imp_right fun hst => by
      rcases hst with ⟨h1, h2, h3⟩ | ⟨h1, h2, h3⟩
      · exact ⟨h2, .inl ⟨h1, h3⟩⟩
      · exact ⟨h2, .inr ⟨h1, h3⟩⟩
    obtain ⟨flag, hmade⟩ := makeHostBooking_refused (mk := bookedAs s1 f sp) (note := decide (storedNote f.note ≠ []))
      (fun k => ⟨rfl, rfl, rfl⟩) hcount hfifo hnone hgen (by rwa [hlen]) hrefused
    rw [ho, hmade] at hbook
    exact book_returns ht hbook

end Sys2Proof.Machine
end

section
/-! SUPPORT. AMEND: one that is not answered OK changes nothing (R40, R41). -/

namespace Sys2Proof.Machine

variable {s s1 t u : State} {ref : HostRef} {tag : Byte} {f : AmendForm} {b : Booking} {sp : SpanOut}

/-- The reply either is OK, or leaves at most the STORE flag changed (R26, R40). -/
def Undone (s : State) (r : Reply) : Prop :=
  r.status = .ok ∨ ∃ flag, r.state = { s with notice := { s.notice with store := flag } }

theorem undone_same (s : State) (st : Status) (body : List Field) : Undone s ⟨s, st, body⟩ := .inr ⟨s.notice.store, rfl⟩

theorem undone_amendWrite (s : State) (f : AmendForm) (b : Booking) (target : Nat) (sp : SpanOut) :
    Undone s (s.amendWrite f b target sp) := by
  simp only [State.amendWrite]
  split
  · exact undone_same s _ _
  · split
    · exact .inl rfl
    · split
      · exact .inr ⟨_, rfl⟩
      · exact .inl rfl

theorem undone_amendPlace (s : State) (f : AmendForm) (b : Booking) (target : Nat) : Undone s (s.amendPlace f b target) := by
  simp only [State.amendPlace]
  split
  · exact undone_same s _ _
  split
  · exact undone_same s _ _
  split
  · exact undone_same s _ _
  split
  · exact undone_same s _ _
  split
  · exact undone_same s _ _
  split
  · exact undone_same s _ _
  · exact undone_amendWrite ..

/-- AMEND is made whole or not at all (R40). -/
theorem undone_amend (s : State) (f : AmendForm) : Undone s (s.amend f) := by
  unfold State.amend
  split
  · exact undone_same s _ _
  split
  · exact undone_same s _ _
  split
  · exact undone_same s _ _
  dsimp only
  split
  · exact undone_same s _ _
  split
  · exact undone_same s _ _
  split
  · exact .inl rfl
  split
  · exact undone_same s _ _
  · exact undone_amendPlace ..

/-- The step of an AMEND that its owner takes. -/
theorem amend_taken (ht : s.taken (.amend tag f) = some (s1, ref)) :
    exec (.amend tag f) s =
      .next ((((s1.amend f).state.answer ref (s1.amend f).status (s1.amend f).body)).relist s).followAttn :=
  hostNow_taken (fun u => u.amend f) (takeRequest_of_taken rfl ht)

/-- Settles O17. -/
theorem refusedAmendsChangeNothing : Obligations.RefusedAmendsChangeNothing := by
  intro s s1 ref tag f ht
  refine ⟨_, (s1.amend f).status, (s1.amend f).body, amend_taken ht, ?_, fun hst => ?_, fun hr => ?_, fun hr hc => ?_⟩
  · rw [State.followAttn_link, relist_link]
    exact answer_link_congr (link_of_outside (outside_amend s1 f)) _ _
  · rcases undone_amend s1 f with hok | ⟨flag, hflag⟩
    · exact absurd hok hst
    · have hs1 := (takeRequest_keeps (takeRequest_of_taken rfl ht)).1
      rw [hflag, relist_of_congr (by rw [answer_kitchens, hs1]) (by rw [answer_dir, hs1]) (by rw [answer_rooms, hs1]),
        answer_keeps]
      rfl
  · simp [State.amend, hr, refuse]
  · simp [State.amend, hr, hc, refuse]

end Sys2Proof.Machine
end

section
/-! SUPPORT. A booking's start handled (R39, R89, R90), and the timeline it is put on (R34). -/

namespace Sys2Proof.Machine

variable {s t u : State} {i j c now : Nat} {b x : Booking} {h k : Handle}

/-! ### Timelines -/

theorem mem_insertByStart {g : Handle → Nat} {a : Nat} {l : List Handle} :
    k ∈ insertByStart g h a l ↔ k = h ∨ k ∈ l := by
  induction l with
  | nil => simp [insertByStart]
  | cons y l ih =>
    unfold insertByStart
    split
    · simp
    · simp only [List.mem_cons, ih]
      tauto

theorem mem_insertKeyed {g : Handle → Nat} {a : Nat} {l : List Handle} : k ∈ insertKeyed g h a l ↔ k = h ∨ k ∈ l := by
  induction l with
  | nil => simp [insertKeyed]
  | cons y l ih =>
    unfold insertKeyed
    split
    · simp
    · simp only [List.mem_cons, ih]
      tauto

theorem mem_putOnTimeline (hr : b.room < s.rooms.length) :
    k ∈ ((s.putOnTimeline b).room b.room).timeline ↔ k = b.handle ∨ k ∈ (s.room b.room).timeline := by
  have hroom : (s.putOnTimeline b).room b.room = _ := State.room_modRoom_same hr
  rw [hroom]
  exact mem_insertByStart

theorem room_putOnTimeline_other {r : Nat} (hr : r ≠ b.room) : (s.putOnTimeline b).room r = s.room r :=
  State.room_modRoom_other (Ne.symm hr)

theorem setting_putOnTimeline (s : State) (b : Booking) : (s.putOnTimeline b).setting = s.setting :=
  setting_modRoom (f := fun x => { x with timeline := insertByStart s.startOf b.handle b.startMin x.timeline })
    (fun _ => ⟨rfl, rfl⟩) s

theorem room_takeOffTimeline_other {r q : Nat} (hr : r ≠ q) : (s.takeOffTimeline q h).room r = s.room r :=
  State.room_modRoom_other (Ne.symm hr)

theorem setting_takeOffTimeline (s : State) (r : Nat) (h : Handle) : (s.takeOffTimeline r h).setting = s.setting :=
  setting_modRoom (f := fun x => { x with timeline := x.timeline.filter (· ≠ h) }) (fun _ => ⟨rfl, rfl⟩) s

/-! ### What handling a start changes -/

/-- A start handled: entry `i`, which held `b`, has it with another state, check-in, attendance or channel; beside it only the
channels and the view reports have changed. -/
structure Started (i : Nat) (b : Booking) (s t : State) : Prop where
  keeps : t = { s with dir := t.dir, bank := t.bank, panelBus := { s.panelBus with viewReports := t.panelBus.viewReports } }
  own : ∃ x, t.bookingAt i = some x ∧
    x = { b with state := x.state, checkin := x.checkin, attendance := x.attendance, timer := x.timer } ∧
      (x.attendance = b.attendance ∨ x.attendance = .none_)
  others : ∀ j, j ≠ i → t.bookingAt j = s.bookingAt j
  fifo : t.dir.fifo = s.dir.fifo
  generation : ∀ j, (t.dir.entries.getD j ⟨0, none⟩).generation = (s.dir.entries.getD j ⟨0, none⟩).generation

theorem started_refl (hb : s.bookingAt i = some b) : Started i b s s := 
  ⟨rfl, ⟨b, hb, rfl, .inl rfl⟩, fun _ _ => rfl, rfl, fun _ => rfl⟩

/-- The booking is changed and nothing else but, it may be, the bank. -/
theorem started_modBooking {f : Booking → Booking} (bank : Bank) (hb : s.bookingAt i = some b)
    (hf : f b = { b with state := (f b).state, checkin := (f b).checkin, attendance := (f b).attendance
                         timer := (f b).timer })
    (ha : (f b).attendance = b.attendance ∨ (f b).attendance = .none_) : Started i b s (({ s with bank := bank } : State).modBooking i f) where
  keeps := rfl
  own := by
    have hat : ({ s with bank := bank } : State).bookingAt i = some b := hb
    exact ⟨f b, by rw [State.bookingAt_modBooking_same, hat]; rfl, hf, ha⟩
  others j hj := State.bookingAt_modBooking_other (Ne.symm hj)
  fifo := rfl
  generation j := State.generation_modBooking ..

theorem Started.report (h : Started i b s t) (r : Nat) : Started i b s (t.reportRoom r) where
  keeps := by
    conv_lhs => rw [h.keeps]
    rfl
  own := h.own
  others := h.others
  fifo := h.fifo
  generation := h.generation

theorem started_startExempt (bank : Bank) (hb : s.bookingAt i = some b) (hi : b.handle.idx = i) :
    Started i b s (({ s with bank := bank } : State).startExempt b) := by
  subst hi
  unfold State.startExempt
  split
  · exact (started_modBooking bank hb rfl (.inr rfl)).report _
  · exact started_modBooking bank hb rfl (.inl rfl)

theorem started_openWindow (hb : s.bookingAt i = some b) (hi : b.handle.idx = i) : Started i b s (s.openWindow i) := by
  simp only [State.openWindow, hb]
  split
  · exact started_refl hb
  · split
    · exact (started_modBooking _ hb rfl (.inl rfl)).report _
    · exact started_startExempt _ hb hi

theorem started_handleStart (hb : s.bookingAt i = some b) (hi : b.handle.idx = i) : Started i b s (s.handleStart now i) := by
  simp only [State.handleStart, hb]
  split
  · exact started_refl hb
  · split
    · split
      · exact started_openWindow hb hi
      · exact started_refl hb
    · split
      · exact (started_modBooking s.bank hb rfl (.inl rfl)).report _
      · exact started_refl hb

/-! ### The table of R39, R89 and R90 -/

/-- An EXEMPT booking is in use once its start has come (R39). -/
theorem handleStart_exempt (hb : s.bookingAt i = some b) (hs : b.state = .booked) (hc : b.checkin = .exempt) :
    (s.handleStart now i).bookingAt i = some { b with state := if b.startMin ≤ now then .inUse else .booked } := by
  have he : s.handleStart now i = if b.startMin ≤ now then
      (s.modBooking i fun x => { x with state := .inUse }).reportRoom b.room else s := by
    simp [State.handleStart, hb, hs, hc]
  rw [he]
  split
  · rw [bookingAt_reportRoom, State.bookingAt_modBooking_same, hb]
    rfl
  · rw [hb, ← hs]

/-- A REQUIRED booking whose opening minute has not come, or whose room's panel cannot be used, is left (R90). -/
theorem handleStart_left (hb : s.bookingAt i = some b) (hc : b.checkin = .required)
    (h : now + (s.room b.room).earlyOpen < b.startMin ∨ s.panelAvailable b.room = false) : s.handleStart now i = s := by
  have hno : ¬ (!s.catching ∧ b.startMin ≤ now + (s.room b.room).earlyOpen ∧ s.panelAvailable b.room = true) := by
    rintro ⟨-, hdue, hp⟩
    rcases h with h | h
    · omega
    · simp [h] at hp
  simp only [State.handleStart, hb, hc, if_neg hno, ite_self]

/-- A REQUIRED booking whose opening minute has come (R90). -/
theorem handleStart_due (hb : s.bookingAt i = some b) (hs : b.state = .booked) (hc : b.checkin = .required)
    (hcatch : s.catching = false) (hdue : b.startMin ≤ now + (s.room b.room).earlyOpen)
    (hp : s.panelAvailable b.room = true) : s.handleStart now i = s.openWindow i := by
  simp [State.handleStart, hb, hs, hc, hcatch, hdue, hp]

/-- The window is opened on the lowest FREE channel (R89). -/
theorem openWindow_free (hb : s.bookingAt i = some b) (hs : b.state = .booked) (hl : s.lowestFree = some c) :
    (s.openWindow i).bookingAt i = some { b with state := .awaiting, timer := some c } ∧
      ((s.openWindow i).channel c).booking = some b.handle ∧ ((s.openWindow i).channel c).state = .running ∧
      ((s.openWindow i).channel c).mode = .window := by
  obtain ⟨hc, -⟩ := List.findIdx?_eq_some_iff_getElem.mp hl
  have hch (g : Channel → Channel) (f : Booking → Booking) :
      (((s.modChannel c g).modBooking i f).reportRoom b.room).channel c = g (s.channel c) :=
    State.channel_modChannel_same hc
  simp only [State.openWindow, hb, hs, hl, ne_eq, not_true_eq_false, if_false, hch, and_self, and_true]
  have hat : (s.modChannel c fun _ => ⟨.running, .window, some b.handle,
      s.secondsTo (windowDeadline b (s.room b.room).grace s.clock.minute)⟩).bookingAt i = some b := hb
  rw [bookingAt_reportRoom, State.bookingAt_modBooking_same, hat]
  rfl

/-- With no FREE channel the booking is EXEMPT, and in use when its start has come; TIMER counts it (R89). -/
theorem openWindow_noChannel (hb : s.bookingAt i = some b) (hi : b.handle.idx = i) (hs : b.state = .booked)
    (hl : s.lowestFree = none) :
    (s.openWindow i).bookingAt i = some { b with
      state := if b.startMin ≤ s.clock.minute then .inUse else .booked, checkin := .exempt
      attendance := if b.startMin ≤ s.clock.minute then .none_ else b.attendance } ∧
      (s.openWindow i).bank = { s.bank with timerCount := min (s.bank.timerCount + 1) 255 } := by
  subst hi
  have hat : ({ s with bank := { s.bank with timerCount := saturate s.bank.timerCount } } : State).bookingAt b.handle.idx =
      some b := hb
  simp only [State.openWindow, hb, hs, hl, ne_eq, not_true_eq_false, if_false, State.startExempt]
  split
  · rw [bookingAt_reportRoom, State.bookingAt_modBooking_same, hat]
    exact ⟨rfl, rfl⟩
  · rw [State.bookingAt_modBooking_same, hat, ← hs]
    exact ⟨rfl, rfl⟩

theorem lowestFree_eq_none (h : ∀ c, c < s.bank.channels.length → (s.channel c).state ≠ .free) : s.lowestFree = none := by
  refine Option.eq_none_iff_forall_ne_some.mpr fun c hc => ?_
  obtain ⟨hlt, -⟩ := List.findIdx?_eq_some_iff_getElem.mp hc
  exact h c hlt (free_of_lowestFree hc)

end Sys2Proof.Machine
end

section
/-! SUPPORT. An order planned in the HOST context (R134, R137, R138): what it changes, and what the planning computation
accepts. -/

namespace Sys2Proof.Machine

variable {s t : State} {i j k now covers start building : Nat} {b x : Booking} {h : Handle} {a : Accept} {w : AbsWindow}
  {o : Order}

/-! ### What the planning computation accepts -/

/-- A window is accepted on a held day, as one of the 96 of the day (R137). -/
theorem tryWindows_some {ready fuel : Nat} (h : s.tryWindows now covers k ready fuel j = some a) :
    a.kitchen = k ∧ s.held a.window.day = true ∧ a.window.win < Config.windows := by
  induction fuel generalizing j with
  | zero => simp [State.tryWindows] at h
  | succ fuel ih =>
    simp only [State.tryWindows, Option.ite_none_left_eq_some] at h
    obtain ⟨-, hheld, hfits⟩ := h
    rw [Bool.or_eq_true, not_or, Bool.not_eq_true', Bool.not_eq_false] at hheld
    split at hfits
    · cases hfits
      exact ⟨rfl, hheld.1, Nat.mod_lt _ (by decide)⟩
    · exact ih hfits

theorem mem_insertReach {x y : Nat × Nat} {l : List (Nat × Nat)} : y ∈ insertReach x l ↔ y = x ∨ y ∈ l := by
  induction l with
  | nil => simp [insertReach]
  | cons z l ih =>
    unfold insertReach
    split
    · simp
    · simp only [List.mem_cons, ih]
      tauto

/-- The kitchens tried are kitchens of the table's range (R137). -/
theorem lt_of_mem_kitchensFor {rk : Nat × Nat} (h : rk ∈ s.kitchensFor building) : rk.2 < Config.kitchens := by
  have key (ks : List Nat) (l : List (Nat × Nat)) (hks : ∀ q ∈ ks, q < Config.kitchens)
      (hl : ∀ x ∈ l, x.2 < Config.kitchens) :
      ∀ x ∈ ks.foldl (fun l q => match s.serves q building with | some r => insertReach (r, q) l | none => l) l,
        x.2 < Config.kitchens := by
    induction ks generalizing l with
    | nil => exact hl
    | cons q ks ih =>
      refine ih _ (fun p hp => hks p (.tail _ hp)) fun x hx => ?_
      dsimp only at hx
      split at hx
      · rcases mem_insertReach.mp hx with rfl | hx
        · exact hks q (.head _)
        · exact hl x hx
      · exact hl x hx
  exact key _ [] (fun q hq => by simpa using (mem_upFrom.mp hq).2) (by simp) rk h

/-- An acceptance names a kitchen of the table and one of the 96 windows of a held day (R137). -/
theorem planAt_some (h : s.planAt now covers start building = some a) :
    a.kitchen < Config.kitchens ∧ s.held a.window.day = true ∧ a.window.win < Config.windows := by
  obtain ⟨rk, hrk, hacc⟩ := List.exists_of_findSome?_eq_some h
  unfold State.tryKitchen at hacc
  split at hacc
  · simp at hacc
  · obtain ⟨hk, hheld, hwin⟩ := tryWindows_some hacc
    exact ⟨hk ▸ lt_of_mem_kitchensFor hrk, hheld, hwin⟩

theorem held_eq_true {d : Nat} : s.held d = true ↔ ∃ f, s.catering.horizon = some f ∧ f ≤ d ∧ d < f + Config.dayRows := by
  unfold State.held
  cases s.catering.horizon <;> simp

/-! ### The load table -/

/-- One window's load, changed or not. -/
theorem load_modLoad {f : Nat} (hf : s.catering.horizon = some f) (hday : f ≤ w.day) (g : Nat → Nat) (j : Nat) (v : AbsWindow) :
    (s.modLoad k w g).load j v =
      if f ≤ v.day then
        ((((s.catering.loads.modify k fun rows => rows.modify (w.day - f) fun row => row.modify w.win g).getD j []).getD
          (v.day - f) []).getD v.win 0)
      else 0 := by
  simp [State.load, State.modLoad, hf, hday]

theorem load_modLoad_other {v : AbsWindow} (h : j ≠ k ∨ v ≠ w) (g : Nat → Nat) : (s.modLoad k w g).load j v = s.load j v := by
  cases hf : s.catering.horizon with
  | none => simp [State.modLoad, hf]
  | some f =>
    by_cases hday : f ≤ w.day
    · rw [load_modLoad hf hday, State.load, hf]
      dsimp only
      split
      case isFalse => rfl
      rename_i hv
      rw [getD_modify]
      split
      case isFalse => rfl
      rename_i hk
      rw [getD_modify]
      split
      case isFalse => rfl
      rename_i hd
      rw [getD_modify_other]
      intro hwin
      rcases h with h | h
      · exact h hk.1.symm
      · refine h ?_
        cases v; cases w
        simp only [AbsWindow.mk.injEq]
        simp only at hd hv hday hwin
        omega
    · simp [State.modLoad, hf, hday]

theorem loadsShaped_lengths (h : s.loadsShaped = true) {d : Nat} (hk : k < Config.kitchens) (hd : d < Config.dayRows) :
    k < s.catering.loads.length ∧ d < (s.catering.loads.getD k []).length ∧
      ((s.catering.loads.getD k []).getD d []).length = Config.windows := by
  simp only [State.loadsShaped, Bool.and_eq_true, decide_eq_true_eq, List.all_eq_true] at h
  obtain ⟨hlen, hrows⟩ := h
  have hkl : k < s.catering.loads.length := hlen ▸ hk
  obtain ⟨hdays, hwins⟩ := hrows _ (List.getElem_mem hkl)
  have hget : s.catering.loads.getD k [] = s.catering.loads[k] := by simp [List.getD_eq_getElem?_getD, hkl]
  have hdl : d < (s.catering.loads[k]).length := hdays ▸ hd
  refine ⟨hkl, hget ▸ hdl, ?_⟩
  rw [hget, List.getD_eq_getElem?_getD, List.getElem?_eq_getElem hdl]
  exact hwins _ (List.getElem_mem hdl)

theorem load_modLoad_same (h : s.loadsShaped = true) (hk : k < Config.kitchens) (hheld : s.held w.day = true)
    (hwin : w.win < Config.windows) (g : Nat → Nat) : (s.modLoad k w g).load k w = g (s.load k w) := by
  obtain ⟨f, hf, hday, hlt⟩ := held_eq_true.mp hheld
  obtain ⟨hkl, hdl, hwl⟩ := loadsShaped_lengths h hk (show w.day - f < Config.dayRows by omega)
  rw [load_modLoad hf hday, if_pos hday, getD_modify_same hkl, getD_modify_same hdl, getD_modify_same (hwl ▸ hwin)]
  simp [State.load, hf, hday]

/-! ### What counting and requesting change -/

/-- What planning an order changes: the order of entry `h.idx`, the kitchens' queues, and the load table with the scheduler's
queues. -/
structure Planned (h : Handle) (o : Order) (s t : State) : Prop where
  keeps : t = { s with kitchens := t.kitchens, dir := t.dir, catering := { s.catering with
    loads := t.catering.loads, requestList := t.catering.requestList, commitQueue := t.catering.commitQueue } }
  own : t.bookingAt h.idx = (s.bookingAt h.idx).map fun b => { b with order := some o }
  others : ∀ j, j ≠ h.idx → t.bookingAt j = s.bookingAt j
  fifo : t.dir.fifo = s.dir.fifo
  generation : ∀ j, (t.dir.entries.getD j ⟨0, none⟩).generation = (s.dir.entries.getD j ⟨0, none⟩).generation

theorem unload_of_uncounted (ho : o.state.counted = false) : s.unload o = s := by simp [State.unload, ho]

/-- An order that is in no queue's load and becomes REQUESTED (R134, R138). -/
theorem planned_makeRequested (hb : s.bookingAt b.handle.idx = some x) (hx : x.order = some o) (ho : o.state.counted = false) :
    Planned b.handle { o with state := .requested, kitchen := none, window := none, ready := none, commit := none } s
        (s.makeRequested b) ∧
      b.handle ∈ (s.makeRequested b).catering.requestList ∧ (s.makeRequested b).catering.loads = s.catering.loads := by
  have hunplan : s.unplan b.handle = ((s.leaveDispatch b.handle).leaveCommit b.handle).leaveRequests b.handle := by
    simp [State.unplan, State.orderAt, hb, hx, unload_of_uncounted ho]
  have hat : (((s.leaveDispatch b.handle).leaveCommit b.handle).leaveRequests b.handle).bookingAt b.handle.idx = some x := hb
  simp only [State.makeRequested, State.setUncounted, hunplan]
  refine ⟨⟨rfl, ?_, fun j hj => State.bookingAt_modOrder_other (Ne.symm hj), rfl,
    fun j => State.generation_modBooking ..⟩, mem_insertKeyed.mpr (.inl rfl), rfl⟩
  change (State.modOrder _ b.handle.idx _).bookingAt b.handle.idx = _
  rw [State.bookingAt_modOrder_same, hat, hb]
  simp [hx]

/-- A change of a window's load changes the load table alone. -/
theorem modLoad_eq (s : State) (k : Nat) (w : AbsWindow) (g : Nat → Nat) :
    ∃ loads, s.modLoad k w g = { s with catering := { s.catering with loads := loads } } := by
  unfold State.modLoad
  split
  · split <;> exact ⟨_, rfl⟩
  · exact ⟨_, rfl⟩

/-- An order as an acceptance places it (R134). -/
def placedOrder (a : Accept) (o : Order) : Order :=
  { o with state := .planned, kitchen := some a.kitchen, window := some a.window, ready := some a.ready
           commit := some a.commit }

theorem count_eq (s : State) (h : Handle) (covers : Nat) (a : Accept) : s.count h covers a =
    (((s.modOrder h.idx (placedOrder a)).modLoad a.kitchen a.window (· + covers)).joinDispatch h a.kitchen a.ready).joinCommit h
      a.commit := rfl

/-- An order counted as PLANNED at an acceptance (R134). -/
theorem planned_count (hb : s.bookingAt h.idx = some x) (hx : x.order = some o) :
    Planned h (placedOrder a o) s (s.count h covers a) := by
  obtain ⟨loads, hloads⟩ := modLoad_eq (s.modOrder h.idx (placedOrder a)) a.kitchen a.window (· + covers)
  rw [count_eq, hloads]
  refine ⟨rfl, ?_, fun j hj => State.bookingAt_modOrder_other (s := s) (Ne.symm hj), rfl,
    fun j => State.generation_modBooking (s := s) ..⟩
  change (s.modOrder h.idx _).bookingAt h.idx = _
  rw [State.bookingAt_modOrder_same, hb]
  simp [hx]

/-- The load and the queues of an order that is counted (R134, R143, R144). -/
theorem count_queues (hs : s.loadsShaped = true) (hk : a.kitchen < Config.kitchens) (hkl : a.kitchen < s.kitchens.length)
    (hheld : s.held a.window.day = true) (hwin : a.window.win < Config.windows) :
    h ∈ ((s.count h covers a).kitchen a.kitchen).dispatch ∧ h ∈ (s.count h covers a).catering.commitQueue ∧
      (s.count h covers a).load a.kitchen a.window = s.load a.kitchen a.window + covers ∧
      ∀ j v, j ≠ a.kitchen ∨ v ≠ a.window → (s.count h covers a).load j v = s.load j v := by
  obtain ⟨loads, hloads⟩ := modLoad_eq (s.modOrder h.idx (placedOrder a)) a.kitchen a.window (· + covers)
  have hload (j : Nat) (v : AbsWindow) : (s.count h covers a).load j v =
      ((s.modOrder h.idx (placedOrder a)).modLoad a.kitchen a.window (· + covers)).load j v := by
    rw [count_eq, hloads]
    rfl
  refine ⟨?_, mem_insertKeyed.mpr (.inl rfl), ?_, fun j v hjv => ?_⟩
  · rw [count_eq, hloads]
    have hkit (u : State) (hu : a.kitchen < u.kitchens.length) : h ∈ ((u.joinDispatch h a.kitchen a.ready).kitchen a.kitchen).dispatch := by
      rw [State.joinDispatch, State.kitchen_modKitchen_same hu]
      exact mem_insertKeyed.mpr (.inl rfl)
    exact hkit _ hkl
  · rw [hload, load_modLoad_same (s := s.modOrder h.idx (placedOrder a)) hs hk hheld hwin]
    rfl
  · rw [hload, load_modLoad_other hjv]
    rfl

end Sys2Proof.Machine
end

section
/-! SUPPORT. BOOK as it makes its booking (R33, R38, R39). -/

namespace Sys2Proof.Machine

variable {s s1 t u v w : State} {ref : HostRef} {tag : Byte} {f : BookForm} {sp : SpanOut} {st : Status} {body : List Field}
  {i j n now : Nat} {b x : Booking} {o : Order} {rest : List Nat}

/-! ### A record entered -/

/-- A booking entered under the head of the FIFO: its entry, and the blocks it took (R20, R24, R33). -/
structure Entered (i : Nat) (rest : List Nat) (n : Nat) (b : Booking) (s t : State) : Prop where
  keeps : t = { s with store := t.store, dir := t.dir, notice := { s.notice with store := t.notice.store } }
  own : t.bookingAt i = some b
  others : ∀ j, j ≠ i → t.bookingAt j = s.bookingAt j
  fifo : t.dir.fifo = rest
  handle : b.handle = ⟨i, ((s.dir.entries.getD i ⟨0, none⟩).generation + 1) % 256⟩
  generation : (t.dir.entries.getD i ⟨0, none⟩).generation = b.handle.gen
  blocks : t.store.freeCount + n = s.store.freeCount

theorem entered_takeRecord {c : AllocClass} {note order : Bool} {l : Option Nat} {k : Taken}
    (h : s.takeRecord c note order l = some (u, k)) (hfifo : s.dir.fifo = i :: rest) (hi : i < s.dir.entries.length)
    (hb : b.handle = k.handle) (hn : n = (bookingKinds note order).length) : Entered i rest n b s (u.enter b) := by
  obtain ⟨hk, hle, hu⟩ := takeRecord_eq hfifo h
  have hhandle : b.handle = ⟨i, ((s.dir.entries.getD i ⟨0, none⟩).generation + 1) % 256⟩ := by rw [hb, hk]; rfl
  have hidx : b.handle.idx = i := by rw [hhandle]
  have hentries : u.dir.entries = s.dir.entries.modify i fun e =>
      { e with generation := ((s.dir.entries.getD i ⟨0, none⟩).generation + 1) % 256 } := by rw [hu]; rfl
  have hlen : b.handle.idx < u.dir.entries.length := by rw [hidx, hentries, List.length_modify]; exact hi
  refine ⟨?_, ?_, fun j hj => ?_, ?_, hhandle, ?_, ?_⟩
  · generalize u.notice.store = flag at hu
    subst hu
    rfl
  · rw [← hidx]
    exact State.bookingAt_enter_same hlen
  · rw [State.bookingAt_enter_other (hidx ▸ Ne.symm hj), State.bookingAt, hentries, getD_modify_other (Ne.symm hj)]
    rfl
  · rw [State.enter_dir_fifo, hu]
    rfl
  · have he : (u.enter b).dir.entries = u.dir.entries.modify i fun e => { e with booking := some b } := by rw [← hidx]; rfl
    rw [he, getD_modify_same (hidx ▸ hlen), hentries, getD_modify_same hi, hhandle]
  · rw [State.enter_store, hu]
    dsimp only
    rw [foldl_takeOne_freeCount, hn]
    omega

/-! ### The booking put in place and started -/

/-- A booking that stands in the record of entry `i`, and the state a request for it leaves: on its room's timeline, with its
start handled; no other booking and no other room has changed (R34, R39). -/
structure Settled (i : Nat) (b : Booking) (w v : State) : Prop where
  outside : v.outside = w.outside
  frame : v.series = w.series ∧ v.catering = w.catering ∧ v.kitchens = w.kitchens ∧ v.store = w.store ∧ v.notice = w.notice
  own : ∃ x, v.bookingAt i = some x ∧
    x = { b with state := x.state, checkin := x.checkin, attendance := x.attendance, timer := x.timer } ∧
      (x.attendance = b.attendance ∨ x.attendance = .none_)
  others : ∀ j, j ≠ i → v.bookingAt j = w.bookingAt j
  fifo : v.dir.fifo = w.dir.fifo
  generation : ∀ j, (v.dir.entries.getD j ⟨0, none⟩).generation = (w.dir.entries.getD j ⟨0, none⟩).generation
  timeline : ∀ h, h ∈ (v.room b.room).timeline ↔ h = b.handle ∨ h ∈ (w.room b.room).timeline
  rooms : ∀ r, r ≠ b.room → v.room r = w.room r

theorem settled_start (hb : w.bookingAt i = some b) (hi : b.handle.idx = i) (hr : b.room < w.rooms.length) (now : Nat)
    {y : Booking} (hy : y.handle = b.handle ∧ y.room = b.room) : Settled i b w ((w.putOnTimeline y).handleStart now i) := by
  have hat : (w.putOnTimeline y).bookingAt i = some b := hb
  obtain ⟨hkeeps, hown, hothers, hfifo, hgen⟩ := started_handleStart (now := now) hat hi
  have hrooms : ((w.putOnTimeline y).handleStart now i).rooms = (w.putOnTimeline y).rooms := by rw [hkeeps]
  have hroom (r : Nat) : ((w.putOnTimeline y).handleStart now i).room r = (w.putOnTimeline y).room r := by
    rw [State.room, hrooms]; rfl
  refine ⟨by simp, ⟨?_, ?_, ?_, ?_, ?_⟩, hown, hothers, hfifo, hgen, fun h => ?_, fun r hrb => ?_⟩
  iterate 5 rw [hkeeps]; rfl
  · rw [hroom, ← hy.2, mem_putOnTimeline (hy.2.symm ▸ hr), hy.1, hy.2]
  · rw [hroom, room_putOnTimeline_other (hy.2.symm ▸ hrb)]

/-! ### What the last acts of a request leave -/

theorem relist_dispatch (s before : State) (k : Nat) : ((s.relist before).kitchen k).dispatch = (s.kitchen k).dispatch := by
  refine overAll_keeps (fun u => (u.kitchen k).dispatch) (fun q u => ?_) s
  split
  · rfl
  · exact dispatch_modKitchen (f := fun x => { x with listSeq := (x.listSeq + 1) % 256 }) rfl k

/-- The state that a request leaves, from the one its owner left. -/
structure Closed (ref : HostRef) (st : Status) (body : List Field) (v t : State) : Prop where
  dir : t.dir = v.dir
  store : t.store = v.store
  rooms : t.rooms = v.rooms
  bank : t.bank = v.bank
  series : t.series = v.series
  catering : t.catering = v.catering
  dispatch : ∀ k, (t.kitchen k).dispatch = (v.kitchen k).dispatch
  link : t.link = (v.answer ref st body).link
  outside : t.outside = { v.outside with link := t.link, attn := t.attn }

theorem closed_request (v before : State) (ref : HostRef) (st : Status) (body : List Field) :
    Closed ref st body v (((v.answer ref st body).relist before).followAttn) := by
  obtain ⟨hdir, hstore, hrooms, hbank, hlink⟩ := answered_relist_keeps v before ref st body
  refine ⟨hdir, hstore, hrooms, hbank, ?_, ?_, fun k => ?_, hlink, ?_⟩
  · rw [State.followAttn_series, relist_series, answer_keeps]
  · rw [State.followAttn_catering, relist_catering, answer_keeps]
  · have hk : ((((v.answer ref st body).relist before).followAttn).kitchen k).dispatch =
        (((v.answer ref st body).relist before).kitchen k).dispatch := rfl
    rw [hk, relist_dispatch, State.kitchen, answer_kitchens]
    rfl
  · rw [relist_keeps, answer_keeps]
    rfl

/-- A state that differs from another in what `Outside` does not hold, in the link and in ATTN. -/
theorem eq_of_outside (ho : t.outside = { s.outside with link := t.link, attn := t.attn }) (hs : t.series = s.series) :
    t = { s with
      rooms := t.rooms, dir := t.dir, store := t.store, bank := t.bank, kitchens := t.kitchens, catering := t.catering
      panelBus := t.panelBus, notice := t.notice, link := t.link, attn := t.attn } := by
  obtain ⟨⟩ := t
  obtain ⟨⟩ := s
  simp only [State.outside, Outside.mk.injEq] at ho
  simp only [State.mk.injEq]
  simp_all

/-! ### BOOK without an order -/

theorem makeHostBooking_plain {mk : Taken → Booking} {note : Bool} {k : Taken}
    (h : s.takeRecord (.host (bookingKinds note false).length) note false none = some (u, k)) :
    s.makeHostBooking now mk note none =
      .ok (((u.enter (mk k)).putOnTimeline (mk k)).handleStart now k.handle.idx, k.handle, false) := by
  simp only [State.makeHostBooking, Option.isSome_none, h]

theorem makeHostBooking_planned {mk : Taken → Booking} {note tight : Bool} {k : Taken} {g : OrderForm}
    (h : s.takeRecord (.host (bookingKinds note true).length) note true none = some (u, k))
    (hscope : (u.enter (mk k)).planningScope (dayOf (mk k).startMin) = false)
    (hplan : (u.enter (mk k)).planHost now (mk k) g.covers = .ok (w, tight)) :
    s.makeHostBooking now mk note (some g) =
      .ok ((w.putOnTimeline (mk k)).handleStart now k.handle.idx, k.handle, tight) := by
  simp only [State.makeHostBooking, Option.isSome_some, h, hscope, hplan]
  simp

theorem book_made {k : Handle} {tight : Bool} (ht : s.taken (.book tag f) = some (s1, ref)) (hbook : s1.book f = bookReply sp (.ok (v, k, tight))) :
    ∃ t body, exec (.book tag f) s = .next t ∧ Closed ref .ok body v t := by
  have hexec : exec (.book tag f) s = _ := hostNow_taken (fun u => u.book f) (takeRequest_of_taken rfl ht)
  simp only [hbook, bookReply] at hexec
  exact ⟨_, _, hexec, closed_request ..⟩

/-- The table of R39, R89 and R90 for a new booking `b`, which the start of its state leaves as `x`. -/
structure StartTable (w : State) (b x : Booking) (v : State) : Prop where
  exempt : b.checkin = .exempt →
    x.checkin = .exempt ∧ x.timer = none ∧ x.state = if b.startMin ≤ w.clock.minute then .inUse else .booked
  left : b.checkin = .required →
    w.clock.minute + (w.room b.room).earlyOpen < b.startMin ∨ w.panelAvailable b.room = false →
    x.checkin = .required ∧ x.timer = none ∧ x.state = .booked
  opened : ∀ c, b.checkin = .required → b.startMin ≤ w.clock.minute + (w.room b.room).earlyOpen →
    w.panelAvailable b.room = true → w.lowestFree = some c →
    x.checkin = .required ∧ x.timer = some c ∧ x.state = .awaiting ∧ (v.channel c).booking = some b.handle ∧
      (v.channel c).state = .running ∧ (v.channel c).mode = .window
  noChannel : b.checkin = .required → b.startMin ≤ w.clock.minute + (w.room b.room).earlyOpen →
    w.panelAvailable b.room = true → w.lowestFree = none →
    x.checkin = .exempt ∧ x.timer = none ∧ (x.state = if b.startMin ≤ w.clock.minute then .inUse else .booked) ∧
      v.bank = { w.bank with timerCount := min (w.bank.timerCount + 1) 255 }

theorem startTable_handleStart (hb : w.bookingAt i = some b) (hi : b.handle.idx = i) (hs : b.state = .booked)
    (ht : b.timer = none) (hc : w.catching = false)
    (hx : (w.handleStart w.clock.minute i).bookingAt i = some x) :
    StartTable w b x (w.handleStart w.clock.minute i) where
  exempt hex := by
    rw [handleStart_exempt hb hs hex, Option.some.injEq] at hx
    subst hx
    exact ⟨hex, ht, rfl⟩
  left hreq hno := by
    rw [handleStart_left hb hreq hno, hb, Option.some.injEq] at hx
    subst hx
    exact ⟨hreq, ht, hs⟩
  opened c hreq hdue hp hl := by
    rw [handleStart_due hb hs hreq hc hdue hp] at hx ⊢
    obtain ⟨hat, hown, hrun, hmode⟩ := openWindow_free hb hs hl
    rw [hat, Option.some.injEq] at hx
    subst hx
    exact ⟨hreq, rfl, rfl, hown, hrun, hmode⟩
  noChannel hreq hdue hp hl := by
    rw [handleStart_due hb hs hreq hc hdue hp] at hx ⊢
    obtain ⟨hat, hbank⟩ := openWindow_noChannel hb hi hs hl
    rw [hat, Option.some.injEq] at hx
    subst hx
    exact ⟨rfl, ht, rfl, hbank⟩

/-- What putting a booking in its place leaves of what its start depends on. -/
theorem startTable_putOnTimeline {y : Booking} {v : State} (hset : w.setting = s.setting) (hclock : w.clock = s.clock)
    (hbank : w.bank = s.bank) (h : StartTable (w.putOnTimeline y) b x v) : StartTable s b x v := by
  have hset' : (w.putOnTimeline y).setting = s.setting := (setting_putOnTimeline w y).trans hset
  have hfree : (w.putOnTimeline y).lowestFree = s.lowestFree := by
    simp only [State.lowestFree, show (w.putOnTimeline y).bank = s.bank from hbank]
  have hminute : (w.putOnTimeline y).clock = s.clock := hclock
  obtain ⟨h1, h2, h3, h4⟩ := h
  simp only [hminute, panelAvailable_of_setting hset', earlyOpen_of_setting hset', hfree,
    show (w.putOnTimeline y).bank = s.bank from hbank] at h1 h2 h3 h4
  exact ⟨h1, h2, h3, h4⟩

theorem setting_of_keeps {w s : State} (hr : w.rooms = s.rooms) (hp : w.panelBus.panels = s.panelBus.panels) :
    w.setting = s.setting := by
  simp only [State.setting, State.room, hr, hp]

/-- The note that a booking takes is the note asked for, where a note of 0 characters is absent (02 section 2.2). -/
theorem bookedAs_note {k : Taken} {l : Option Nat} {c : AllocClass} {order : Bool}
    (h : s.takeRecord c (decide (storedNote f.note ≠ [])) order l = some (u, k)) :
    ((bookedAs s f sp k).note.map Note.text).getD [] = f.note.getD [] := by
  obtain ⟨i, rest, w, -, -, rfl, -⟩ := takeRecord_steps h
  by_cases hn : storedNote f.note = []
  · rw [show f.note.getD [] = [] from hn]
    simp [bookedAs, newBooking, takenOf, hn]
  · simp only [bookedAs, newBooking, takenOf, ne_eq, hn, not_false_eq_true, decide_true, if_true, Option.map_some,
      Option.getD_some]
    rfl

theorem length_bookingKinds_plain (note : List Byte) :
    (bookingKinds (decide (note ≠ [])) false).length = if note = [] then 1 else 2 := by
  by_cases hn : note = [] <;> simp [bookingKinds, hn]

theorem length_bookingKinds_order (note : List Byte) :
    (bookingKinds (decide (note ≠ [])) true).length = if note = [] then 2 else 3 := by
  by_cases hn : note = [] <;> simp [bookingKinds, hn]

/-- A BOOK without an order that nothing refuses. -/
theorem book_without_order {rest : List Nat} (ht : s.taken (.book tag f) = some (s1, ref)) (hr : s1.running = true)
    (hc : s1.catching = false) (hf : bookFormOk f = true) (ho : f.order = none) (hin : (s1.room f.room).inTable = true)
    (hm : s1.clock.minute ≤ f.span.startMin) (hsp : formSpan s1.clock.minute f.span none = some sp)
    (hb : Bookable s1 f sp) (hfifo : s1.dir.fifo = i :: rest) (hi : i < s1.dir.entries.length)
    (hroom : f.room < s1.rooms.length) (hspace : 64 + (if f.note.getD [] = [] then 1 else 2) ≤ s1.store.freeCount) :
    ∃ t body v w k b x, exec (.book tag f) s = .next t ∧ Closed ref .ok body v t ∧ b = bookedAs s1 f sp k ∧
      (b.note.map Note.text).getD [] = f.note.getD [] ∧
      Entered i rest (if f.note.getD [] = [] then 1 else 2) b s1 w ∧ Settled i b w v ∧ v.bookingAt i = some x ∧
      StartTable s1 b x v := by
  have hlen : (bookingKinds (decide (storedNote f.note ≠ [])) false).length = if f.note.getD [] = [] then 1 else 2 :=
    length_bookingKinds_plain (storedNote f.note)
  obtain ⟨u, k, hu⟩ := takeRecord_of_space (link := none) hfifo rfl (hlen ▸ hspace)
  have hbook := book_eq_bookSpan hr hc hf hin hm hsp
  rw [bookSpan_of_bookable hb, ho, makeHostBooking_plain hu] at hbook
  obtain ⟨t, body, hexec, hclosed⟩ := book_made ht hbook
  have hent := entered_takeRecord (b := bookedAs s1 f sp k) hu hfifo hi rfl hlen.symm
  have hidx : k.handle.idx = i := congrArg Handle.idx hent.handle
  have hrooms : (u.enter (bookedAs s1 f sp k)).rooms = s1.rooms := by rw [hent.keeps]
  rw [hidx] at hclosed
  have hset := settled_start (y := bookedAs s1 f sp k) hent.own hidx (hrooms ▸ hroom) s1.clock.minute ⟨rfl, rfl⟩
  obtain ⟨x, hx, -⟩ := hset.own
  have hclock : (u.enter (bookedAs s1 f sp k)).clock = s1.clock := by rw [hent.keeps]
  have hcatch : ((u.enter (bookedAs s1 f sp k)).putOnTimeline (bookedAs s1 f sp k)).catching = false := by
    change (u.enter (bookedAs s1 f sp k)).catching = false
    rw [hent.keeps]
    exact hc
  refine ⟨t, body, _, _, k, _, x, hexec, hclosed, rfl, bookedAs_note hu, hent, hset, hx, ?_⟩
  refine startTable_putOnTimeline (y := bookedAs s1 f sp k) (setting_of_keeps hrooms (by rw [hent.keeps])) hclock (by rw [hent.keeps]) ?_
  rw [← hclock] at hx ⊢
  exact startTable_handleStart hent.own hidx rfl rfl hcatch hx

/-! ### BOOK with an order -/

/-- The new order of a BOOK, before it is planned (R140). -/
theorem bookedAs_order {k : Taken} {l : Option Nat} {c : AllocClass} {g : OrderForm}
    (h : s.takeRecord c (decide (storedNote f.note ≠ [])) true l = some (u, k)) (ho : f.order = some g) :
    (bookedAs s f sp k).order =
      some (newOrder (s.store.free.getD (if f.note.getD [] = [] then 1 else 2) 0) g) := by
  obtain ⟨i, rest, w, -, -, rfl, -⟩ := takeRecord_steps h
  by_cases hn : f.note.getD [] = []
  · have hs : storedNote f.note = [] := hn
    simp [bookedAs, newBooking, takenOf, ho, hn, hs, bookingKinds, newOrder]
  · have hs : ¬ storedNote f.note = [] := hn
    simp [bookedAs, newBooking, takenOf, ho, hn, hs, bookingKinds, newOrder]

/-- How a BOOK's order stands once it is planned: REQUESTED beyond the horizon, and otherwise PLANNED at the acceptance
(R138). -/
def OrderStands (s : State) (start room : Nat) (g : OrderForm) (order : Order) : Prop :=
  s.beyond (start / 1440) = true ∧ order.state = .requested ∧ order.kitchen = none ∧ order.window = none ∧
      order.ready = none ∧ order.commit = none ∨
    ∃ a, s.beyond (start / 1440) = false ∧ s.loadsShaped = true ∧ a.kitchen < s.kitchens.length ∧
      s.planAt s.clock.minute g.covers start (s.room room).building = some a ∧ order.state = .planned ∧
      order.kitchen = some a.kitchen ∧ order.window = some a.window ∧ order.ready = some a.ready ∧
      order.commit = some a.commit

/-- The queues and the load of an order that stands (R134, R135, R152). -/
structure OrderQueued (s w : State) (h : Handle) (order : Order) : Prop where
  requested : order.state = .requested → h ∈ w.catering.requestList ∧ w.catering.loads = s.catering.loads
  planned : ∀ k win, order.kitchen = some k → order.window = some win →
    h ∈ (w.kitchen k).dispatch ∧ h ∈ w.catering.commitQueue ∧ w.load k win = s.load k win + order.covers ∧
      ∀ j v, j ≠ k ∨ v ≠ win → w.load j v = s.load j v

/-- The HOST context plans the order of a booking just entered. -/
theorem planHost_stands {g : OrderForm} {order : Order} (hb : s.bookingAt b.handle.idx = some b)
    (hbo : b.order = some (newOrder order.block g)) (hcovers : order.covers = g.covers) (hlines : order.lines = g.lines)
    (hfood : (s.room b.room).foodAllowed = true) (hst : OrderStands s b.startMin b.room g order) :
    ∃ w tight, s.planHost s.clock.minute b g.covers = .ok (w, tight) ∧ Planned b.handle order s w ∧
      OrderQueued s w b.handle order := by
  obtain ⟨block, covers, lines, state, kitchen, window, ready, commit⟩ := order
  dsimp only at hbo hcovers hlines
  subst hcovers hlines
  rcases hst with ⟨hbeyond, hstate, hk, hw, hr, hc⟩ | ⟨a, hbeyond, hshaped, hkl, hplan, hstate, hk, hw, hr, hc⟩
  · dsimp only at hstate hk hw hr hc
    subst hstate hk hw hr hc
    obtain ⟨hp, hmem, hloads⟩ := planned_makeRequested hb hbo rfl
    refine ⟨s.makeRequested b, false, ?_, hp, fun _ => ⟨hmem, hloads⟩, fun k win hk => nomatch hk⟩
    simp [State.planHost, hfood, dayOf, Config.dayMinutes, hbeyond]
  · dsimp only at hstate hk hw hr hc
    subst hstate hk hw hr hc
    obtain ⟨hak, hheld, hwin⟩ := planAt_some hplan
    refine ⟨s.count b.handle g.covers a, (s.count b.handle g.covers a).tightAfter a g.covers, ?_, planned_count hb hbo, ⟨fun hs => absurd hs (by simp), fun k win hk hw => ?_⟩⟩
    · simp only [State.planHost, hfood, dayOf, Config.dayMinutes, hbeyond, hplan]
      rfl
    · dsimp only at hk hw
      obtain rfl := Option.some.inj hk
      obtain rfl := Option.some.inj hw
      exact count_queues hshaped hak hkl hheld hwin

theorem load_of_catering (hc : t.catering = s.catering) (k : Nat) (win : AbsWindow) : t.load k win = s.load k win := by
  simp only [State.load, hc]

/-- A state whose tables for planning are those of another. -/
theorem OrderStands.congr {g : OrderForm} {order : Order} {start room : Nat} (hk : w.kitchens = s.kitchens)
    (hc : w.catering = s.catering) (hr : w.rooms = s.rooms) (hm : w.clock = s.clock)
    (h : OrderStands s start room g order) : OrderStands w start room g order := by
  simpa only [OrderStands, beyond_congr hc, State.loadsShaped, hc, hk, planAt_congr hk hc, State.room, hr, hm] using h

/-- A BOOK with an order that nothing refuses. -/
theorem book_with_order {rest : List Nat} {g : OrderForm} {order : Order} (ht : s.taken (.book tag f) = some (s1, ref))
    (hr : s1.running = true) (hc : s1.catching = false) (hf : bookFormOk f = true) (ho : f.order = some g)
    (hin : (s1.room f.room).inTable = true) (hm : s1.clock.minute ≤ f.span.startMin)
    (hsp : formSpan s1.clock.minute f.span none = some sp) (hb : Bookable s1 f sp) (hfifo : s1.dir.fifo = i :: rest)
    (hi : i < s1.dir.entries.length) (hroom : f.room < s1.rooms.length)
    (hspace : 64 + (if f.note.getD [] = [] then 2 else 3) ≤ s1.store.freeCount)
    (hscope : s1.planningScope (sp.startMin / 1440) = false) (hfood : (s1.room f.room).foodAllowed = true)
    (hst : OrderStands s1 sp.startMin f.room g order)
    (hblock : order.block = s1.store.free.getD (if f.note.getD [] = [] then 1 else 2) 0) (hcovers : order.covers = g.covers)
    (hlines : order.lines = g.lines) :
    ∃ t body v w e k b, exec (.book tag f) s = .next t ∧ Closed ref .ok body v t ∧ b = bookedAs s1 f sp k ∧
      Entered i rest (if f.note.getD [] = [] then 2 else 3) b s1 e ∧ Planned b.handle order e w ∧
      OrderQueued s1 w b.handle order ∧ Settled i { b with order := some order } w v := by
  have hlen : (bookingKinds (decide (storedNote f.note ≠ [])) true).length = if f.note.getD [] = [] then 2 else 3 :=
    length_bookingKinds_order (storedNote f.note)
  obtain ⟨u, k, hu⟩ := takeRecord_of_space (link := none) hfifo rfl (hlen ▸ hspace)
  have hbook := book_eq_bookSpan hr hc hf hin hm hsp
  have hent := entered_takeRecord (b := bookedAs s1 f sp k) hu hfifo hi rfl hlen.symm
  have hidx : k.handle.idx = i := congrArg Handle.idx hent.handle
  have hrooms : (u.enter (bookedAs s1 f sp k)).rooms = s1.rooms := by rw [hent.keeps]
  have hkit : (u.enter (bookedAs s1 f sp k)).kitchens = s1.kitchens := by rw [hent.keeps]
  have hcat : (u.enter (bookedAs s1 f sp k)).catering = s1.catering := by rw [hent.keeps]
  have hclock : (u.enter (bookedAs s1 f sp k)).clock = s1.clock := by rw [hent.keeps]
  have horder : (bookedAs s1 f sp k).order = some (newOrder order.block g) := (bookedAs_order hu ho).trans (by rw [hblock])
  obtain ⟨w, tight, hplan, hplanned, hqueued⟩ := planHost_stands (s := u.enter (bookedAs s1 f sp k))
    (b := bookedAs s1 f sp k) (order := order) (hidx ▸ hent.own) horder hcovers hlines
    (by rw [State.room, hrooms]; exact hfood) (hst.congr hkit hcat hrooms hclock)
  rw [hclock] at hplan
  rw [bookSpan_of_bookable hb, ho,
    makeHostBooking_planned hu ((planningScope_congr hcat _).trans hscope) hplan] at hbook
  obtain ⟨t, body, hexec, hclosed⟩ := book_made ht hbook
  have hown : w.bookingAt i = some { bookedAs s1 f sp k with order := some order } := by
    have := hplanned.own
    rw [show (bookedAs s1 f sp k).handle.idx = i from hidx, hent.own] at this
    exact this
  rw [hidx] at hclosed
  have hwrooms : w.rooms = s1.rooms := by rw [hplanned.keeps, ← hrooms]
  refine ⟨t, body, _, w, _, k, _, hexec, hclosed, rfl, hent, hplanned, ?_,
    settled_start (y := bookedAs s1 f sp k) hown hidx (hwrooms ▸ hroom) s1.clock.minute ⟨rfl, rfl⟩⟩
  exact ⟨fun hs => hcat ▸ hqueued.requested hs, fun q win hq hw => by
    simpa only [load_of_catering hcat] using hqueued.planned q win hq hw⟩

/-! ### The statement -/

theorem Entered.catering (h : Entered i rest n b s t) : t.catering = s.catering := by rw [h.keeps]
theorem Entered.rooms (h : Entered i rest n b s t) : t.rooms = s.rooms := by rw [h.keeps]
theorem Entered.series (h : Entered i rest n b s t) : t.series = s.series := by rw [h.keeps]
theorem Entered.outside (h : Entered i rest n b s t) : t.outside = s.outside := by rw [h.keeps]; rfl
theorem Entered.bank (h : Entered i rest n b s t) : t.bank = s.bank := by rw [h.keeps]

/-- The whole state that a BOOK leaves, from its parts. -/
theorem Closed.eq {ref : HostRef} (hc : Closed ref st body v t) (ho : v.outside = s.outside) (hs : v.series = s.series) :
    t = { s with
      rooms := t.rooms, dir := t.dir, store := t.store, bank := t.bank, kitchens := t.kitchens, catering := t.catering
      panelBus := t.panelBus, notice := t.notice, link := t.link, attn := t.attn } :=
  eq_of_outside (hc.outside.trans (by rw [ho])) (hc.series.trans hs)

/-- Settles O16: the record is entered, its order planned, and the booking put in its place and started. -/
theorem bookMakesTheBooking : Obligations.BookMakesTheBooking := by
  refine ⟨?_, ?_⟩
  · intro s s1 ref tag f sp o i rest ht hr hc hf ho hin hm hsp hcl hclear hfree hscope hfifo hi hroom hspace hplan hfood order
      hst hblock hcovers hlines
    obtain ⟨t, body, v, w, e, k, b, hexec, hclosed, hb, hent, hplanned, hqueued, hset⟩ := book_with_order ht hr hc hf ho hin hm
      hsp ⟨hcl, hclear, hfree, hscope⟩ hfifo hi hroom hspace hplan hfood hst hblock hcovers hlines
    obtain ⟨hseries, hcatering, hkit, hstore, -⟩ := hset.frame
    obtain ⟨x, hx, hxb, -⟩ := hset.own
    have hhandle : x.handle = b.handle := by rw [hxb]
    have hidx : b.handle.idx = i := congrArg Handle.idx hent.handle
    have hbroom : b.room = f.room := by rw [hb]; rfl
    have hwrooms : w.rooms = s1.rooms := by rw [hplanned.keeps, ← hent.rooms]
    have htroom (r : Nat) : t.room r = v.room r := by rw [State.room, hclosed.rooms]; rfl
    have hwroom (r : Nat) : w.room r = s1.room r := by rw [State.room, hwrooms]; rfl
    have hdispatch (q : Nat) : (t.kitchen q).dispatch = (w.kitchen q).dispatch := by
      rw [hclosed.dispatch, State.kitchen, hkit]; rfl
    have htcat : t.catering = w.catering := hclosed.catering.trans hcatering
    have hwout : w.outside = s1.outside := by rw [hplanned.keeps, ← hent.outside]; rfl
    have hwseries : w.series = s1.series := by rw [hplanned.keeps, ← hent.series]
    have hwstore : w.store = e.store := by rw [hplanned.keeps]
    refine ⟨t, body, x, hexec, (State.bookingAt_congr hclosed.dir i).trans hx, hhandle.trans hent.handle, ?_, ?_, ?_, ?_, ?_,
      fun hs => ?_, fun q win hq hw => ?_, ?_, fun r hrf => ?_, fun j hj => ?_, ?_, ?_, ?_, ?_, ?_⟩
    · rw [hxb]; exact hbroom
    · rw [hxb, hb]; rfl
    · rw [hxb, hb]; rfl
    · rw [hxb, hb]; rfl
    · rw [hxb]
    · rw [hhandle, htcat]
      exact hqueued.requested hs
    · obtain ⟨hmem, hcommit, hload, hother⟩ := hqueued.planned q win hq hw
      rw [hhandle, hdispatch, load_of_catering htcat, ← hcovers, htcat]
      exact ⟨hmem, hcommit, hload, fun j v hjv _ => (load_of_catering htcat j v).trans (hother j v hjv)⟩
    · rw [hhandle, htroom, ← hbroom]
      exact (hset.timeline b.handle).mpr (.inl rfl)
    · rw [htroom, hset.rooms r (by rw [hbroom]; exact hrf), hwroom]
    · rw [State.bookingAt_congr hclosed.dir, hset.others j hj, hplanned.others j (by rw [hidx]; exact hj), hent.others j hj]
    · rw [hclosed.dir, hset.fifo, hplanned.fifo, hent.fifo]
    · rw [hclosed.store, hstore, hwstore]
      exact hent.blocks
    · exact hclosed.link.trans (answer_link_congr (link_of_outside (hset.outside.trans hwout)) _ _)
    · rw [htcat, hplanned.keeps, ← hent.catering]
    · have heq := hclosed.eq (hset.outside.trans hwout) (hseries.trans hwseries)
      exact heq
  · intro s s1 ref tag f sp i rest ht hr hc hf ho hin hm hsp hcl hclear hfree hscope hfifo hi hroom hspace
    obtain ⟨t, body, v, w, k, b, x, hexec, hclosed, hb, hnote, hent, hset, hx, htable⟩ := book_without_order ht hr hc hf ho hin
      hm hsp ⟨hcl, hclear, hfree, hscope⟩ hfifo hi hroom hspace
    obtain ⟨hseries, hcatering, -, hstore, -⟩ := hset.frame
    obtain ⟨x', hx', hxb, hatt⟩ := hset.own
    obtain rfl : x = x' := Option.some.inj (hx.symm.trans hx')
    have hhandle : x.handle = b.handle := by rw [hxb]
    have hbroom : b.room = f.room := by rw [hb]; rfl
    have hstart : b.startMin = sp.startMin := by rw [hb]; rfl
    have hcheck : b.checkin = checkinOf f.override (s1.room f.room) := by rw [hb]; rfl
    have htroom (r : Nat) : t.room r = v.room r := by rw [State.room, hclosed.rooms]; rfl
    have hwroom (r : Nat) : w.room r = s1.room r := by rw [State.room, hent.rooms]; rfl
    have htchannel (c : Nat) : t.channel c = v.channel c := by rw [State.channel, hclosed.bank]; rfl
    obtain ⟨hexempt, hleft, hopened, hnone⟩ := htable
    rw [hcheck, hstart, hbroom] at hleft hopened hnone
    rw [hcheck, hstart] at hexempt
    refine ⟨t, body, x, hexec, (State.bookingAt_congr hclosed.dir i).trans hx, hhandle.trans hent.handle, ?_, ?_, ?_, ?_, ?_, ?_,
      ?_, ?_, ?_, ?_, ?_, ?_, ?_, ?_, ?_, hexempt, hleft, fun c h1 h2 h3 h4 => ?_, fun h1 h2 h3 h4 => ?_, ?_, fun h hh => ?_,
      fun r hrf => ?_, fun j hj => ?_, ?_, ?_, ?_, ?_⟩
    · rw [hclosed.dir, hset.generation, hent.generation, hhandle]
    · rw [hxb]; exact hbroom
    iterate 9 rw [hxb, hb]; rfl
    · rw [hxb, hb]
      simp [bookedAs, newBooking, ho]
    · rw [hxb, hb]; rfl
    · rcases hatt with hatt | hatt
      · rw [hatt, hb]; rfl
      · exact hatt
    · rw [← hnote, hxb]
    · rw [htchannel, hhandle]
      exact hopened c h1 h2 h3 h4
    · rw [hclosed.bank]
      exact hnone h1 h2 h3 (lowestFree_eq_none h4)
    · rw [hhandle, htroom, ← hbroom]
      exact (hset.timeline b.handle).mpr (.inl rfl)
    · rw [htroom, ← hbroom]
      exact (hset.timeline h).mpr (.inr (by rw [hwroom, hbroom]; exact hh))
    · rw [htroom, hset.rooms r (by rw [hbroom]; exact hrf), hwroom]
    · rw [State.bookingAt_congr hclosed.dir, hset.others j hj, hent.others j hj]
    · rw [hclosed.dir, hset.fifo, hent.fifo]
    · rw [hclosed.store, hstore]
      exact hent.blocks
    · exact hclosed.link.trans (answer_link_congr (link_of_outside (hset.outside.trans hent.outside)) _ _)
    · have heq := hclosed.eq (hset.outside.trans hent.outside) (hseries.trans hent.series)
      have hcat : t.catering = s1.catering := hclosed.catering.trans (hcatering.trans hent.catering)
      rw [hcat] at heq
      exact heq

end Sys2Proof.Machine
end

section
/-! SUPPORT. AMEND as it moves a booking, gives it a new end, or changes its note (R42, R43, R44, R54). -/

namespace Sys2Proof.Machine

variable {s s1 t u v w : State} {ref : HostRef} {tag : Byte} {f : AmendForm} {b new x : Booking} {sp : SpanOut} {st : Status}
  {body : List Field} {i r target e now : Nat} {text : List Byte} {note : Option Note} {h : Handle}

/-! ### The booking in its new place -/

/-- A booking taken off its old timeline and put on the one of its new room, with its new span (R42, R43): `x` is its record
before. -/
structure Replaced (b new x : Booking) (s t : State) : Prop where
  keeps : t = { s with
    rooms := t.rooms, dir := t.dir, panelBus := { s.panelBus with viewReports := t.panelBus.viewReports } }
  own : t.bookingAt b.handle.idx = some { x with
    room := new.room, startMin := new.startMin, endMin := new.endMin, headCount := new.headCount, state := new.state }
  others : ∀ j, j ≠ b.handle.idx → t.bookingAt j = s.bookingAt j
  mem : b.handle ∈ (t.room new.room).timeline
  left : new.room ≠ b.room → b.handle ∉ (t.room b.room).timeline
  rooms : ∀ q, q ≠ new.room → q ≠ b.room → t.room q = s.room q
  setting : t.setting = s.setting

theorem replaced_replace (hx : s.bookingAt b.handle.idx = some x) (hh : new.handle = b.handle)
    (hr : new.room < s.rooms.length) : Replaced b new x s (s.replace b new) := by
  obtain ⟨g, hg⟩ : ∃ g : Booking → Booking, g = fun x => { x with
      room := new.room, startMin := new.startMin, endMin := new.endMin, headCount := new.headCount, state := new.state } :=
    ⟨_, rfl⟩
  have heq : s.replace b new = ((s.takeOffTimeline b.room b.handle).modBooking b.handle.idx g).putOnTimeline new := by
    rw [hg]; rfl
  have hroom (q : Nat) : ((s.takeOffTimeline b.room b.handle).modBooking b.handle.idx g).room q =
      (s.takeOffTimeline b.room b.handle).room q := rfl
  have hlen : new.room < ((s.takeOffTimeline b.room b.handle).modBooking b.handle.idx g).rooms.length := by
    rwa [show ((s.takeOffTimeline b.room b.handle).modBooking b.handle.idx g).rooms.length = s.rooms.length from
      List.length_modify ..]
  refine ⟨rfl, ?_, fun j hj => ?_, ?_, fun hne => ?_, fun q hq hqb => ?_, ?_⟩ <;> rw [heq]
  · change ((s.takeOffTimeline b.room b.handle).modBooking b.handle.idx g).bookingAt b.handle.idx = _
    rw [State.bookingAt_modBooking_same,
      show (s.takeOffTimeline b.room b.handle).bookingAt b.handle.idx = s.bookingAt b.handle.idx from rfl, hx, hg]
    rfl
  · exact State.bookingAt_modBooking_other (Ne.symm hj)
  · exact (mem_putOnTimeline hlen).mpr (.inl hh.symm)
  · intro hmem
    rw [room_putOnTimeline_other (Ne.symm hne), hroom] at hmem
    exact (mem_takeOffTimeline.mp hmem).2 rfl rfl
  · rw [room_putOnTimeline_other hq, hroom, room_takeOffTimeline_other hqb]
  · exact (setting_putOnTimeline _ new).trans (setting_takeOffTimeline s b.room b.handle)

/-! ### The note -/

/-- The note of a booking written, replaced or returned: its record has it, and beside it only the store, and STORE, have
changed (R44). -/
structure Noted (b : Booking) (text : List Byte) (note : Option Note) (s t : State) : Prop where
  keeps : t = { s with dir := t.dir, store := t.store, notice := { s.notice with store := t.notice.store } }
  own : t.bookingAt b.handle.idx = some { b with note := note }
  others : ∀ j, j ≠ b.handle.idx → t.bookingAt j = s.bookingAt j
  returned : ∀ n, b.note = some n → text = [] → t.store.free = n.block :: s.store.free ∧
    t.store.freeCount = s.store.freeCount + 1
  taken : b.note = none → text ≠ [] → t.store.free = s.store.free.drop 1 ∧ t.store.freeCount + 1 = s.store.freeCount
  kept : b.note.isSome = decide (text ≠ []) → t.store = s.store

/-- The note that an AMEND of the note leaves, when nothing refuses it (R44). -/
def NoteLeft (s : State) (b : Booking) (text : List Byte) (note : Option Note) : Prop :=
  (text = [] ∧ note = none) ∨ (∃ n, text ≠ [] ∧ b.note = some n ∧ note = some ⟨n.block, text⟩) ∨
    (text ≠ [] ∧ b.note = none ∧ 65 ≤ s.store.freeCount ∧ note = some ⟨s.store.free.getD 0 0, text⟩)

theorem noted_modBooking (store : Store) (flag : Bool) (hb : s.bookingAt b.handle.idx = some b)
    (hreturned : ∀ n, b.note = some n → text = [] → store.free = n.block :: s.store.free ∧
      store.freeCount = s.store.freeCount + 1)
    (htaken : b.note = none → text ≠ [] → store.free = s.store.free.drop 1 ∧ store.freeCount + 1 = s.store.freeCount)
    (hkept : b.note.isSome = decide (text ≠ []) → store = s.store) :
    Noted b text note s
      (({ s with store := store, notice := { s.notice with store := flag } } : State).modBooking b.handle.idx fun x =>
        { x with note := note }) where
  keeps := rfl
  own := by
    rw [State.bookingAt_modBooking_same,
      show ({ s with store := store, notice := { s.notice with store := flag } } : State).bookingAt b.handle.idx = some b
        from hb]
    rfl
  others j hj := State.bookingAt_modBooking_other (Ne.symm hj)
  returned := hreturned
  taken := htaken
  kept := hkept

theorem amendNote_noSpace (hn : b.note = none) (ht : text ≠ []) (hs : s.store.freeCount < 65) :
    s.amendNote b (some text) = none := by
  have hfull : (AllocClass.host 1).admits s.store.freeCount [BlockKind.note].length = false := by
    simp only [AllocClass.admits, Config.reserve, List.length_singleton, Bool.and_self]
    exact decide_eq_false (by omega)
  cases text with
  | nil => exact absurd rfl ht
  | cons c cs => simp [State.amendNote, hn, allocate_eq_none hfull]

theorem noted_amendNote (hb : s.bookingAt b.handle.idx = some b) (hl : NoteLeft s b text note) :
    ∃ t, s.amendNote b (some text) = some t ∧ Noted b text note s t := by
  rcases hl with ⟨rfl, rfl⟩ | ⟨n, ht, hn, rfl⟩ | ⟨ht, hn, hspace, rfl⟩
  · cases hn : b.note with
    | none =>
      have hsame : ({ b with note := none } : Booking) = b := by rw [← hn]
      exact ⟨s, by simp [State.amendNote, hn], rfl, by rw [hsame, hb], fun _ _ => rfl,
        (fun n h => by rw [hn] at h; exact nomatch h), (fun _ h => absurd rfl h), fun _ => rfl⟩
    | some n =>
      refine ⟨_, by simp only [State.amendNote, hn]; rfl, noted_modBooking (s.store.giveOne .note n.block) s.notice.store hb
        (fun m hm _ => ?_) (fun h => by rw [hn] at h; cases h) (fun h => by simp [hn] at h)⟩
      obtain rfl := Option.some.inj (hn.symm.trans hm)
      exact ⟨rfl, rfl⟩
  · refine ⟨_, ?_, noted_modBooking s.store s.notice.store hb (fun m _ h => absurd h ht)
      (fun h => by rw [hn] at h; cases h) (fun _ => rfl)⟩
    cases text with
    | nil => exact absurd rfl ht
    | cons c cs => simp [State.amendNote, hn]
  · have hadmits : (AllocClass.host 1).admits s.store.freeCount [BlockKind.note].length = true :=
      admits_host.mpr ⟨hspace, hspace⟩
    have hhead : (s.store.free.take [BlockKind.note].length).getD 0 0 = s.store.free.getD 0 0 := by cases s.store.free <;> rfl
    refine ⟨_, ?_, noted_modBooking (s.store.takeOne .note)
      (s.notice.store || (s.store.takeOne .note).freeCount < Config.lowWater) hb (fun m h => by rw [hn] at h; cases h) (fun _ _ => ⟨rfl, ?_⟩)
      (fun h => by simp [hn, ht] at h)⟩
    · cases text with
      | nil => exact absurd rfl ht
      | cons c cs =>
        simp only [State.amendNote, hn, allocate_of_admits hadmits, hhead]
        rfl
    · change s.store.freeCount - 1 + 1 = _
      omega

/-! ### The conditions of R41 -/

/-- The AMEND of `b` that steps 1 to 6 let through. -/
theorem amend_eq_amendPlace (hr : s.running = true) (hc : s.catching = false) (hl : s.lookup f.handle = .found b)
    (hadmit : amendAdmitted f b = true) (hf : amendFormOk f = true) (hask : amendReshapes f b = true ∨ f.note.isSome = true)
    (hin : (s.room ((amendRoom f b).getD b.room)).inTable = true) :
    s.amend f = s.amendPlace f b ((amendRoom f b).getD b.room) := by
  have hlook : s.lookupOr f.handle = .ok b := by simp [State.lookupOr, hl]
  have hnot : ¬ (!amendReshapes f b ∧ f.note.isNone) := by
    rcases hask with h | h
    · simp [h]
    · simp [Option.isNone_iff_eq_none, Option.isSome_iff_ne_none.mp h]
  simp only [State.amend, hr, hc, hlook, hadmit, hf, hin, if_neg hnot]
  simp

/-- Steps 7 to 12 of R41 pass with the span `sp`. -/
structure Amendable (s : State) (f : AmendForm) (b : Booking) (target : Nat) (sp : SpanOut) : Prop where
  inTime : amendTooLate s.clock.minute f b = false
  span : amendSpan s.clock.minute f b = some sp
  notClosing : amendReshapes f b = true → (s.room target).service ≠ .closing
  clear : (s.room target).closedFor sp.startMin sp.endMin = false
  free : s.blocker target (some b.handle) sp.startMin sp.endMin = none
  scope : sp.startMin ≠ b.startMin ∨ b.state = .displaced → s.seriesScope (sp.startMin / 1440) = false

theorem amendPlace_of_amendable (h : Amendable s f b target sp) : s.amendPlace f b target = s.amendWrite f b target sp := by
  have hscope : ¬ ((sp.startMin ≠ b.startMin ∨ b.state = .displaced) ∧ s.seriesScope (dayOf sp.startMin) = true) := by
    rintro ⟨hm, hs⟩
    exact Bool.false_ne_true ((h.scope hm).symm.trans hs)
  have hclosing : ¬ (amendReshapes f b = true ∧ (s.room target).service = .closing) := fun ⟨hm, hs⟩ => h.notClosing hm hs
  simp [State.amendPlace, h.inTime, h.span, hclosing, h.clear, h.free, if_neg hscope]

/-- The span of an AMEND that asks for none is the kept one. -/
theorem amendSpan_kept (hm : f.startMin = none) (he : f.endMin = none) (hl : f.length = none)
    (h : b.state = .awaiting ∨ b.state = .inUse → now + 5 ≤ b.endMin) :
    amendSpan now f b = some ⟨b.startMin, b.endMin, false, false⟩ :=
  amendSpan_eq_some_iff.mpr ⟨by simp [amendForm, hm, amendEnds, he, hl], h⟩

/-- The last 5 minutes of an AWAITING or IN_USE booking (log 53). -/
theorem amendSpan_last (h : ∀ sp, amendForm now f b = some sp → sp.endMin < now + 5)
    (hs : b.state = .awaiting ∨ b.state = .inUse) : amendSpan now f b = none := by
  refine Option.eq_none_iff_forall_ne_some.mpr fun sp hsp => ?_
  obtain ⟨hform, hend⟩ := amendSpan_eq_some_iff.mp hsp
  exact absurd (hend hs) (Nat.not_le.mpr (h sp hform))

theorem amendTooLate_eq_false (hd : f.startMin = none → b.state = .displaced → now ≤ b.startMin)
    (hm : ∀ m, f.startMin = some m → now ≤ m) : amendTooLate now f b = false := by
  cases h : f.startMin with
  | none =>
    simp only [amendTooLate, h, Bool.and_eq_false_iff, decide_eq_false_iff_not]
    by_cases hs : b.state = .displaced
    · exact .inr (Nat.not_lt.mpr (hd h hs))
    · exact .inl hs
  | some m => simp [amendTooLate, h, hm m h]

/-! ### The change -/

/-- An AWAITING or IN_USE booking gets its new end (R43). -/
theorem amendWrite_end (hn : s.amendNote b f.note = some t) (hs : b.state = .awaiting ∨ b.state = .inUse) :
    s.amendWrite f b target sp =
      ⟨if amendEnds f then (t.replace b { b with endMin := sp.endMin }).shortenWindow b sp.endMin
        else t.replace b { b with endMin := sp.endMin }, .ok, [minuteField sp.endMin]⟩ := by
  simp only [State.amendWrite, hn, if_pos hs]

/-- The booking that an AMEND of a BOOKED or DISPLACED one leaves, before its start is handled (R42, R54). -/
def movedTo (f : AmendForm) (b : Booking) (target : Nat) (sp : SpanOut) : Booking :=
  { b with room := target, startMin := sp.startMin, endMin := sp.endMin, headCount := f.headCount.getD b.headCount
           state := .booked }

/-- A BOOKED or DISPLACED booking takes its new place, and its start is handled (R42, R54). -/
theorem amendWrite_move (hn : s.amendNote b f.note = some t) (hs : b.state = .booked ∨ b.state = .displaced)
    (ho : b.order = none ∨ sp.startMin = b.startMin ∧ target = b.room) :
    ∃ body, s.amendWrite f b target sp =
      ⟨(t.replace b (movedTo f b target sp)).handleStart s.clock.minute b.handle.idx, .ok, body⟩ := by
  have hno : ¬ (b.state = .awaiting ∨ b.state = .inUse) := by rcases hs with h | h <;> simp [h]
  have horder : (if b.state = .booked ∧ (sp.startMin ≠ b.startMin ∨ target ≠ b.room) then
      t.amendOrder s.clock.minute b (movedTo f b target sp) f.dropCatering else .ok (t, false)) = .ok (t, false) := by
    rcases ho with ho | ⟨h1, h2⟩
    · simp [State.amendOrder, ho]
    · simp [h1, h2]
  refine ⟨((t.replace b (movedTo f b target sp)).handleStart s.clock.minute b.handle.idx).amendAnswer b.handle.idx sp false, ?_⟩
  rw [movedTo] at horder
  simp only [State.amendWrite, hn, if_neg hno, horder, movedTo]

/-- A BOOKED booking whose opening minute has not come is left (R39, R90). -/
theorem handleStart_early (hb : s.bookingAt i = some b) (h : now + (s.room b.room).earlyOpen < b.startMin) :
    s.handleStart now i = s := by
  cases hc : b.checkin with
  | required => exact handleStart_left hb hc (.inl h)
  | exempt =>
    have hno : ¬ b.startMin ≤ now := by omega
    simp [State.handleStart, hb, hc, hno]

/-- The bank after an end is written: a WINDOW channel is shortened to it (R99). -/
theorem shortenWindow_channels (s : State) (b : Booking) (e : Nat) :
    s.shortenWindow b e = { s with bank := (s.shortenWindow b e).bank } ∧
      (∀ c, b.timer = some c →
        ((s.channel c).mode = .window → c < s.bank.channels.length → (s.shortenWindow b e).channel c = { s.channel c with
          remaining := min (s.channel c).remaining ((e - s.clock.minute) * 60 - s.clock.second) }) ∧
        ((s.channel c).mode = .watch → (s.shortenWindow b e).channel c = s.channel c)) ∧
      ∀ d, b.timer ≠ some d → (s.shortenWindow b e).channel d = s.channel d := by
  cases ht : b.timer with
  | none =>
    have heq : s.shortenWindow b e = s := by simp [State.shortenWindow, ht]
    rw [heq]
    exact ⟨rfl, (fun c h => nomatch h), fun _ _ => rfl⟩
  | some c =>
    obtain ⟨g, hg⟩ : ∃ g : Channel → Channel, g = fun ch =>
      if ch.mode = .window then { ch with remaining := min ch.remaining (s.secondsTo e) } else ch := ⟨_, rfl⟩
    have heq : s.shortenWindow b e = s.modChannel c g := by simp only [State.shortenWindow, ht, hg]
    rw [heq]
    refine ⟨rfl, fun d hd => ⟨fun hmode hlen => ?_, fun hmode => ?_⟩, fun d hd => ?_⟩
    · obtain rfl := Option.some.inj hd
      rw [State.channel_modChannel_same hlen, hg]
      exact if_pos hmode
    · obtain rfl := Option.some.inj hd
      by_cases hlen : c < s.bank.channels.length
      · rw [State.channel_modChannel_same hlen, hg]
        exact if_neg (by rw [hmode]; decide)
      · simp only [State.channel, State.modChannel, List.modify_eq_self (Nat.not_lt.mp hlen)]
    · exact State.channel_modChannel_other fun h => hd (by rw [h])

/-! ### The statement -/

theorem amend_answers (ht : s.taken (.amend tag f) = some (s1, ref)) (ho : s1.amend f = ⟨s1, st, body⟩) :
    exec (.amend tag f) s = .next (s1.answered ref st body) := taken_reads (owner := fun u => u.amend f) rfl ht ho

theorem amend_made (ht : s.taken (.amend tag f) = some (s1, ref)) (ho : s1.amend f = ⟨v, st, body⟩) :
    ∃ t, exec (.amend tag f) s = .next t ∧ Closed ref st body v t := by
  have hexec := amend_taken ht
  rw [ho] at hexec
  exact ⟨_, hexec, closed_request ..⟩

theorem amendRoom_same (h : f.room = none ∨ f.room = some b.room) : amendRoom f b = none := by
  rcases h with h | h <;> simp [amendRoom, h]

theorem amendRoom_target : (amendRoom f b).getD b.room = f.room.getD b.room := by
  unfold amendRoom
  split
  next h => simp [h]
  next => rfl

/-- R43: the end of an AWAITING or IN_USE booking. -/
theorem amend_end (ht : s.taken (.amend tag f) = some (s1, ref)) (hr : s1.running = true) (hc : s1.catching = false)
    (hl : s1.lookup f.handle = .found b) (hh : b.handle = f.handle) (hs : b.state = .awaiting ∨ b.state = .inUse)
    (hm : f.startMin = none) (hroom : f.room = none ∨ f.room = some b.room) (hhead : f.headCount = none) (hnote : f.note = none)
    (hf : amendFormOk f = true) (hlen : b.room < s1.rooms.length)
    (hask : (∃ last, f.endMin = some last ∧ f.length = none ∧ b.startMin < last ∧ e = (last + 4) / 5 * 5) ∨
      (∃ n, f.endMin = none ∧ f.length = some n ∧ 1 ≤ n ∧ e = (b.startMin + n + 4) / 5 * 5))
    (hmin : b.startMin + 5 ≤ e) (hmax : e ≤ b.startMin + 1440) (hin : (s1.room b.room).inTable = true) :
    (e < s1.clock.minute + 5 → exec (.amend tag f) s = .next (s1.answered ref .badField [])) ∧
    (s1.clock.minute + 5 ≤ e → (s1.room b.room).service = .closing →
      exec (.amend tag f) s = .next (s1.answered ref .wait [])) ∧
    (s1.clock.minute + 5 ≤ e → (s1.room b.room).service ≠ .closing →
      ((s1.room b.room).closedFor b.startMin e = true → exec (.amend tag f) s = .next (s1.answered ref .closed [])) ∧
      ((s1.room b.room).closedFor b.startMin e = false →
        (∀ h, s1.blocker b.room (some b.handle) b.startMin e = some h →
          exec (.amend tag f) s = .next (s1.answered ref .conflict [.handle (some h)])) ∧
        (s1.blocker b.room (some b.handle) b.startMin e = none →
          ∃ t v, exec (.amend tag f) s = .next t ∧ Closed ref .ok [.num 4 (some e)] (v.shortenWindow b e) t ∧
            Replaced b { b with endMin := e } b s1 v))) := by
  obtain ⟨last, hends, hform⟩ : ∃ last, amendEnds f = true ∧
      amendForm s1.clock.minute f b = some ⟨b.startMin, e, false, decide (e ≠ last)⟩ := by
    have hbooked := (spans_of_booked (now := s1.clock.minute) (f := f) (b := { b with state := .booked }) (.inl rfl)).2.2
    simp only [amendSpan_of_booked (b := { b with state := .booked }) (.inl rfl)] at hbooked
    rcases hask with ⟨last, he, hn, hlt, rfl⟩ | ⟨n, he, hn, hle, rfl⟩
    · exact ⟨last, by simp [amendEnds, he], hbooked _ last hm (.inl ⟨he, hn, hlt⟩) rfl hmin hmax⟩
    · exact ⟨_, by simp [amendEnds, hn], hbooked _ _ hm (.inr ⟨n, he, hn, hle, rfl⟩) rfl hmin hmax⟩
  have htarget := amendRoom_same hroom
  have hadmit : amendAdmitted f b = true := by rcases hs with h | h <;> simp [amendAdmitted, h, hm, htarget, hhead]
  have hasks : amendReshapes f b = true := by
    rcases Bool.or_eq_true _ _ ▸ hends with h | h <;> simp [amendReshapes, h]
  have hlate : amendTooLate s1.clock.minute f b = false := by
    rcases hs with h | h <;> simp [amendTooLate, hm, h]
  have hplace := amend_eq_amendPlace hr hc hl hadmit hf (.inl hasks) (by rw [htarget]; exact hin)
  rw [htarget, Option.getD_none] at hplace
  refine ⟨fun hsoon => ?_, fun hfar hclosing => ?_, fun hfar hopen => ⟨fun hclosed => ?_, fun hclear => ⟨fun h hblock => ?_,
    fun hfree => ?_⟩⟩⟩
  · have hspan := amendSpan_last (now := s1.clock.minute) (f := f) (b := b) (fun sp hsp => by
      obtain rfl := Option.some.inj (hform.symm.trans hsp)
      exact hsoon) hs
    exact amend_answers ht (by simp [hplace, State.amendPlace, hlate, hspan, refuse])
  all_goals have hspan := amendSpan_eq_some_iff.mpr ⟨hform, fun _ => hfar⟩
  · exact amend_answers ht (by simp [hplace, State.amendPlace, hlate, hspan, hasks, hclosing, refuse])
  · exact amend_answers ht (by simp [hplace, State.amendPlace, hlate, hspan, hopen, hclosed, refuse])
  · exact amend_answers ht (by simp [hplace, State.amendPlace, hlate, hspan, hopen, hclear, hblock, handleField])
  · have hwrite := amendPlace_of_amendable (s := s1) (target := b.room)
      ⟨hlate, hspan, fun _ => hopen, hclear, hfree, fun h => by rcases hs with hs | hs <;> simp [hs] at h⟩
    rw [hwrite, amendWrite_end (t := s1) (by simp [State.amendNote, hnote]) hs, if_pos hends] at hplace
    obtain ⟨t, hexec, hclosed⟩ := amend_made ht hplace
    obtain ⟨-, hat, -⟩ := State.bookingAt_of_lookup hl
    exact ⟨t, _, hexec, hclosed, replaced_replace (hh ▸ hat) rfl hlen⟩

/-- A note-only AMEND asks for nothing else. -/
theorem amendReshapes_note (hm : f.startMin = none) (he : f.endMin = none) (hn : f.length = none)
    (hroom : f.room = none ∨ f.room = some b.room) (hhead : f.headCount = none) (hs : b.state ≠ .displaced) :
    amendReshapes f b = false := by
  simp [amendReshapes, hm, he, hn, amendRoom_same hroom, hhead, hs]

/-- R44: the refusals of a note-only AMEND by steps 8 and 10 (log 53). -/
theorem amend_note_refused (ht : s.taken (.amend tag f) = some (s1, ref)) (hr : s1.running = true) (hc : s1.catching = false)
    (hl : s1.lookup f.handle = .found b) (hm : f.startMin = none) (he : f.endMin = none) (hn : f.length = none)
    (hroom : f.room = none ∨ f.room = some b.room) (hhead : f.headCount = none) (hnote : f.note.isSome = true)
    (hf : amendFormOk f = true) (hin : (s1.room b.room).inTable = true) :
    (b.state = .awaiting ∨ b.state = .inUse → b.endMin < s1.clock.minute + 5 →
      exec (.amend tag f) s = .next (s1.answered ref .badField [])) ∧
    (b.state = .booked ∨ (b.state = .awaiting ∨ b.state = .inUse) ∧ s1.clock.minute + 5 ≤ b.endMin →
      (s1.room b.room).closedFor b.startMin b.endMin = true →
      exec (.amend tag f) s = .next (s1.answered ref .closed [])) := by
  have htarget := amendRoom_same hroom
  have hplace (hs : b.state = .booked ∨ b.state = .awaiting ∨ b.state = .inUse) : s1.amend f = s1.amendPlace f b b.room := by
    have hadmit : amendAdmitted f b = true := by
      rcases hs with h | h | h <;> simp [amendAdmitted, h, hm, htarget, hhead]
    have := amend_eq_amendPlace hr hc hl hadmit hf (.inr hnote) (by rw [htarget]; exact hin)
    rwa [htarget] at this
  have hlate (hs : b.state ≠ .displaced) : amendTooLate s1.clock.minute f b = false := by simp [amendTooLate, hm, hs]
  refine ⟨fun hs hsoon => ?_, fun hs hclosed => ?_⟩
  · have hnot : b.state ≠ .displaced := by rcases hs with h | h <;> simp [h]
    have hspan := amendSpan_last (now := s1.clock.minute) (f := f) (b := b) (fun sp hsp => by
      have hkept : amendForm s1.clock.minute f b = some ⟨b.startMin, b.endMin, false, false⟩ := by
        simp [amendForm, hm, amendEnds, he, hn]
      obtain rfl := Option.some.inj (hkept.symm.trans hsp)
      exact hsoon) hs
    exact amend_answers ht (by simp [hplace (.inr hs), State.amendPlace, hlate hnot, hspan, refuse])
  · have hnot : b.state ≠ .displaced := by rcases hs with h | ⟨h | h, -⟩ <;> simp [h]
    have hspan := amendSpan_kept (now := s1.clock.minute) hm he hn (b := b) fun hlive =>
      hs.elim (fun h => by simp [h] at hlive) (·.2)
    exact amend_answers ht (by
      simp [hplace (hs.imp_right (·.1)), State.amendPlace, hlate hnot, hspan, amendReshapes_note hm he hn hroom hhead hnot,
        hclosed, refuse])

/-- R44: the note of a booking whose start is not handled by it. -/
theorem amend_note (ht : s.taken (.amend tag f) = some (s1, ref)) (hr : s1.running = true) (hc : s1.catching = false)
    (hl : s1.lookup f.handle = .found b) (hh : b.handle = f.handle) (hm : f.startMin = none) (he : f.endMin = none)
    (hn : f.length = none) (hroom : f.room = none ∨ f.room = some b.room) (hhead : f.headCount = none)
    (hnote : f.note = some text) (hf : amendFormOk f = true) (hlen : b.room < s1.rooms.length)
    (hs : b.state = .booked ∧ s1.clock.minute + (s1.room b.room).earlyOpen < b.startMin ∨
      (b.state = .awaiting ∨ b.state = .inUse) ∧ s1.clock.minute + 5 ≤ b.endMin)
    (hin : (s1.room b.room).inTable = true) (hclear : (s1.room b.room).closedFor b.startMin b.endMin = false)
    (hfree : s1.blocker b.room (some b.handle) b.startMin b.endMin = none) :
    (b.note = none → text ≠ [] → s1.store.freeCount < 65 → exec (.amend tag f) s = .next (s1.answered ref .noSpace [])) ∧
    (∀ note, NoteLeft s1 b text note → ∃ t body w v new, exec (.amend tag f) s = .next t ∧ Closed ref .ok body v t ∧
      Noted b text note s1 w ∧ new = { b with state := b.state } ∧ Replaced b new { b with note := note } w v) := by
  have hnot : b.state ≠ .displaced := by rcases hs with ⟨h, -⟩ | ⟨h | h, -⟩ <;> simp [h]
  have htarget := amendRoom_same hroom
  have hreshapes := amendReshapes_note hm he hn hroom hhead hnot
  have hadmit : amendAdmitted f b = true := by
    rcases hs with ⟨h, -⟩ | ⟨h | h, -⟩ <;> simp [amendAdmitted, h, hm, htarget, hhead]
  have hplace := amend_eq_amendPlace hr hc hl hadmit hf (.inr (by rw [hnote]; rfl)) (by rw [htarget]; exact hin)
  rw [htarget, Option.getD_none, amendPlace_of_amendable (sp := ⟨b.startMin, b.endMin, false, false⟩)
    ⟨by simp [amendTooLate, hm, hnot], amendSpan_kept hm he hn fun hlive => hs.elim (fun h => by simp [h] at hlive) (·.2),
      fun h => by simp [hreshapes] at h, hclear, hfree, fun h => by simp [hnot] at h⟩] at hplace
  obtain ⟨-, hat, -⟩ := State.bookingAt_of_lookup hl
  rw [← hh] at hat
  refine ⟨fun hnone htext hspace => ?_, fun note hleft => ?_⟩
  · refine amend_answers ht (hplace.trans ?_)
    simp [State.amendWrite, hnote, amendNote_noSpace hnone htext hspace, refuse]
  · obtain ⟨w, hw, hnoted⟩ := noted_amendNote hat hleft
    have hwlen : b.room < w.rooms.length := by rw [hnoted.keeps]; exact hlen
    rw [← hnote] at hw
    rcases hs with ⟨hs, hearly⟩ | ⟨hs, -⟩
    · obtain ⟨body, hwrite⟩ := amendWrite_move (target := b.room) (sp := ⟨b.startMin, b.endMin, false, false⟩) hw (.inl hs)
        (.inr ⟨rfl, rfl⟩)
      have hnew : movedTo f b b.room ⟨b.startMin, b.endMin, false, false⟩ = b := by simp [movedTo, hhead, ← hs]
      rw [hnew] at hwrite
      have hrep := replaced_replace (new := b) hnoted.own rfl hwlen
      have hset : (w.replace b b).setting = s1.setting := by rw [hrep.setting, hnoted.keeps]; rfl
      rw [handleStart_early hrep.own (by rw [earlyOpen_of_setting hset]; exact hearly)] at hwrite
      obtain ⟨t, hexec, hclosed⟩ := amend_made ht (hplace.trans hwrite)
      exact ⟨t, body, w, _, b, hexec, hclosed, hnoted, rfl, hrep⟩
    · have hends : amendEnds f = false := by simp [amendEnds, he, hn]
      rw [amendWrite_end hw hs, hends] at hplace
      obtain ⟨t, hexec, hclosed⟩ := amend_made ht hplace
      exact ⟨t, _, w, _, b, hexec, hclosed, hnoted, rfl, replaced_replace hnoted.own rfl hwlen⟩

/-- R42, R54: the move of a BOOKED or DISPLACED booking. -/
theorem amend_move (ht : s.taken (.amend tag f) = some (s1, ref)) (hr : s1.running = true) (hc : s1.catching = false)
    (hl : s1.lookup f.handle = .found b) (hh : b.handle = f.handle) (hs : b.state = .booked ∨ b.state = .displaced)
    (hf : amendFormOk f = true) (hnote : f.note = none) (ho : b.order = none) (htarget : target = f.room.getD b.room)
    (hlen : target < s1.rooms.length) (hask : amendReshapes f b = true) (hin : (s1.room target).inTable = true)
    (h : Amendable s1 f b target sp) :
    ∃ t body w, exec (.amend tag f) s = .next t ∧
      Closed ref .ok body (w.handleStart s1.clock.minute b.handle.idx) t ∧ Replaced b (movedTo f b target sp) b s1 w := by
  have hplaced : (amendRoom f b).getD b.room = target := amendRoom_target.trans htarget.symm
  have hadmit : amendAdmitted f b = true := by rcases hs with h | h <;> simp [amendAdmitted, h]
  have hplace := amend_eq_amendPlace hr hc hl hadmit hf (.inl hask) (by rw [hplaced]; exact hin)
  obtain ⟨body, hwrite⟩ := amendWrite_move (t := s1) (f := f) (target := target) (sp := sp)
    (show s1.amendNote b f.note = some s1 by simp [State.amendNote, hnote]) hs (.inl ho)
  rw [hplaced, amendPlace_of_amendable h, hwrite] at hplace
  obtain ⟨t, hexec, hclosed⟩ := amend_made ht hplace
  obtain ⟨-, hat, -⟩ := State.bookingAt_of_lookup hl
  exact ⟨t, body, _, hexec, hclosed, replaced_replace (new := movedTo f b target sp) (hh ▸ hat) rfl hlen⟩

/-- Settles O18, by the three forms of AMEND. -/
theorem amendMovesTheBooking : Obligations.AmendMovesTheBooking := by
  refine ⟨?_, ?_, ?_, ?_⟩
  · intro s s1 ref tag f b e ht hr hc hl hh hs hm hroom hhead hnote hf _ hlen hask hmin hmax hin
    obtain ⟨hbad, hwait, hmade⟩ := amend_end ht hr hc hl hh hs hm hroom hhead hnote hf hlen hask hmin hmax hin
    refine ⟨hbad, hwait, fun hfar hopen => ?_⟩
    obtain ⟨hclosed, hfree⟩ := hmade hfar hopen
    refine ⟨hclosed, fun hclear => ⟨(hfree hclear).1, fun hnone => ?_⟩⟩
    obtain ⟨t, v, hexec, hclosed, hrep⟩ := (hfree hclear).2 hnone
    obtain ⟨hkeeps, htimer, hother⟩ := shortenWindow_channels v b e
    have hvbank : v.bank = s1.bank := by rw [hrep.keeps]
    have hvchannel (c : Nat) : v.channel c = s1.channel c := by rw [State.channel, hvbank]; rfl
    have hvclock : v.clock = s1.clock := by rw [hrep.keeps]
    have htchannel (c : Nat) : t.channel c = (v.shortenWindow b e).channel c := by rw [State.channel, hclosed.bank]; rfl
    have htroom (r : Nat) : t.room r = v.room r := by rw [State.room, hclosed.rooms, hkeeps]; rfl
    have htbooking (j : Nat) : t.bookingAt j = v.bookingAt j := State.bookingAt_congr (by rw [hclosed.dir, hkeeps]) j
    simp only [hvchannel, hvbank, hvclock] at htimer hother
    refine ⟨t, hexec, ?_, ?_, fun r hne => ?_, fun j hj => ?_, fun c hbc => ?_, fun d hd => ?_, ?_, ?_, ?_⟩
    · rw [htbooking, ← hh, hrep.own]
    · rw [htroom, ← hh]
      exact hrep.mem
    · rw [htroom, hrep.rooms r hne hne]
    · rw [htbooking, hrep.others j (by rwa [hh])]
    · rw [htchannel]
      exact htimer c hbc
    · rw [htchannel, hother d hd]
    · rw [hclosed.store, hkeeps, hrep.keeps]
    · rw [hclosed.catering, hkeeps, hrep.keeps]
    · refine hclosed.link.trans (answer_link_congr ?_ _ _)
      rw [hkeeps, hrep.keeps]
  · intro s s1 ref tag f b text ht hr hc hl hh hm he hn hroom hhead hnote hf _ hlen hs hin hclear hfree
    obtain ⟨hspace, hmade⟩ := amend_note ht hr hc hl hh hm he hn hroom hhead hnote hf hlen hs hin hclear hfree
    refine ⟨hspace, fun note hleft => ?_⟩
    obtain ⟨t, body, w, v, new, hexec, hclosed, hnoted, rfl, hrep⟩ := hmade note hleft
    have htbooking (j : Nat) : t.bookingAt j = v.bookingAt j := State.bookingAt_congr hclosed.dir j
    have htstore : t.store = w.store := by rw [hclosed.store, hrep.keeps]
    refine ⟨t, body, hexec, ?_, fun j hj => ?_, ?_, ?_, ?_, ?_, ?_, ?_, ?_⟩
    · rw [htbooking, ← hh, hrep.own]
    · rw [htbooking, hrep.others j (by rwa [hh]), hnoted.others j (by rwa [hh])]
    · rw [hclosed.bank, hrep.keeps, hnoted.keeps]
    · rw [hclosed.catering, hrep.keeps, hnoted.keeps]
    · rw [htstore]
      exact hnoted.returned
    · rw [htstore]
      exact hnoted.taken
    · rw [htstore]
      exact hnoted.kept
    · rw [State.room, hclosed.rooms, ← hh]
      exact hrep.mem
    · refine hclosed.link.trans (answer_link_congr ?_ _ _)
      rw [hrep.keeps, hnoted.keeps]
  · intro s s1 ref tag f b ht hr hc hl hm he hn hroom hhead hnote hf hin
    exact amend_note_refused ht hr hc hl hm he hn hroom hhead hnote hf hin
  · intro s s1 ref tag f b target sp ht hr hc hl hh hs hf hnote ho htarget hlen _ hask hkept hgiven hspan hin hopen hclear hfree
      hscope
    have hasks : amendReshapes f b = true := by
      have hmoved : target ≠ b.room → (amendRoom f b).isSome = true := fun hne => by
        cases hroom : amendRoom f b with
        | some r => rfl
        | none => exact absurd (htarget.trans (by rw [← amendRoom_target, hroom]; rfl)) hne
      rcases hask with h | h | h | h | h | h
      · simp [amendReshapes, h]
      · simp [amendReshapes, h]
      · simp [amendReshapes, h]
      · simp [amendReshapes, hmoved h]
      · simp [amendReshapes, h]
      · simp [amendReshapes, h]
    obtain ⟨t, body, w, hexec, hclosed, hrep⟩ := amend_move ht hr hc hl hh hs hf hnote ho htarget hlen hasks hin
      ⟨amendTooLate_eq_false hkept hgiven, hspan, fun _ => hopen, hclear, hfree, hscope⟩
    have hstarted := started_handleStart (now := s1.clock.minute) hrep.own rfl
    obtain ⟨x, hx, hxb, -⟩ := hstarted.own
    simp only [movedTo] at hxb
    have hroom (r : Nat) : t.room r = w.room r := by rw [State.room, hclosed.rooms, hstarted.keeps]; rfl
    have htbooking (j : Nat) : t.bookingAt j = (w.handleStart s1.clock.minute b.handle.idx).bookingAt j :=
      State.bookingAt_congr hclosed.dir j
    refine ⟨t, body, x, hexec, by rw [htbooking, ← hh, hx], by rw [hxb], by rw [hxb], by rw [hxb],
      by rw [hxb], by rw [hxb], by rw [hxb], by rw [hxb], by rw [hxb], by rw [hxb], by rw [hxb], fun hexempt => ?_, fun hreq hleft => ?_, ?_, fun hne => ?_, fun r hrt hrb => ?_, fun j hj => ?_, ?_, ?_⟩
    · have := handleStart_exempt (now := s1.clock.minute) hrep.own rfl hexempt
      rw [hx, Option.some.injEq] at this
      subst this
      exact ⟨hexempt, rfl⟩
    · have := handleStart_left (now := s1.clock.minute) hrep.own hreq
        (by rw [earlyOpen_of_setting hrep.setting, panelAvailable_of_setting hrep.setting]; exact hleft)
      rw [this, hrep.own, Option.some.injEq] at hx
      subst hx
      exact ⟨hreq, rfl, rfl⟩
    · rw [hroom]
      exact hrep.mem
    · rw [hroom]
      exact hrep.left hne
    · rw [hroom, hrep.rooms r hrt hrb]
    · rw [htbooking, hstarted.others j (by rwa [hh]), hrep.others j (by rwa [hh])]
    · rw [hclosed.store, hstarted.keeps, hrep.keeps]
    · refine hclosed.link.trans (answer_link_congr ?_ _ _)
      rw [hstarted.keeps, hrep.keeps]

end Sys2Proof.Machine
end

section
/-! SUPPORT. The timetable of the part: what the timelines, the spans of the bookings, the rooms and the searches hold in the
sense of R34, R4 and R70, and what keeps it right. -/

namespace Sys2Proof.Machine

/-! ### What the timetable holds -/

/-- How a booking stands to its timeline: on it and movable (BOOKED, AWAITING), on it and IN_USE, DISPLACED, or ended for good. -/
inductive Footing where
  | movable | held | away | past
deriving DecidableEq

def Footing.active : Footing → Bool
  | .movable | .held => true
  | .away | .past => false

def BookingState.footing : BookingState → Footing
  | .booked | .awaiting => .movable
  | .inUse => .held
  | .displaced => .away
  | .ended | .endedEarly | .released | .cancelled => .past

/-- A booking as the timelines see it. -/
structure Place where
  handle : Handle
  room : Nat
  startMin : Nat
  endMin : Nat
  footing : Footing

/-- A room as the timelines see it. -/
structure RoomLine where
  inTable : Bool
  turnover : Nat
  closure : Option Closure
  timeline : List Handle

/-- A series as R4 and R57 see it. -/
structure SeriesLine where
  room : Nat
  length : Nat
  live : Bool

/-- A search as R70 and R158 see it. -/
structure SearchLine where
  id : Nat
  sweep : Bool
  self : Option Handle
  startMin : Nat
  endMin : Nat
  books : Bool

structure Timetable where
  slot : Nat → Option Place
  room : Nat → RoomLine
  series : Nat → Option SeriesLine
  queue : List SearchLine
  nextId : Nat
  sweeping : Bool
  sweepRoom : Nat
  current : Option (Handle × SweepPhase)
  reported : Bool

abbrev Booking.place (b : Booking) : Place := ⟨b.handle, b.room, b.startMin, b.endMin, b.state.footing⟩
abbrev Room.line (r : Room) : RoomLine := ⟨r.inTable, r.turnover, r.closure, r.timeline⟩
abbrev Series.line (x : Series) : SeriesLine := ⟨x.room, x.length, decide (x.state ≠ .finished)⟩
abbrev QueueEntry.line (e : QueueEntry) : SearchLine :=
  ⟨e.id, decide (e.kind = .sweep), e.client.self, e.inputs.startMin, e.inputs.endMin, e.inputs.book.isSome⟩

def State.timetable (s : State) : Timetable where
  slot i := (s.bookingAt i).map Booking.place
  room r := (s.room r).line
  series id := (s.seriesAt id).map Series.line
  queue := s.placement.queue.map QueueEntry.line
  nextId := s.placement.nextId
  sweeping := s.sweep.sweeping
  sweepRoom := s.sweep.room
  current := s.sweep.current
  reported := s.sweep.report.isSome

variable {L M : Timetable} {r n i id : Nat} {x y : Place} {h k : Handle} {e : SearchLine}

/-! ### A right timetable -/

/-- The first booking ends, with the turnover, before the second starts. -/
def Timetable.Apart (L : Timetable) (n : Nat) (h k : Handle) : Prop :=
  ∀ x y, L.slot h.idx = some x → L.slot k.idx = some y → x.endMin + n ≤ y.startMin

/-- The booking of a handle stands on the timeline of a room (R34). -/
def Timetable.Stands (L : Timetable) (r : Nat) (h : Handle) : Prop :=
  ∃ x, L.slot h.idx = some x ∧ x.handle = h ∧ x.room = r ∧ x.footing.active = true

/-- The sweep's search has the span of its booking, while that lies in the closure of the room swept (R158). -/
def Timetable.SweepSpan (L : Timetable) (e : SearchLine) (h : Handle) : Prop :=
  ∀ x c, L.slot h.idx = some x → x.handle = h → x.room = L.sweepRoom → x.footing = .movable →
    (L.room L.sweepRoom).closure = some c → x.startMin < c.toMin → c.fromMin < x.endMin →
    e.startMin = x.startMin ∧ e.endMin = x.endMin

/-- The sweep's search is that of its current booking, with no report waiting (R158). -/
def Timetable.SweepSearch (L : Timetable) (e : SearchLine) : Prop :=
  L.sweeping = true ∧ L.reported = false ∧ ∃ h, e.self = some h ∧ L.current = some (h, .searching) ∧ L.SweepSpan e h

/-- The timelines, spans, rooms and searches agree with each other (R4, R34, R37, R70). -/
structure Timetable.Right (L : Timetable) : Prop where
  idx : ∀ i x, L.slot i = some x → x.handle.idx = i
  apart : ∀ r, (L.room r).timeline.Pairwise (L.Apart (L.room r).turnover)
  nodup : ∀ r, (L.room r).timeline.Nodup
  stands : ∀ r h, h ∈ (L.room r).timeline ↔ L.Stands r h
  spans : ∀ i x, L.slot i = some x → x.footing ≠ .past → x.startMin < x.endMin
  rooms : ∀ r, (L.room r).timeline ≠ [] → (L.room r).inTable = true
  series : ∀ id p, L.series id = some p → p.live = true → (L.room p.room).inTable = true ∧ 1 ≤ p.length
  ids : (L.queue.map SearchLine.id).Nodup
  fresh : ∀ e ∈ L.queue, e.id < L.nextId
  single : L.queue.countP SearchLine.sweep ≤ 1
  books : ∀ e ∈ L.queue, e.books = true → e.startMin < e.endMin
  sweeps : ∀ e ∈ L.queue, e.sweep = true → L.SweepSearch e
  idle : L.current = none → L.reported = false

/-! ### One slot changes -/

/-- The timetable with another booking, or none, in an entry. -/
def Timetable.withSlot (L : Timetable) (i : Nat) (p : Option Place) : Timetable :=
  { L with slot := fun j => if j = i then p else L.slot j }

theorem Timetable.slot_withSlot_same (L : Timetable) (i : Nat) (p : Option Place) : (L.withSlot i p).slot i = p := if_pos rfl

theorem Timetable.slot_withSlot_other {p : Option Place} {j : Nat} (hj : j ≠ i) : (L.withSlot i p).slot j = L.slot j :=
  if_neg hj

theorem Timetable.withSlot_withSlot (L : Timetable) (i : Nat) (p q : Option Place) :
    (L.withSlot i p).withSlot i q = L.withSlot i q := by
  simp only [Timetable.withSlot, Timetable.mk.injEq, and_self, and_true]
  funext j
  split <;> simp_all

theorem Timetable.withSlot_same {p : Option Place} (hp : L.slot i = p) : L.withSlot i p = L := by
  have hfun : (fun j => if j = i then p else L.slot j) = L.slot := by
    funext j
    split <;> simp_all
  simp only [Timetable.withSlot, hfun]

/-- The timetable with another timeline in a room. -/
def Timetable.withTimeline (L : Timetable) (r : Nat) (l : List Handle) : Timetable :=
  { L with room := fun q => if q = r then { L.room r with timeline := l } else L.room q }

theorem Timetable.room_withTimeline_same (L : Timetable) (r : Nat) (l : List Handle) :
    (L.withTimeline r l).room r = { L.room r with timeline := l } := if_pos rfl

theorem Timetable.room_withTimeline_other {l : List Handle} {q : Nat} (hq : q ≠ r) : (L.withTimeline r l).room q = L.room q :=
  if_neg hq

/-- A change of a timeline leaves the rest of its room. -/
theorem Timetable.withTimeline_frame (L : Timetable) (r : Nat) (l : List Handle) (q : Nat) :
    ((L.withTimeline r l).room q).turnover = (L.room q).turnover ∧ ((L.withTimeline r l).room q).closure = (L.room q).closure ∧
      ((L.withTimeline r l).room q).inTable = (L.room q).inTable := by
  by_cases hq : q = r
  · subst hq
    rw [L.room_withTimeline_same]
    exact ⟨rfl, rfl, rfl⟩
  · rw [Timetable.room_withTimeline_other hq]
    exact ⟨rfl, rfl, rfl⟩

/-- The conditions on searches look at the movable bookings and the closures. -/
theorem Timetable.SweepSearch.of_slots (hs : L.SweepSearch e)
    (hslot : ∀ i x, M.slot i = some x → x.footing = .movable → x.room = L.sweepRoom →
      L.slot i = some x ∨ ∀ c, (L.room x.room).closure = some c → ¬ (x.startMin < c.toMin ∧ c.fromMin < x.endMin))
    (hclosure : ∀ c, (M.room L.sweepRoom).closure = some c → (L.room L.sweepRoom).closure = some c)
    (hw : M.sweeping = L.sweeping ∧ M.sweepRoom = L.sweepRoom ∧ M.current = L.current ∧ M.reported = L.reported) :
    M.SweepSearch e := by
  obtain ⟨hsweeping, hreport, h, hself, hcurrent, hspan⟩ := hs
  obtain ⟨hw1, hw2, hw3, hw4⟩ := hw
  refine ⟨hw1.trans hsweeping, hw4.trans hreport, h, hself, hw3.trans hcurrent, fun x c hx hh hr hf hc hto hfrom => ?_⟩
  rw [hw2] at hr hc
  rcases hslot _ x hx hf hr with hsame | hclear
  · exact hspan x c hsame hh hr hf (hclosure c hc) hto hfrom
  · exact absurd ⟨hto, hfrom⟩ (hclear c (hr ▸ hclosure c hc))

/-! ### A booking leaves, or takes, its place -/

/-- The timetable without a booking: its entry is empty and it stands on no timeline. -/
def Timetable.vacate (L : Timetable) (x : Place) : Timetable :=
  (L.withTimeline x.room ((L.room x.room).timeline.filter (· ≠ x.handle))).withSlot x.handle.idx none

theorem Timetable.mem_vacate : h ∈ ((L.vacate x).room r).timeline ↔ h ∈ (L.room r).timeline ∧ (r = x.room → h ≠ x.handle) := by
  change h ∈ ((L.withTimeline x.room ((L.room x.room).timeline.filter (· ≠ x.handle))).room r).timeline ↔ _
  by_cases hr : r = x.room
  · subst hr
    rw [L.room_withTimeline_same]
    simp
  · rw [Timetable.room_withTimeline_other hr]
    simp [hr]

theorem Timetable.sublist_vacate (L : Timetable) (x : Place) (r : Nat) :
    ((L.vacate x).room r).timeline.Sublist (L.room r).timeline := by
  change ((L.withTimeline x.room ((L.room x.room).timeline.filter (· ≠ x.handle))).room r).timeline.Sublist _
  by_cases hr : r = x.room
  · subst hr
    rw [L.room_withTimeline_same]
    exact List.filter_sublist
  · rw [Timetable.room_withTimeline_other hr]

theorem Timetable.slot_vacate_same (L : Timetable) (x : Place) : (L.vacate x).slot x.handle.idx = none :=
  Timetable.slot_withSlot_same ..

theorem Timetable.slot_of_vacate (hy : (L.vacate x).slot i = some y) : i ≠ x.handle.idx ∧ L.slot i = some y := by
  by_cases hi : i = x.handle.idx
  · rw [hi, L.slot_vacate_same] at hy
    exact nomatch hy
  · exact ⟨hi, (Timetable.slot_withSlot_other hi).symm.trans hy⟩

theorem Timetable.Right.vacate (hL : L.Right) (hx : L.slot x.handle.idx = some x) : (L.vacate x).Right where
  idx i y hy := hL.idx i y (Timetable.slot_of_vacate hy).2
  apart r := by
    have hsub := (hL.apart r).sublist (L.sublist_vacate x r)
    obtain ⟨hturn, -⟩ := L.withTimeline_frame x.room ((L.room x.room).timeline.filter (· ≠ x.handle)) r
    have hturn' : ((L.vacate x).room r).turnover = (L.room r).turnover := hturn
    rw [hturn']
    exact hsub.imp fun hap y z hy hz => hap y z (Timetable.slot_of_vacate hy).2 (Timetable.slot_of_vacate hz).2
  nodup r := (hL.nodup r).sublist (L.sublist_vacate x r)
  stands r h := by
    rw [Timetable.mem_vacate, hL.stands r h]
    constructor
    · rintro ⟨⟨y, hy, hh, hr, ha⟩, hne⟩
      have hidx : h.idx ≠ x.handle.idx := fun hi => by
        rw [hi, hx, Option.some.injEq] at hy
        subst hy
        exact hne hr.symm hh.symm
      exact ⟨y, (Timetable.slot_withSlot_other hidx).trans hy, hh, hr, ha⟩
    · rintro ⟨y, hy, hh, hr, ha⟩
      obtain ⟨hidx, hy⟩ := Timetable.slot_of_vacate hy
      exact ⟨⟨y, hy, hh, hr, ha⟩, fun _ hk => hidx (congrArg Handle.idx hk)⟩
  spans i y hy := hL.spans i y (Timetable.slot_of_vacate hy).2
  rooms r hne := by
    obtain ⟨-, -, hin⟩ := L.withTimeline_frame x.room ((L.room x.room).timeline.filter (· ≠ x.handle)) r
    obtain ⟨h, hmem⟩ := List.exists_mem_of_ne_nil _ hne
    exact hin.trans (hL.rooms r (List.ne_nil_of_mem ((L.sublist_vacate x r).subset hmem)))
  series id p hp hlive := by
    obtain ⟨-, -, hin⟩ := L.withTimeline_frame x.room ((L.room x.room).timeline.filter (· ≠ x.handle)) p.room
    obtain ⟨hroom, hlen⟩ := hL.series id p hp hlive
    exact ⟨hin.trans hroom, hlen⟩
  ids := hL.ids
  fresh := hL.fresh
  single := hL.single
  books := hL.books
  sweeps e he hsw := (hL.sweeps e he hsw).of_slots
    (fun i y hy _ _ => .inl (Timetable.slot_of_vacate hy).2)
    (fun c hc => by
      obtain ⟨-, hcl, -⟩ := L.withTimeline_frame x.room ((L.room x.room).timeline.filter (· ≠ x.handle)) L.sweepRoom
      exact hcl.symm.trans hc) ⟨rfl, rfl, rfl, rfl⟩
  idle := hL.idle

/-- A booking that stands on no timeline is recorded in an empty entry. -/
theorem Timetable.Right.record (hL : L.Right) (hi : L.slot x.handle.idx = none) (hx : x.footing.active = false)
    (hspan : x.footing = .away → x.startMin < x.endMin) : (L.withSlot x.handle.idx (some x)).Right := by
  have hold {i : Nat} {y : Place} (hy : (L.withSlot x.handle.idx (some x)).slot i = some y) :
      i = x.handle.idx ∧ y = x ∨ i ≠ x.handle.idx ∧ L.slot i = some y := by
    by_cases hix : i = x.handle.idx
    · rw [hix, L.slot_withSlot_same, Option.some.injEq] at hy
      exact .inl ⟨hix, hy.symm⟩
    · exact .inr ⟨hix, (Timetable.slot_withSlot_other hix).symm.trans hy⟩
  have hmember {r : Nat} {h : Handle} (hh : h ∈ (L.room r).timeline) : h.idx ≠ x.handle.idx := fun hidx => by
    obtain ⟨y, hy, -⟩ := (hL.stands r h).mp hh
    rw [hidx, hi] at hy
    exact nomatch hy
  refine ⟨fun i y hy => ?_, fun r => ?_, hL.nodup, fun r h => ⟨fun hh => ?_, ?_⟩, fun i y hy hf => ?_, hL.rooms, hL.series,
    hL.ids, hL.fresh, hL.single, hL.books, fun e he hsw => ?_, hL.idle⟩
  · rcases hold hy with ⟨rfl, rfl⟩ | ⟨-, hy⟩
    · rfl
    · exact hL.idx i y hy
  · refine (hL.apart r).imp_of_mem fun ha hb hap y z hy hz => ?_
    exact hap y z ((Timetable.slot_withSlot_other (hmember ha)).symm.trans hy)
      ((Timetable.slot_withSlot_other (hmember hb)).symm.trans hz)
  · obtain ⟨y, hy, hrest⟩ := (hL.stands r h).mp hh
    exact ⟨y, (Timetable.slot_withSlot_other (hmember hh)).trans hy, hrest⟩
  · rintro ⟨y, hy, hh, hr, ha⟩
    rcases hold hy with ⟨-, rfl⟩ | ⟨-, hy⟩
    · exact absurd (hx.symm.trans ha) Bool.false_ne_true
    · exact (hL.stands r h).mpr ⟨y, hy, hh, hr, ha⟩
  · rcases hold hy with ⟨-, rfl⟩ | ⟨-, hy⟩
    · cases hfoot : y.footing with
      | movable => simp [hfoot, Footing.active] at hx
      | held => simp [hfoot, Footing.active] at hx
      | away => exact hspan hfoot
      | past => exact absurd hfoot hf
    · exact hL.spans i y hy hf
  · refine (hL.sweeps e he hsw).of_slots (fun i y hy hf _ => ?_) (fun c hc => hc) ⟨rfl, rfl, rfl, rfl⟩
    rcases hold hy with ⟨-, rfl⟩ | ⟨-, hy⟩
    · simp [hf, Footing.active] at hx
    · exact .inl hy

end Sys2Proof.Machine
end

section
/-! SUPPORT. A booking put on a timeline, an IN_USE booking, and the rooms, series and searches of the timetable. -/

namespace Sys2Proof.Machine

variable {L M : Timetable} {r n i id a b : Nat} {x y : Place} {h k : Handle} {e : SearchLine}

/-! ### A booking put on a timeline -/

/-- A span keeps its distance from every booking of a room (R35). -/
def Timetable.Free (L : Timetable) (r a b : Nat) : Prop :=
  ∀ k ∈ (L.room r).timeline, ∀ y, L.slot k.idx = some y →
    y.endMin + (L.room r).turnover ≤ a ∨ b + (L.room r).turnover ≤ y.startMin

def Timetable.startOf (L : Timetable) (h : Handle) : Nat := ((L.slot h.idx).map Place.startMin).getD 0

def Timetable.endOf (L : Timetable) (h : Handle) : Nat := ((L.slot h.idx).map Place.endMin).getD 0

/-- A span that keeps its distance from each of a spaced list is put in its place in it. -/
theorem pairwise_insertByStart {g st en : Handle → Nat} {l : List Handle} (hl : l.Pairwise fun h k => en h + n ≤ st k)
    (hspan : ∀ k ∈ l, st k < en k) (hg : ∀ k ∈ l, g k = st k) (hab : st h < en h)
    (hgap : ∀ k ∈ l, en k + n ≤ st h ∨ en h + n ≤ st k) :
    (insertByStart g h (st h) l).Pairwise fun h k => en h + n ≤ st k := by
  induction l with
  | nil => simp [insertByStart]
  | cons k l ih =>
    obtain ⟨hk, hl⟩ := List.pairwise_cons.mp hl
    have hkspan := hspan k List.mem_cons_self
    have hkgap := hgap k List.mem_cons_self
    have hkg := hg k List.mem_cons_self
    unfold insertByStart
    split
    · refine List.pairwise_cons.mpr ⟨fun m hm => ?_, List.pairwise_cons.mpr ⟨hk, hl⟩⟩
      rcases List.mem_cons.mp hm with rfl | hm'
      · omega
      · have := hk m hm'
        have := hgap m hm
        have := hspan m hm
        omega
    · refine List.pairwise_cons.mpr ⟨fun m hm => ?_, ih hl (fun m hm => hspan m (List.mem_cons_of_mem k hm))
        (fun m hm => hg m (List.mem_cons_of_mem k hm)) (fun m hm => hgap m (List.mem_cons_of_mem k hm))⟩
      rcases mem_insertByStart.mp hm with rfl | hm'
      · omega
      · exact hk m hm'

theorem nodup_insertByStart {g : Handle → Nat} {l : List Handle} (hl : l.Nodup) (hh : h ∉ l) : (insertByStart g h a l).Nodup := by
  induction l with
  | nil => simp [insertByStart]
  | cons k l ih =>
    obtain ⟨hk, hl⟩ := List.nodup_cons.mp hl
    have hne : k ≠ h := fun hkh => hh (hkh ▸ List.mem_cons_self)
    unfold insertByStart
    split
    · exact List.nodup_cons.mpr ⟨hh, List.nodup_cons.mpr ⟨hk, hl⟩⟩
    · refine List.nodup_cons.mpr ⟨fun hm => ?_, ih hl fun hm => hh (List.mem_cons_of_mem k hm)⟩
      rcases mem_insertByStart.mp hm with rfl | hm'
      · exact hne rfl
      · exact hk hm'

/-- The timetable with a booking in an entry and on its room's timeline. -/
def Timetable.seat (L : Timetable) (g : Handle → Nat) (x : Place) : Timetable :=
  (L.withSlot x.handle.idx (some x)).withTimeline x.room (insertByStart g x.handle x.startMin (L.room x.room).timeline)

theorem Timetable.mem_seat {g : Handle → Nat} :
    h ∈ ((L.seat g x).room r).timeline ↔ r = x.room ∧ h = x.handle ∨ h ∈ (L.room r).timeline := by
  unfold Timetable.seat
  by_cases hr : r = x.room
  · subst hr
    rw [Timetable.room_withTimeline_same, mem_insertByStart]
    simp
  · rw [Timetable.room_withTimeline_other hr]
    simp only [hr, false_and, false_or]
    rfl

theorem Timetable.slot_of_seat {g : Handle → Nat} (hy : (L.seat g x).slot i = some y) :
    i = x.handle.idx ∧ y = x ∨ i ≠ x.handle.idx ∧ L.slot i = some y := by
  change (L.withSlot x.handle.idx (some x)).slot i = some y at hy
  by_cases hi : i = x.handle.idx
  · rw [hi, L.slot_withSlot_same, Option.some.injEq] at hy
    exact .inl ⟨hi, hy.symm⟩
  · exact .inr ⟨hi, (Timetable.slot_withSlot_other hi).symm.trans hy⟩

/-- A member of a timeline has a booking, in another entry than an empty one. -/
theorem Timetable.Right.member (hL : L.Right) (hh : h ∈ (L.room r).timeline) :
    ∃ y, L.slot h.idx = some y ∧ y.handle = h ∧ y.room = r ∧ y.footing.active = true ∧ y.startMin < y.endMin ∧
      L.startOf h = y.startMin ∧ L.endOf h = y.endMin := by
  obtain ⟨y, hy, hyh, hyr, hya⟩ := (hL.stands r h).mp hh
  refine ⟨y, hy, hyh, hyr, hya, hL.spans _ y hy fun hp => ?_, by simp [Timetable.startOf, hy], by simp [Timetable.endOf, hy]⟩
  simp [hp, Footing.active] at hya

/-- The spacing of a timeline, by the starts and ends of its bookings. -/
theorem Timetable.Right.pairwise_ends (hL : L.Right) (r : Nat) :
    (L.room r).timeline.Pairwise fun h k => L.endOf h + (L.room r).turnover ≤ L.startOf k := by
  refine (hL.apart r).imp_of_mem fun hh hk hap => ?_
  obtain ⟨y, hy, -, -, -, -, -, hend⟩ := hL.member hh
  obtain ⟨z, hz, -, -, -, -, hstart, -⟩ := hL.member hk
  rw [hend, hstart]
  exact hap y z hy hz

theorem Timetable.Right.seat {g : Handle → Nat} (hL : L.Right) (hi : L.slot x.handle.idx = none)
    (hx : x.footing.active = true) (hspan : x.startMin < x.endMin) (hin : (L.room x.room).inTable = true)
    (hg : ∀ k ∈ (L.room x.room).timeline, g k = L.startOf k) (hfree : L.Free x.room x.startMin x.endMin)
    (hclear : x.footing = .movable → ∀ c, (L.room x.room).closure = some c → ¬ (x.startMin < c.toMin ∧ c.fromMin < x.endMin)) :
    (L.seat g x).Right := by
  have hmember {r : Nat} {h : Handle} (hh : h ∈ (L.room r).timeline) : h.idx ≠ x.handle.idx := fun hidx => by
    obtain ⟨y, hy, -⟩ := hL.member hh
    rw [hidx, hi] at hy
    exact nomatch hy
  have hown : (L.seat g x).slot x.handle.idx = some x := L.slot_withSlot_same ..
  have hother {j : Nat} (hj : j ≠ x.handle.idx) : (L.seat g x).slot j = L.slot j := Timetable.slot_withSlot_other hj
  have hframe (q : Nat) := (L.withSlot x.handle.idx (some x)).withTimeline_frame x.room
    (insertByStart g x.handle x.startMin (L.room x.room).timeline) q
  have hnotin (r : Nat) : x.handle ∉ (L.room r).timeline := fun hh => hmember hh rfl
  refine ⟨fun i y hy => ?_, fun r => ?_, fun r => ?_, fun r h => ⟨fun hh => ?_, ?_⟩, fun i y hy hf => ?_, fun r _ => ?_,
    fun id p hp hlive => ?_, hL.ids, hL.fresh, hL.single, hL.books, fun e he hsw => ?_, hL.idle⟩
  · rcases Timetable.slot_of_seat hy with ⟨rfl, rfl⟩ | ⟨-, hy⟩
    · rfl
    · exact hL.idx i y hy
  · rw [show ((L.seat g x).room r).turnover = (L.room r).turnover from (hframe r).1]
    by_cases hr : r = x.room
    · subst hr
      rw [show (L.seat g x).room x.room = _ from Timetable.room_withTimeline_same ..]
      have hst : (L.seat g x).startOf x.handle = x.startMin := by simp [Timetable.startOf, hown]
      have hen : (L.seat g x).endOf x.handle = x.endMin := by simp [Timetable.endOf, hown]
      have hkst {k : Handle} (hk : k ∈ (L.room x.room).timeline) : (L.seat g x).startOf k = L.startOf k := by
        simp only [Timetable.startOf, hother (hmember hk)]
      have hken {k : Handle} (hk : k ∈ (L.room x.room).timeline) : (L.seat g x).endOf k = L.endOf k := by
        simp only [Timetable.endOf, hother (hmember hk)]
      have hins := pairwise_insertByStart (h := x.handle) (n := (L.room x.room).turnover) (g := g)
        (st := (L.seat g x).startOf) (en := (L.seat g x).endOf) (l := (L.room x.room).timeline)
        ((hL.pairwise_ends x.room).imp_of_mem fun ha hb hab => by rw [hken ha, hkst hb]; exact hab)
        (fun k hk => by
          obtain ⟨y, -, -, -, -, hlt, hs, he⟩ := hL.member hk
          rw [hkst hk, hken hk, hs, he]
          exact hlt)
        (fun k hk => by rw [hkst hk]; exact hg k hk) (by rw [hst, hen]; exact hspan)
        (fun k hk => by
          obtain ⟨y, hy, -, -, -, -, hs, he⟩ := hL.member hk
          rw [hkst hk, hken hk, hst, hen, hs, he]
          exact hfree k hk y hy)
      rw [hst] at hins
      refine hins.imp fun {h k} hab y z hy hz => ?_
      simpa only [Timetable.startOf, Timetable.endOf, hy, hz, Option.map_some, Option.getD_some] using hab
    · rw [show (L.seat g x).room r = L.room r from Timetable.room_withTimeline_other hr]
      refine (hL.apart r).imp_of_mem fun ha hb hap y z hy hz => ?_
      exact hap y z ((hother (hmember ha)).symm.trans hy) ((hother (hmember hb)).symm.trans hz)
  · by_cases hr : r = x.room
    · subst hr
      rw [show (L.seat g x).room x.room = _ from Timetable.room_withTimeline_same ..]
      exact nodup_insertByStart (hL.nodup _) (hnotin _)
    · rw [show (L.seat g x).room r = L.room r from Timetable.room_withTimeline_other hr]
      exact hL.nodup r
  · rcases Timetable.mem_seat.mp hh with ⟨rfl, rfl⟩ | hh
    · exact ⟨x, hown, rfl, rfl, hx⟩
    · obtain ⟨y, hy, hrest⟩ := (hL.stands r h).mp hh
      exact ⟨y, (hother (hmember hh)).trans hy, hrest⟩
  · rintro ⟨y, hy, hh, hr, ha⟩
    rcases Timetable.slot_of_seat hy with ⟨-, rfl⟩ | ⟨-, hy⟩
    · exact Timetable.mem_seat.mpr (.inl ⟨hr.symm, hh.symm⟩)
    · exact Timetable.mem_seat.mpr (.inr ((hL.stands r h).mpr ⟨y, hy, hh, hr, ha⟩))
  · rcases Timetable.slot_of_seat hy with ⟨-, rfl⟩ | ⟨-, hy⟩
    · exact hspan
    · exact hL.spans i y hy hf
  · refine (hframe r).2.2.trans ?_
    by_cases hr : r = x.room
    · exact hr ▸ hin
    · refine hL.rooms r ?_
      rwa [← show (L.seat g x).room r = L.room r from Timetable.room_withTimeline_other hr]
  · obtain ⟨hroom, hlen⟩ := hL.series id p hp hlive
    exact ⟨(hframe p.room).2.2.trans hroom, hlen⟩
  · refine (hL.sweeps e he hsw).of_slots (fun i y hy hf _ => ?_) (fun c hc => (hframe _).2.1.symm.trans hc)
      ⟨rfl, rfl, rfl, rfl⟩
    rcases Timetable.slot_of_seat hy with ⟨-, rfl⟩ | ⟨-, hy⟩
    · exact .inr (hclear hf)
    · exact .inl hy

/-! ### A booking begins its use -/

/-- A movable booking becomes IN_USE. -/
theorem Timetable.Right.engage (hL : L.Right) (hx : L.slot x.handle.idx = some x) (ha : x.footing.active = true) :
    (L.withSlot x.handle.idx (some { x with footing := .held })).Right := by
  have hold {i : Nat} {y : Place} (hy : (L.withSlot x.handle.idx (some { x with footing := .held })).slot i = some y) :
      ∃ z, L.slot i = some z ∧ (y = z ∨ y = { z with footing := .held } ∧ z.footing.active = true) := by
    by_cases hi : i = x.handle.idx
    · rw [hi, L.slot_withSlot_same, Option.some.injEq] at hy
      exact ⟨x, hi ▸ hx, .inr ⟨hy.symm, ha⟩⟩
    · exact ⟨y, (Timetable.slot_withSlot_other hi).symm.trans hy, .inl rfl⟩
  refine ⟨fun i y hy => ?_, fun r => ?_, hL.nodup, fun r h => ⟨fun hh => ?_, ?_⟩, fun i y hy hf => ?_, hL.rooms, hL.series,
    hL.ids, hL.fresh, hL.single, hL.books, fun e he hsw => ?_, hL.idle⟩
  · obtain ⟨z, hz, hyz⟩ := hold hy
    have hhandle : y.handle = z.handle := by rcases hyz with rfl | ⟨rfl, -⟩ <;> rfl
    rw [hhandle]
    exact hL.idx i z hz
  · refine (hL.apart r).imp fun hap y z hy hz => ?_
    obtain ⟨y', hy', hyy⟩ := hold hy
    obtain ⟨z', hz', hzz⟩ := hold hz
    have := hap y' z' hy' hz'
    have hend : y.endMin = y'.endMin := by rcases hyy with rfl | ⟨rfl, -⟩ <;> rfl
    have hstart : z.startMin = z'.startMin := by rcases hzz with rfl | ⟨rfl, -⟩ <;> rfl
    rw [hend, hstart]
    exact this
  · obtain ⟨y, hy, hh', hr, hya⟩ := (hL.stands r h).mp hh
    by_cases hi : h.idx = x.handle.idx
    · rw [hi, hx, Option.some.injEq] at hy
      subst hy
      exact ⟨{ x with footing := .held }, (congrArg _ hi).trans (L.slot_withSlot_same ..), hh', hr, rfl⟩
    · exact ⟨y, (Timetable.slot_withSlot_other hi).trans hy, hh', hr, hya⟩
  · rintro ⟨y, hy, hh, hr, hya⟩
    obtain ⟨z, hz, rfl | ⟨rfl, hza⟩⟩ := hold hy
    · exact (hL.stands r h).mpr ⟨_, hz, hh, hr, hya⟩
    · exact (hL.stands r h).mpr ⟨z, hz, hh, hr, hza⟩
  · obtain ⟨z, hz, rfl | ⟨rfl, hza⟩⟩ := hold hy
    · exact hL.spans i _ hz hf
    · refine hL.spans i z hz fun hp => ?_
      simp [hp, Footing.active] at hza
  · refine (hL.sweeps e he hsw).of_slots (fun i y hy hf _ => ?_) (fun c hc => hc) ⟨rfl, rfl, rfl, rfl⟩
    obtain ⟨z, hz, rfl | ⟨rfl, -⟩⟩ := hold hy
    · exact .inl hz
    · exact nomatch hf

/-! ### Rooms and series -/

/-- The timetable with another record in a room. -/
def Timetable.withRoom (L : Timetable) (r : Nat) (q : RoomLine) : Timetable :=
  { L with room := fun j => if j = r then q else L.room j }

theorem Timetable.room_withRoom_same (L : Timetable) (r : Nat) (q : RoomLine) : (L.withRoom r q).room r = q := if_pos rfl

theorem Timetable.room_withRoom_other {q : RoomLine} {j : Nat} (hj : j ≠ r) : (L.withRoom r q).room j = L.room j := if_neg hj

/-- A room's record changes, with its bookings as far apart as the new turnover asks for, its closure kept or gone, and still
in the table while a booking or a series needs it. -/
theorem Timetable.Right.withRoom {q : RoomLine} (hL : L.Right) (htl : q.timeline = (L.room r).timeline)
    (hap : (L.room r).timeline.Pairwise (L.Apart q.turnover)) (hin : q.timeline ≠ [] → q.inTable = true)
    (hseries : ∀ id p, L.series id = some p → p.live = true → p.room = r → q.inTable = true)
    (hclosure : (∃ e ∈ L.queue, e.sweep = true) → ∀ c, q.closure = some c → (L.room r).closure = some c) :
    (L.withRoom r q).Right := by
  have hline (j : Nat) : ((L.withRoom r q).room j).timeline = (L.room j).timeline := by
    by_cases hj : j = r
    · rw [hj, L.room_withRoom_same, htl]
    · rw [Timetable.room_withRoom_other hj]
  refine ⟨hL.idx, fun j => ?_, fun j => ?_, fun j h => ?_, hL.spans, fun j hne => ?_, fun id p hp hlive => ?_,
    hL.ids, hL.fresh, hL.single, hL.books, fun e he hsw => ?_, hL.idle⟩
  · rw [hline]
    by_cases hj : j = r
    · rw [hj, L.room_withRoom_same]
      exact hap
    · rw [Timetable.room_withRoom_other hj]
      exact hL.apart j
  · rw [hline]
    exact hL.nodup j
  · rw [hline]
    exact hL.stands j h
  · by_cases hj : j = r
    · rw [hj, L.room_withRoom_same] at hne ⊢
      exact hin hne
    · rw [Timetable.room_withRoom_other hj] at hne ⊢
      exact hL.rooms j hne
  · obtain ⟨hroom, hlen⟩ := hL.series id p hp hlive
    refine ⟨?_, hlen⟩
    by_cases hj : p.room = r
    · rw [hj, L.room_withRoom_same]
      exact hseries id p hp hlive hj
    · rw [Timetable.room_withRoom_other hj]
      exact hroom
  · refine (hL.sweeps e he hsw).of_slots (fun i y hy _ _ => .inl hy) (fun c hc => ?_) ⟨rfl, rfl, rfl, rfl⟩
    by_cases hj : L.sweepRoom = r
    · rw [hj, L.room_withRoom_same] at hc
      rw [hj]
      exact hclosure ⟨e, he, hsw⟩ c hc
    · rwa [Timetable.room_withRoom_other hj] at hc

/-- The timetable with another series, or none, under an id. -/
def Timetable.withSeries (L : Timetable) (id : Nat) (p : Option SeriesLine) : Timetable :=
  { L with series := fun j => if j = id then p else L.series j }

theorem Timetable.Right.withSeries {p : Option SeriesLine} (hL : L.Right)
    (hp : ∀ q, p = some q → q.live = true → (L.room q.room).inTable = true ∧ 1 ≤ q.length) : (L.withSeries id p).Right where
  idx := hL.idx
  apart := hL.apart
  nodup := hL.nodup
  stands := hL.stands
  spans := hL.spans
  rooms := hL.rooms
  series j q hq hlive := by
    by_cases hj : j = id
    · exact hp q ((if_pos hj).symm.trans hq) hlive
    · exact hL.series j q ((if_neg hj).symm.trans hq) hlive
  ids := hL.ids
  fresh := hL.fresh
  single := hL.single
  books := hL.books
  sweeps := hL.sweeps
  idle := hL.idle

/-! ### Searches -/

/-- The searches and the sweep of a timetable change together. -/
theorem Timetable.Right.withSearches {q : List SearchLine} {n room : Nat} {sweeping reported : Bool}
    {current : Option (Handle × SweepPhase)} (hL : L.Right) (hids : (q.map SearchLine.id).Nodup) (hfresh : ∀ e ∈ q, e.id < n)
    (hsingle : q.countP SearchLine.sweep ≤ 1) (hbooks : ∀ e ∈ q, e.books = true → e.startMin < e.endMin)
    (hsweeps : ∀ e ∈ q, e.sweep = true →
      ({ L with queue := q, nextId := n, sweeping := sweeping, sweepRoom := room, current := current, reported := reported } :
        Timetable).SweepSearch e)
    (hidle : current = none → reported = false) :
    ({ L with queue := q, nextId := n, sweeping := sweeping, sweepRoom := room, current := current, reported := reported } :
      Timetable).Right :=
  ⟨hL.idx, hL.apart, hL.nodup, hL.stands, hL.spans, hL.rooms, hL.series, hids, hfresh, hsingle, hbooks, hsweeps, hidle⟩

/-- Some searches leave the queue. -/
theorem Timetable.Right.dequeue {q : List SearchLine} (hL : L.Right) (hq : q.Sublist L.queue) :
    ({ L with queue := q } : Timetable).Right :=
  hL.withSearches (hL.ids.sublist (hq.map _)) (fun e he => hL.fresh e (hq.subset he)) (hq.countP_le.trans hL.single)
    (fun e he => hL.books e (hq.subset he)) (fun e he => hL.sweeps e (hq.subset he)) hL.idle

/-- A search joins the queue (R70). -/
theorem Timetable.Right.enqueue {current : Option (Handle × SweepPhase)} (hL : L.Right) (hid : e.id = L.nextId)
    (hbooks : e.books = true → e.startMin < e.endMin)
    (hsweep : ∀ e ∈ L.queue, e.sweep = true → current = L.current) (hidle : current = none → L.reported = false)
    (he : e.sweep = true → L.current = none ∧ ({ L with current := current } : Timetable).SweepSearch e) :
    ({ L with queue := L.queue ++ [e], nextId := L.nextId + 1, current := current } : Timetable).Right := by
  have hnone : e.sweep = true → ∀ f ∈ L.queue, f.sweep = false := fun hsw f hf => by
    cases hfs : f.sweep with
    | false => rfl
    | true =>
      obtain ⟨-, -, h, -, hcur, -⟩ := hL.sweeps f hf hfs
      rw [(he hsw).1] at hcur
      exact nomatch hcur
  have hmem {f : SearchLine} (hf : f ∈ L.queue ++ [e]) : f ∈ L.queue ∨ f = e := by simpa using hf
  refine hL.withSearches ?_ (fun f hf => ?_) ?_ (fun f hf => ?_) (fun f hf hsw => ?_) hidle
  · rw [List.map_append, List.map_singleton, List.nodup_append]
    refine ⟨hL.ids, by simp, ?_⟩
    simp only [List.mem_map, List.mem_singleton]
    rintro _ ⟨f, hf, rfl⟩ _ rfl
    have := hL.fresh f hf
    omega
  · rcases hmem hf with hf | rfl
    · have := hL.fresh f hf
      omega
    · omega
  · rw [List.countP_append, List.countP_singleton]
    cases hsw : e.sweep with
    | false => simpa using hL.single
    | true =>
      rw [List.countP_eq_zero.mpr fun f hf => by simp [hnone hsw f hf]]
      simp
  · rcases hmem hf with hf | rfl
    · exact hL.books f hf
    · exact hbooks
  · rcases hmem hf with hf | rfl
    · obtain ⟨h1, h2, h, hself, hcur, hspan⟩ := hL.sweeps f hf hsw
      exact ⟨h1, h2, h, hself, (hsweep f hf hsw).trans hcur, hspan⟩
    · exact (he hsw).2

/-- No search is the sweep's. -/
def Timetable.SweepFree (L : Timetable) : Prop := ∀ e ∈ L.queue, e.sweep = false

/-- Without a search of its own the sweep may go on as it likes. -/
theorem Timetable.Right.withSweep {room : Nat} {sweeping reported : Bool} {current : Option (Handle × SweepPhase)}
    (hL : L.Right) (hfree : L.SweepFree) (hidle : current = none → reported = false) :
    ({ L with sweeping := sweeping, sweepRoom := room, current := current, reported := reported } : Timetable).Right :=
  hL.withSearches hL.ids hL.fresh hL.single hL.books
    (fun e he hsw => absurd ((hfree e he).symm.trans hsw) Bool.false_ne_true) hidle

/-- The sweep has no search when it has no current booking, is not sweeping, or has a report. -/
theorem Timetable.Right.sweepFree (hL : L.Right) (h : L.current = none ∨ L.sweeping = false ∨ L.reported = true) :
    L.SweepFree := by
  refine fun e he => Bool.eq_false_iff.mpr fun hsw => ?_
  obtain ⟨hsweeping, hreport, k, -, hcur, -⟩ := hL.sweeps e he hsw
  rcases h with h | h | h
  · rw [h] at hcur
    exact nomatch hcur
  · exact Bool.false_ne_true (h.symm.trans hsweeping)
  · exact Bool.false_ne_true (hreport.symm.trans h)

end Sys2Proof.Machine
end

section
/-! SUPPORT. The timetable of a state: it is right in a sound state, and a right one gives the four invariants of R34, R37, R4 and
R70. What the plain updates do to it. -/

namespace Sys2Proof.Machine

variable {s t u : State} {r n i id : Nat} {b : Booking} {h k : Handle} {l : List Booking}

/-! ### Sound states -/

theorem footing_active (st : BookingState) : st.footing.active = st.active := by cases st <;> rfl

theorem footing_eq_movable {st : BookingState} : st.footing = .movable ↔ st = .booked ∨ st = .awaiting := by
  cases st <;> simp [BookingState.footing]

theorem footing_ne_past {st : BookingState} : st.footing ≠ .past ↔ st.active = true ∨ st = .displaced := by
  cases st <;> simp [BookingState.footing, BookingState.active]

/-- Where each booking ends after its start, neighbours are far enough apart exactly when any two are. -/
theorem spaced_iff_pairwise (hspan : ∀ b ∈ l, b.startMin < b.endMin) :
    spaced n l ↔ l.Pairwise fun x y => x.endMin + n ≤ y.startMin := by
  induction l with
  | nil => simp [spaced]
  | cons x l ih =>
    cases l with
    | nil => simp [spaced]
    | cons y rest =>
      have hx := hspan x List.mem_cons_self
      have hy := hspan y (List.mem_cons_of_mem x List.mem_cons_self)
      rw [List.pairwise_cons, ← ih fun b hb => hspan b (List.mem_cons_of_mem x hb), spaced]
      constructor
      · rintro ⟨-, hxy, hl⟩
        refine ⟨fun z hz => ?_, hl⟩
        rcases List.mem_cons.mp hz with rfl | hz
        · exact hxy
        · have := (List.pairwise_cons.mp ((ih fun b hb => hspan b (List.mem_cons_of_mem x hb)).mp hl)).1 z hz
          omega
      · rintro ⟨hall, hl⟩
        have := hall y List.mem_cons_self
        exact ⟨by omega, this, hl⟩

theorem slot_eq_some {p : Place} : s.timetable.slot i = some p ↔ ∃ b, s.bookingAt i = some b ∧ b.place = p :=
  Option.map_eq_some_iff

theorem pairwise_timelineOf : (s.timelineOf r).Pairwise (fun x y => x.endMin + n ≤ y.startMin) ↔
    (s.room r).timeline.Pairwise (s.timetable.Apart n) := by
  rw [State.timelineOf, List.pairwise_filterMap]
  refine iff_of_eq (congrArg (fun R => List.Pairwise R _) ?_)
  funext h k
  simp only [Timetable.Apart, slot_eq_some, eq_iff_iff]
  constructor
  · rintro hap _ _ ⟨b, hb, rfl⟩ ⟨c, hc, rfl⟩
    exact hap b hb c hc
  · exact fun hap b hb c hc => hap _ _ ⟨b, hb, rfl⟩ ⟨c, hc, rfl⟩

theorem stands_iff : s.timetable.Stands r h ↔
    ∃ b, s.bookingAt h.idx = some b ∧ b.handle = h ∧ b.room = r ∧ b.state.active = true := by
  simp only [Timetable.Stands, slot_eq_some]
  constructor
  · rintro ⟨_, ⟨b, hb, rfl⟩, hh, hr, ha⟩
    exact ⟨b, hb, hh, hr, (footing_active b.state).symm.trans ha⟩
  · rintro ⟨b, hb, hh, hr, ha⟩
    exact ⟨_, ⟨b, hb, rfl⟩, hh, hr, (footing_active b.state).trans ha⟩

/-- The bookings of a timeline end after they start, in a state whose bookings do. -/
theorem span_of_timelineOf (hspans : s.spansRight) (hstands : ∀ h, h ∈ (s.room r).timeline ↔
    ∃ b, s.bookingAt h.idx = some b ∧ b.handle = h ∧ b.room = r ∧ b.state.active = true) (hb : b ∈ s.timelineOf r) :
    b.startMin < b.endMin := by
  obtain ⟨h, hh, hb⟩ := List.mem_filterMap.mp hb
  obtain ⟨c, hc, -, -, ha⟩ := (hstands h).mp hh
  obtain rfl : b = c := Option.some.inj (hb.symm.trans hc)
  exact hspans _ _ hb (.inl ha)

theorem client_self {c : Client} : c.self = some h ↔ c = .booking h := by
  cases c <;> simp [Client.self]

theorem sweepSpan_iff {e : QueueEntry} : s.timetable.SweepSpan e.line h ↔ s.sweepSpan e h := by
  simp only [Timetable.SweepSpan, slot_eq_some, State.sweepSpan]
  constructor
  · intro hs b c hb hh hr hst hc hto hfrom
    exact hs _ c ⟨b, hb, rfl⟩ hh hr (footing_eq_movable.mpr hst) hc hto hfrom
  · rintro hs _ c ⟨b, hb, rfl⟩ hh hr hf hc hto hfrom
    exact hs b c hb hh hr (footing_eq_movable.mp hf) hc hto hfrom

theorem sweepSearch_iff {e : QueueEntry} : s.timetable.SweepSearch e.line ↔ s.sweep.sweeping = true ∧ s.sweep.report = none ∧
    ∃ h, e.client = .booking h ∧ s.sweep.current = some (h, .searching) ∧ s.sweepSpan e h := by
  refine and_congr Iff.rfl (and_congr ?_ (exists_congr fun h => and_congr client_self (and_congr Iff.rfl sweepSpan_iff)))
  exact Option.isSome_eq_false_iff.trans Option.isNone_iff_eq_none

theorem right_of_sound (hs : s.Sound) : s.timetable.Right where
  idx i p hp := by
    obtain ⟨b, hb, rfl⟩ := slot_eq_some.mp hp
    exact congrArg Handle.idx (hs.handles i b hb)
  apart r := by
    obtain ⟨hspaced, -, hstands⟩ := hs.timelines r
    exact pairwise_timelineOf.mp ((spaced_iff_pairwise fun b hb => span_of_timelineOf hs.spans hstands hb).mp hspaced)
  nodup r := (hs.timelines r).2.1
  stands r h := ((hs.timelines r).2.2 h).trans stands_iff.symm
  spans i p hp hf := by
    obtain ⟨b, hb, rfl⟩ := slot_eq_some.mp hp
    exact hs.spans i b hb (footing_ne_past.mp hf)
  rooms := hs.rooms.1
  series id p hp hlive := by
    obtain ⟨x, hx, rfl⟩ := Option.map_eq_some_iff.mp hp
    exact hs.rooms.2 id x hx (of_decide_eq_true hlive)
  ids := by
    have := hs.searches.1
    simpa only [State.timetable, List.map_map, Function.comp_def] using this
  fresh e he := by
    obtain ⟨q, hq, rfl⟩ := List.mem_map.mp he
    exact hs.searches.2.1 q hq
  single := by
    obtain ⟨-, -, h, -⟩ := hs.searches
    simpa only [State.timetable, List.countP_map, Function.comp_def] using h
  books e he hb := by
    obtain ⟨q, hq, rfl⟩ := List.mem_map.mp he
    exact hs.searches.2.2.2.1 q hq hb
  sweeps e he hsw := by
    obtain ⟨q, hq, rfl⟩ := List.mem_map.mp he
    exact sweepSearch_iff.mpr (hs.searches.2.2.2.2.1 q hq (of_decide_eq_true hsw))
  idle hc := by
    have := hs.searches.2.2.2.2.2 hc
    simp [State.timetable, this]

theorem parts_of_right (hs : s.timetable.Right) : s.timelinesRight ∧ s.spansRight ∧ s.roomsRight ∧ s.searchesRight := by
  have hstands (r : Nat) (h : Handle) := (hs.stands r h).trans stands_iff
  have hspans : s.spansRight := fun i b hb hst => hs.spans i _ (slot_eq_some.mpr ⟨b, hb, rfl⟩) (footing_ne_past.mpr hst)
  have hmem {e : QueueEntry} (he : e ∈ s.placement.queue) : e.line ∈ s.timetable.queue := List.mem_map.mpr ⟨e, he, rfl⟩
  refine ⟨fun r => ⟨?_, hs.nodup r, hstands r⟩, hspans, ⟨hs.rooms, fun id x hx hst => ?_⟩, ?_, fun e he => hs.fresh _ (hmem he),
    ?_, fun e he => hs.books _ (hmem he), fun e he hk => sweepSearch_iff.mp (hs.sweeps _ (hmem he) (decide_eq_true hk)),
    fun hc => ?_⟩
  · exact (spaced_iff_pairwise fun b hb => span_of_timelineOf hspans (hstands r) hb).mpr (pairwise_timelineOf.mpr (hs.apart r))
  · exact hs.series id _ (Option.map_eq_some_iff.mpr ⟨x, hx, rfl⟩) (decide_eq_true hst)
  · have := hs.ids
    simpa only [State.timetable, List.map_map, Function.comp_def] using this
  · have := hs.single
    simpa only [State.timetable, List.countP_map, Function.comp_def] using this
  · exact Option.not_isSome_iff_eq_none.mp (Bool.eq_false_iff.mp (hs.idle hc))

end Sys2Proof.Machine
end

section
/-! SUPPORT. The operations of the scheduler, the bank, the clock and the panel buses leave the timetable. -/

namespace Sys2Proof.Machine

variable (s : State)

/-! ### Plain updates -/

/-- A state with the bookings, rooms, series and searches of another has its timetable. -/
theorem timetable_eq {t : State} (hslot : ∀ i, (t.bookingAt i).map Booking.place = (s.bookingAt i).map Booking.place)
    (hroom : ∀ r, (t.room r).line = (s.room r).line)
    (hseries : ∀ id, (t.seriesAt id).map Series.line = (s.seriesAt id).map Series.line) (hp : t.placement = s.placement)
    (hw : t.sweep = s.sweep) : t.timetable = s.timetable := by
  simp only [State.timetable, Timetable.mk.injEq, hp, hw, and_self, and_true]
  exact ⟨funext hslot, funext hroom, funext hseries⟩

/-- A change of a booking that its timeline does not see. -/
@[simp] theorem timetable_modBooking {f : Booking → Booking} (h : ∀ b, (f b).place = b.place) (i : Nat) :
    (s.modBooking i f).timetable = s.timetable := by
  refine timetable_eq s (fun j => ?_) (fun _ => rfl) (fun _ => rfl) rfl rfl
  rw [State.bookingAt_modBooking]
  split
  · cases s.bookingAt j with
    | none => rfl
    | some b => exact congrArg some (h b)
  · rfl

@[simp] theorem timetable_modOrder (i : Nat) (f : Order → Order) : (s.modOrder i f).timetable = s.timetable :=
  timetable_modBooking s (f := fun b => { b with order := b.order.map f }) (fun _ => rfl) i

theorem line_modRoom {q : Nat} {f : Room → Room} (h : (f (s.room q)).line = (s.room q).line) (r : Nat) :
    ((s.modRoom q f).room r).line = (s.room r).line := by
  rw [State.room, State.modRoom, getD_modify, ← State.room]
  split
  · rename_i hq
    rw [← hq.1]
    exact h
  · rfl

/-- A change of a room that its timeline does not see. -/
theorem timetable_modRoom_of_line {q : Nat} {f : Room → Room} (h : (f (s.room q)).line = (s.room q).line) :
    (s.modRoom q f).timetable = s.timetable :=
  timetable_eq s (fun _ => rfl) (line_modRoom s h) (fun _ => rfl) rfl rfl

@[simp] theorem timetable_modRoom {f : Room → Room} (h : ∀ x, (f x).line = x.line) (q : Nat) :
    (s.modRoom q f).timetable = s.timetable := timetable_modRoom_of_line s (h _)

theorem timetable_modSeries_of_line {id : Nat} {f : Series → Series} (h : ∀ x, s.seriesAt id = some x → (f x).line = x.line) :
    (s.modSeries id f).timetable = s.timetable := by
  refine timetable_eq s (fun _ => rfl) (fun _ => rfl) (fun j => ?_) rfl rfl
  by_cases hj : id = j
  · subst hj
    rw [State.seriesAt_modSeries_same]
    cases hx : s.seriesAt id with
    | none => rfl
    | some x => exact congrArg some (h x hx)
  · rw [State.seriesAt_modSeries_other hj]

/-- A change of a series that R4 does not see. -/
@[simp] theorem timetable_modSeries {f : Series → Series} (h : ∀ x, (f x).line = x.line) (id : Nat) :
    (s.modSeries id f).timetable = s.timetable := timetable_modSeries_of_line s fun x _ => h x

theorem timetable_withSeries {u : SeriesUnit} (h : u.list = s.series.list) :
    ({ s with series := u } : State).timetable = s.timetable :=
  timetable_eq s (fun _ => rfl) (fun _ => rfl) (fun id => by simp only [State.seriesAt, h]) rfl rfl

theorem timetable_withStore (st : Store) : ({ s with store := st } : State).timetable = s.timetable := rfl
theorem timetable_withCatchUp (c : Option CatchUp) : ({ s with catchUp := c } : State).timetable = s.timetable := rfl

@[simp] theorem timetable_modKitchen (k : Nat) (f : Kitchen → Kitchen) : (s.modKitchen k f).timetable = s.timetable := rfl
@[simp] theorem timetable_modPanel (p : Nat) (f : Panel → Panel) : (s.modPanel p f).timetable = s.timetable := rfl
@[simp] theorem timetable_modPort (p : Nat) (f : Port → Port) : (s.modPort p f).timetable = s.timetable := rfl
@[simp] theorem timetable_modChannel (c : Nat) (f : Channel → Channel) : (s.modChannel c f).timetable = s.timetable := rfl
@[simp] theorem timetable_followAttn : s.followAttn.timetable = s.timetable := rfl
@[simp] theorem timetable_raiseChanged : s.raiseChanged.timetable = s.timetable := rfl
@[simp] theorem timetable_raiseSeries : s.raiseSeries.timetable = s.timetable := rfl
@[simp] theorem timetable_raisePanel : s.raisePanel.timetable = s.timetable := rfl
@[simp] theorem timetable_raiseCatering : s.raiseCatering.timetable = s.timetable := rfl
@[simp] theorem timetable_raiseClock : s.raiseClock.timetable = s.timetable := rfl
@[simp] theorem timetable_reportRoom (r : Nat) : (s.reportRoom r).timetable = s.timetable := rfl
@[simp] theorem timetable_reportList (k : Nat) : (s.reportList k).timetable = s.timetable := rfl
@[simp] theorem timetable_hand (c : Instr) : (s.hand c).timetable = s.timetable := rfl
@[simp] theorem timetable_takeHanded (c : Instr) : (s.takeHanded c).timetable = s.timetable := rfl
@[simp] theorem timetable_raiseMinute (m : Nat) (d : Option Nat) : (s.raiseMinute m d).timetable = s.timetable := rfl
@[simp] theorem timetable_beginTransfer : s.beginTransfer.timetable = s.timetable := rfl
@[simp] theorem timetable_giveBack (k : BlockKind) (b : Nat) : (s.giveBack k b).timetable = s.timetable := rfl

@[simp] theorem timetable_giveBackOpt (k : BlockKind) (b : Option Nat) : (s.giveBackOpt k b).timetable = s.timetable := by
  rw [giveBackOpt_keeps]
  rfl

@[simp] theorem timetable_giveBackBooking (b : Booking) : (s.giveBackBooking b).timetable = s.timetable := by
  simp [State.giveBackBooking]

theorem timetable_allocate {s t : State} {c : AllocClass} {ks : List BlockKind} {bs : List Nat}
    (h : s.allocate c ks = some (t, bs)) : t.timetable = s.timetable := by
  obtain ⟨-, -, -, hkeeps⟩ := allocate_some h
  rw [hkeeps]
  rfl

@[simp] theorem timetable_modRef (l : Option Nat) (f : Nat → Nat) : (s.modRef l f).timetable = s.timetable := by
  cases l <;> rfl

@[simp] theorem timetable_markBooking (i : Nat) : (s.markBooking i).timetable = s.timetable :=
  timetable_modBooking s (f := fun b => { b with mark := true }) (fun _ => rfl) i

@[simp] theorem timetable_markSeries (i : Nat) : (s.markSeries i).timetable = s.timetable :=
  timetable_modSeries s (f := fun x => { x with mark := true }) (fun _ => rfl) i

@[simp] theorem timetable_markPanel (p : Nat) : (s.markPanel p).timetable = s.timetable := rfl

@[simp] theorem timetable_answer (ref : HostRef) (st : Status) (body : List Field) :
    (s.answer ref st body).timetable = s.timetable := by
  rw [answer_keeps]
  rfl

@[simp] theorem timetable_relist (before : State) : (s.relist before).timetable = s.timetable := by
  rw [relist_keeps]
  rfl

theorem timetable_takeRequest {t : State} {tag : Byte} {kind : Nat} {cmd : Instr} {ref : HostRef}
    (h : s.takeRequest tag kind cmd = some (t, ref)) : t.timetable = s.timetable := by
  rw [(takeRequest_keeps h).1]
  rfl

/-! ### Orders -/

@[simp] theorem timetable_modLoad (k : Nat) (w : AbsWindow) (f : Nat → Nat) : (s.modLoad k w f).timetable = s.timetable := by
  unfold State.modLoad
  split
  · split <;> rfl
  · rfl

@[simp] theorem timetable_joinDispatch (h : Handle) (k m : Nat) : (s.joinDispatch h k m).timetable = s.timetable := rfl
@[simp] theorem timetable_leaveDispatch (h : Handle) : (s.leaveDispatch h).timetable = s.timetable := rfl
@[simp] theorem timetable_joinCommit (h : Handle) (m : Nat) : (s.joinCommit h m).timetable = s.timetable := rfl
@[simp] theorem timetable_leaveCommit (h : Handle) : (s.leaveCommit h).timetable = s.timetable := rfl
@[simp] theorem timetable_joinRequests (h : Handle) (m : Nat) : (s.joinRequests h m).timetable = s.timetable := rfl
@[simp] theorem timetable_leaveRequests (h : Handle) : (s.leaveRequests h).timetable = s.timetable := rfl

@[simp] theorem timetable_unplan (h : Handle) : (s.unplan h).timetable = s.timetable := by
  rw [unplan_keeps]
  rfl

@[simp] theorem timetable_setUncounted (h : Handle) (st : OrderState) (c : Option Nat) :
    (s.setUncounted h st c).timetable = s.timetable := by simp [State.setUncounted]

@[simp] theorem timetable_voidOrder (h : Handle) : (s.voidOrder h).timetable = s.timetable := timetable_setUncounted s h _ _

@[simp] theorem timetable_setOrderState (i : Nat) (st : OrderState) : (s.setOrderState i st).timetable = s.timetable := by
  simp [State.setOrderState]

@[simp] theorem timetable_writeContents (i : Nat) (f : OrderForm) : (s.writeContents i f).timetable = s.timetable := by
  simp [State.writeContents]

@[simp] theorem timetable_writeOrder (i n : Nat) (f : OrderForm) : (s.writeOrder i n f).timetable = s.timetable :=
  timetable_modBooking s (f := fun b => { b with order := some (newOrder n f) }) (fun _ => rfl) i

@[simp] theorem timetable_count (h : Handle) (n : Nat) (a : Accept) : (s.count h n a).timetable = s.timetable := by
  simp [State.count]

@[simp] theorem timetable_makeRequested (b : Booking) : (s.makeRequested b).timetable = s.timetable := by
  simp [State.makeRequested]

@[simp] theorem timetable_cateringFailure (i : Nat) : (s.cateringFailure i).timetable = s.timetable :=
  timetable_markBooking s i

@[simp] theorem timetable_makeUnplaced (now : Nat) (b : Booking) : (s.makeUnplaced now b).timetable = s.timetable := by
  simp [State.makeUnplaced]

theorem timetable_planHost {s t : State} {now : Nat} {b : Booking} {n : Nat} {tight : Bool}
    (h : s.planHost now b n = .ok (t, tight)) : t.timetable = s.timetable := by
  unfold State.planHost at h
  split at h
  · cases h
  · split at h
    · cases h; simp
    · split at h
      · cases h; simp
      · cases h

@[simp] theorem timetable_planPart (now : Nat) (b : Booking) (n : Nat) : (s.planPart now b n).timetable = s.timetable := by
  unfold State.planPart
  split
  · rename_i h
    exact timetable_planHost h
  · simp

@[simp] theorem timetable_strand (i : Nat) (p : Bool) : (s.strand i p).timetable = s.timetable := by
  unfold State.strand
  dsimp only
  split <;> simp

@[simp] theorem timetable_exitOrder (h : Handle) (k : ExitKind) : (s.exitOrder h k).timetable = s.timetable := by
  rcases exitOrder_cases s h k with hk | hk | ⟨p, hk⟩ <;> simp [hk]

@[simp] theorem timetable_commitHead (h : Handle) : (s.commitHead h).timetable = s.timetable := by
  unfold State.commitHead
  split <;> simp

@[simp] theorem timetable_commits (m : Nat) : (s.commits m).timetable = s.timetable := by
  have hdue (n : Nat) : ∀ s : State, (s.commitDue m n).timetable = s.timetable := by
    induction n with
    | zero => exact fun _ => rfl
    | succ n ih =>
      intro s
      unfold State.commitDue
      split
      · rfl
      · split
        · rw [ih, timetable_commitHead]
        · rfl
  exact hdue _ s

@[simp] theorem timetable_relocateOrder (now : Nat) (b : Booking) : (s.relocateOrder now b).timetable = s.timetable := by
  unfold State.relocateOrder
  split
  · split <;> simp
  · rfl

theorem timetable_amendOrder {s t : State} {now : Nat} {b new : Booking} {drop tight : Bool}
    (h : s.amendOrder now b new drop = .ok (t, tight)) : t.timetable = s.timetable := by
  unfold State.amendOrder at h
  split at h
  · cases h; rfl
  · split at h
    case h_1 | h_2 | h_3 | h_4 => cases h; rfl
    case h_5 | h_6 =>
      split at h
      · cases h; simp
      · cases h
    all_goals
      split at h
      · cases h
      · split at h
        · rename_i hp
          cases h
          rw [timetable_planHost hp, timetable_setUncounted]
        · split at h
          · cases h; simp
          · cases h

/-! ### Channels and series -/

@[simp] theorem timetable_freeChannel (c : Nat) : (s.freeChannel c).timetable = s.timetable := rfl

@[simp] theorem timetable_dropChannel (b : Booking) (c : Nat) : (s.dropChannel b c).timetable = s.timetable := by
  simp [State.dropChannel]

@[simp] theorem timetable_returnChannel (i : Nat) : (s.returnChannel i).timetable = s.timetable := by
  unfold State.returnChannel
  split
  · rfl
  · split
    · rfl
    · dsimp only
      split <;> simp

@[simp] theorem timetable_seriesRelease (id : Nat) : (s.seriesRelease id).timetable = s.timetable := by
  unfold State.seriesRelease
  split
  · rfl
  · rename_i x hx
    dsimp only
    split
    · rename_i hactive
      refine (timetable_withSeries _ rfl).trans ((timetable_markSeries _ id).trans (timetable_modSeries_of_line s fun y hy => ?_))
      obtain rfl := Option.some.inj (hx.symm.trans hy)
      simp [Series.line, hactive.1]
    · simp

@[simp] theorem timetable_seriesCheckIn (l : Option Nat) : (s.seriesCheckIn l).timetable = s.timetable := by
  cases l with
  | none => rfl
  | some id => simp [State.seriesCheckIn]

@[simp] theorem timetable_exitSeries (l : Option Nat) (k : ExitKind) : (s.exitSeries l k).timetable = s.timetable := by
  unfold State.exitSeries
  split
  · split <;> simp
  · rfl

@[simp] theorem timetable_checkInChannel (b : Booking) : (s.checkInChannel b).timetable = s.timetable := by
  unfold State.checkInChannel
  split
  · rfl
  · dsimp only
    split <;> simp

@[simp] theorem timetable_shortenWindow (b : Booking) (m : Nat) : (s.shortenWindow b m).timetable = s.timetable := by
  rw [(shortenWindow_channels s b m).1]
  rfl

@[simp] theorem timetable_countDown (n : Nat) : (s.countDown n).timetable = s.timetable := rfl
@[simp] theorem timetable_trimBack (n : Nat) : (s.trimBack n).timetable = s.timetable := rfl

@[simp] theorem timetable_skipOccurrence (id : Nat) : (s.skipOccurrence id).timetable = s.timetable := by
  simp [State.skipOccurrence]

/-! ### The clock -/

@[simp] theorem timetable_nextMinute : s.nextMinute.timetable = s.timetable := by
  rw [nextMinute_keeps]
  rfl

@[simp] theorem timetable_countSecond : s.countSecond.timetable = s.timetable := by
  unfold State.countSecond
  dsimp only
  split
  · rfl
  · exact timetable_nextMinute _

@[simp] theorem timetable_holdover : s.holdover.timetable = s.timetable := by
  simp only [State.holdover, timetable_raiseClock, timetable_countSecond]
  rfl

@[simp] theorem timetable_startClock : s.startClock.timetable = s.timetable := by
  unfold State.startClock
  dsimp only
  split <;> rfl

end Sys2Proof.Machine
end

section
/-! SUPPORT. The operations of the panel buses, the day walks, the notices, the transfers and the resets leave the timetable. -/

namespace Sys2Proof.Machine

variable (s : State)

/-! ### The panel buses -/

@[simp] theorem timetable_rebuildView (p : Nat) : (s.rebuildView p).timetable = s.timetable := by
  unfold State.rebuildView
  split <;> simp

@[simp] theorem timetable_buildList (k p : Nat) : (s.buildList k p).timetable = s.timetable := timetable_modPanel s p _

@[simp] theorem timetable_bindPanel (p : Nat) (k : PanelKind) (t : Nat) : (s.bindPanel p k t).timetable = s.timetable := by
  cases k <;> simp [State.bindPanel]

@[simp] theorem timetable_emptySlot (p : Nat) : (s.emptySlot p).timetable = s.timetable := by
  unfold State.emptySlot
  split <;> simp

@[simp] theorem timetable_endTransaction (p : Nat) : (s.endTransaction p).timetable = s.timetable := timetable_modPort s p _

@[simp] theorem timetable_decideFollowUp (port p : Nat) : (s.decideFollowUp port p).timetable = s.timetable := by
  unfold State.decideFollowUp
  dsimp only
  split <;> simp

@[simp] theorem timetable_served (p : Nat) : (s.served p).timetable = s.timetable := by
  unfold State.served
  dsimp only
  split
  · split <;> simp
  · rfl

@[simp] theorem timetable_answerPanel (p code : Nat) (a : PanelAnswer) : (s.answerPanel p code a).timetable = s.timetable := by
  simp [State.answerPanel]

@[simp] theorem timetable_reportUnavailable (p : Nat) : (s.reportUnavailable p).timetable = s.timetable := by
  unfold State.reportUnavailable
  split <;> simp

@[simp] theorem timetable_reportAvailable (p : Nat) : (s.reportAvailable p).timetable = s.timetable := by
  unfold State.reportAvailable
  split <;> simp

@[simp] theorem timetable_releaseBinding (p : Nat) : (s.releaseBinding p).timetable = s.timetable := by
  unfold State.releaseBinding
  split <;> simp

@[simp] theorem timetable_makeUnbound (p : Nat) : (s.makeUnbound p).timetable = s.timetable := by simp [State.makeUnbound]

@[simp] theorem timetable_makeBarred (p : Nat) : (s.makeBarred p).timetable = s.timetable := by
  unfold State.makeBarred
  dsimp only
  split <;> simp

@[simp] theorem timetable_makeHold (p : Nat) (k : HoldKind) : (s.makeHold p k).timetable = s.timetable := by
  cases k <;> simp [State.makeHold]

@[simp] theorem timetable_holdPanel (p : Nat) (k : HoldKind) (ref : HostRef) : (s.holdPanel p k ref).timetable = s.timetable :=
  timetable_modPanel s p _

@[simp] theorem timetable_takeBattery (p n : Nat) : (s.takeBattery p n).timetable = s.timetable := by
  unfold State.takeBattery
  dsimp only
  split
  · simp
  · split <;> simp

@[simp] theorem timetable_makeOnline (p : Nat) : (s.makeOnline p).timetable = s.timetable := by
  unfold State.makeOnline
  dsimp only
  split <;> simp

@[simp] theorem timetable_handReading (p : Nat) (r : PanelReply) : (s.handReading p r).timetable = s.timetable := by
  unfold State.handReading
  split
  · split
    · simp
    · split <;> simp
  · rfl

@[simp] theorem timetable_takeReport (port p : Nat) (r : PanelReply) : (s.takeReport port p r).timetable = s.timetable := by
  unfold State.takeReport
  dsimp only
  split <;> simp

@[simp] theorem timetable_takePanelRequest (p : Nat) (r : PanelReply) : (s.takePanelRequest p r).1.timetable = s.timetable := by
  unfold State.takePanelRequest
  dsimp only
  split
  · rfl
  · split <;> simp

@[simp] theorem timetable_miss (p : Nat) : (s.miss p).timetable = s.timetable := by
  unfold State.miss
  dsimp only
  split
  · split <;> simp
  · simp
  · split <;> simp
  all_goals simp

/-! ### Walks and passes -/

@[simp] theorem timetable_beginPass : s.beginPass.timetable = s.timetable := by
  unfold State.beginPass
  split <;> rfl

@[simp] theorem timetable_retirementDay (d : Nat) : (s.retirementDay d).timetable = s.timetable := by
  unfold State.retirementDay
  split <;> rfl

@[simp] theorem timetable_materialisationDay (d : Nat) : (s.materialisationDay d).timetable = s.timetable := by
  unfold State.materialisationDay
  split <;> rfl

@[simp] theorem timetable_beginPlanning (d : Nat) : (s.beginPlanning d).timetable = s.timetable := by
  unfold State.beginPlanning
  dsimp only
  split <;> rfl

@[simp] theorem timetable_planningDay (d : Nat) : (s.planningDay d).timetable = s.timetable := by
  unfold State.planningDay
  split
  · rfl
  · exact timetable_beginPlanning s d

@[simp] theorem timetable_catchUpDone : s.catchUpDone.timetable = s.timetable :=
  foldl_keeps State.timetable (fun t (h : HeldMinute) => timetable_raiseMinute t h.minute h.day) _ _

@[simp] theorem timetable_afterDayWalk : s.afterDayWalk.timetable = s.timetable := by
  unfold State.afterDayWalk
  split
  · rfl
  · split
    · rfl
    · dsimp only
      split
      · simp
      · rfl

@[simp] theorem timetable_endRetirement (d : Nat) : (s.endRetirement d).timetable = s.timetable := by
  unfold State.endRetirement
  dsimp only
  split
  · rfl
  · exact timetable_afterDayWalk _

@[simp] theorem timetable_endMaterialisation (d : Nat) : (s.endMaterialisation d).timetable = s.timetable := by
  unfold State.endMaterialisation
  dsimp only
  split
  · rfl
  · exact timetable_afterDayWalk _

@[simp] theorem timetable_endPlanning (d : Nat) : (s.endPlanning d).timetable = s.timetable := by
  unfold State.endPlanning
  dsimp only
  split
  · exact timetable_beginPlanning _ _
  · exact timetable_afterDayWalk _

@[simp] theorem timetable_beginTask (k : DayTask) : (s.beginTask k).timetable = s.timetable := by
  unfold State.beginTask
  split
  · dsimp only
    split <;> rfl
  · dsimp only
    split <;> rfl
  · dsimp only
    split <;> exact timetable_beginPlanning s k.day

@[simp] theorem timetable_planHead (b : Booking) : (s.planHead b).timetable = s.timetable := by
  unfold State.planHead
  split <;> simp

/-! ### Requests on orders, notices and counts -/

@[simp] theorem timetable_orderBlock {s t : State} {b : Booking} {n : Nat} (h : s.orderBlock b = some (t, n)) :
    t.timetable = s.timetable := by
  unfold State.orderBlock at h
  split at h
  · cases h; rfl
  · obtain ⟨⟨u, bs⟩, ha, hu⟩ := Option.map_eq_some_iff.mp h
    cases hu
    exact timetable_allocate ha

@[simp] theorem timetable_order (h : Handle) (f : OrderForm) : (s.order h f).state.timetable = s.timetable := by
  have hplace (b : Booking) : (s.placeOrder b f).state.timetable = s.timetable := by
    unfold State.placeOrder
    split
    · rfl
    · rename_i hblock
      split
      · rfl
      · rename_i hplan
        exact (timetable_planHost hplan).trans ((timetable_writeOrder ..).trans (timetable_orderBlock hblock))
  unfold State.order
  split
  · rfl
  split
  · rfl
  split
  · rfl
  split
  case h_8 =>
    split
    · rfl
    · exact hplace _
  all_goals rfl

@[simp] theorem timetable_changeOrder (h : Handle) (f : OrderForm) : (s.changeOrder h f).state.timetable = s.timetable := by
  have hreplan (b : Booking) : (s.replan b f).state.timetable = s.timetable := by
    unfold State.replan
    split
    · rfl
    · dsimp only
      split
      · rfl
      · rename_i hp
        simp [timetable_planHost hp]
  unfold State.changeOrder
  repeat' split
  all_goals simp [refuse, hreplan]

@[simp] theorem timetable_nextBooking : s.nextBooking.state.timetable = s.timetable := by
  unfold State.nextBooking
  split
  · exact timetable_modBooking s (f := fun b => { b with mark := false }) (fun _ => rfl) _
  · rfl

@[simp] theorem timetable_nextSeries : s.nextSeries.state.timetable = s.timetable := by
  unfold State.nextSeries
  split
  · exact timetable_modSeries s (f := fun x => { x with mark := false }) (fun _ => rfl) _
  · rfl

@[simp] theorem timetable_nextPanel : s.nextPanel.state.timetable = s.timetable := by
  unfold State.nextPanel
  split <;> rfl

@[simp] theorem timetable_clearCounts : s.clearCounts.timetable = s.timetable := by
  refine timetable_eq s (fun _ => rfl) (fun r => ?_) (fun _ => rfl) rfl rfl
  simp only [State.room, State.clearCounts, List.getD_eq_getElem?_getD, List.getElem?_map]
  cases s.rooms[r]? <;> rfl

/-! ### Transfers -/

@[simp] theorem timetable_deliver (bytes : List Byte) : (s.deliver bytes).timetable = s.timetable := by
  unfold State.deliver
  split
  · split <;> rfl
  · rfl

/-- Dropping the host's requests leaves whom a sweep's search is made for (R172). -/
@[simp] theorem timetable_dropRequests : s.dropRequests.timetable = s.timetable := by
  have hline (e : QueueEntry) : QueueEntry.line { e with client := e.client.drop } = e.line := by
    cases hc : e.client <;> simp [QueueEntry.line, Client.drop, Client.self, hc]
  simp only [State.timetable, State.dropRequests, List.map_map, Function.comp_def, hline]
  rfl

@[simp] theorem timetable_takeFrame (f : Frame) (rest : List Frame) : (s.takeFrame f rest).timetable = s.timetable := by
  unfold State.takeFrame
  dsimp only
  split
  · rfl
  · exact timetable_answer _ _ _ _

/-! ### The warm reset -/

@[simp] theorem timetable_rebuildPanel (p : Nat) : (s.rebuildPanel p).timetable = s.timetable := by
  unfold State.rebuildPanel
  split <;> simp

@[simp] theorem timetable_makeHolds : s.makeHolds.timetable = s.timetable :=
  overAll_keeps State.timetable (fun p t => by split <;> simp) s

@[simp] theorem timetable_dropTimers : s.dropTimers.timetable = s.timetable := by
  refine timetable_eq s (fun i => ?_) (fun _ => rfl) (fun _ => rfl) rfl rfl
  simp only [State.bookingAt, State.dropTimers, List.getD_eq_getElem?_getD, List.getElem?_map]
  cases s.dir.entries[i]? with
  | none => rfl
  | some e => cases h : e.booking <;> simp [h]

@[simp] theorem timetable_warmPanels : s.warmPanels.timetable = s.timetable :=
  overAll_keeps State.timetable (fun p t => timetable_rebuildPanel t p) _

end Sys2Proof.Machine
end

section
/-! SUPPORT. Bookings that begin or end their use, and closures that go, leave the timetable right. -/

namespace Sys2Proof.Machine

variable {s t u : State} {i c m r now : Nat} {b x : Booking} {h : Handle} {k : ExitKind}

/-! ### What stays right -/

/-- The timetable stays right from the one state to the other. -/
def StaysRight (s t : State) : Prop := s.timetable.Right → t.timetable.Right

theorem StaysRight.refl (s : State) : StaysRight s s := id

theorem StaysRight.trans (h : StaysRight s t) (h' : StaysRight t u) : StaysRight s u := h' ∘ h

theorem StaysRight.of_timetable (h : t.timetable = s.timetable) : StaysRight s t := fun hs => by rwa [h]

theorem StaysRight.timetable (h : StaysRight s t) (hu : u.timetable = t.timetable) : StaysRight s u :=
  h.trans (.of_timetable hu)

theorem staysRight_overAll {n : Nat} {f : Nat → State → State} (h : ∀ i t, StaysRight t (f i t)) (s : State) :
    StaysRight s (overAll n f s) := fun hs => overAll_invariant (P := fun t => t.timetable.Right) h hs

theorem staysRight_foldl {β : Type} {f : State → β → State} (h : ∀ t x, StaysRight t (f t x)) (l : List β) (s : State) :
    StaysRight s (l.foldl f s) := fun hs => foldl_invariant (P := fun t => t.timetable.Right) h l hs

/-! ### One booking or one timeline -/

theorem slot_of_bookingAt (hb : s.bookingAt i = some b) : s.timetable.slot i = some b.place := slot_eq_some.mpr ⟨b, hb, rfl⟩

theorem idx_of_right (hs : s.timetable.Right) (hb : s.bookingAt i = some b) : b.handle.idx = i :=
  hs.idx i _ (slot_of_bookingAt hb)

theorem timetable_writeBooking (hb : s.bookingAt i = some b) (f : Booking → Booking) :
    (s.modBooking i f).timetable = s.timetable.withSlot i (some (f b).place) := by
  simp only [State.timetable, Timetable.withSlot, Timetable.mk.injEq]
  refine ⟨funext fun j => ?_, rfl, rfl, rfl, rfl, rfl, rfl, rfl, rfl⟩
  rw [State.bookingAt_modBooking]
  by_cases hj : j = i
  · rw [if_pos hj.symm, if_pos hj, hj, hb]
    rfl
  · rw [if_neg (Ne.symm hj), if_neg hj]

/-- A change of the booking that an entry holds, which its timeline does not see. -/
theorem timetable_modBooking_of_place (hb : s.bookingAt i = some b) {f : Booking → Booking} (hf : (f b).place = b.place) :
    (s.modBooking i f).timetable = s.timetable := by
  rw [timetable_writeBooking hb, hf]
  exact Timetable.withSlot_same (slot_of_bookingAt hb)

/-- A room's record is written, when the index has one. -/
theorem timetable_writeRoom (s : State) (r : Nat) (f : Room → Room) :
    (s.modRoom r f).timetable = if r < s.rooms.length then s.timetable.withRoom r (f (s.room r)).line else s.timetable := by
  have hroom (q : Nat) : (s.modRoom r f).room q = if r = q ∧ q < s.rooms.length then f (s.room q) else s.room q := getD_modify ..
  by_cases hr : r < s.rooms.length
  · rw [if_pos hr]
    simp only [State.timetable, Timetable.withRoom, Timetable.mk.injEq]
    refine ⟨rfl, funext fun q => ?_, rfl, rfl, rfl, rfl, rfl, rfl, rfl⟩
    rw [hroom]
    by_cases hq : q = r
    · subst hq
      rw [if_pos ⟨rfl, hr⟩, if_pos rfl]
    · rw [if_neg (by rintro ⟨rfl, -⟩; exact hq rfl), if_neg hq]
  · rw [if_neg hr]
    refine timetable_eq s (fun _ => rfl) (fun q => ?_) (fun _ => rfl) rfl rfl
    rw [hroom, if_neg (by rintro ⟨rfl, hq⟩; exact hr hq)]

theorem timeline_of_no_room (hr : ¬ r < s.rooms.length) : s.room r = .absent := by
  simp only [State.room, List.getD_eq_getElem?_getD, List.getElem?_eq_none (Nat.not_lt.mp hr), Option.getD_none]

theorem timetable_takeOff (s : State) (r : Nat) (h : Handle) :
    (s.takeOffTimeline r h).timetable = s.timetable.withTimeline r ((s.timetable.room r).timeline.filter (· ≠ h)) := by
  refine (timetable_writeRoom s r fun x => { x with timeline := x.timeline.filter (· ≠ h) }).trans ?_
  split
  · rfl
  · rename_i hr
    simp only [Timetable.withTimeline]
    have hsame : (fun q => if q = r then { s.timetable.room r with
        timeline := (s.timetable.room r).timeline.filter (· ≠ h) } else s.timetable.room q) = s.timetable.room := by
      funext q
      by_cases hq : q = r
      · have habsent : s.timetable.room r = Room.absent.line := congrArg Room.line (timeline_of_no_room hr)
        rw [if_pos hq, hq, habsent]
        rfl
      · exact if_neg hq
    rw [hsame]

theorem startOf_eq (s : State) : s.startOf = s.timetable.startOf := by
  funext h
  simp only [State.startOf, Timetable.startOf, State.timetable]
  cases s.bookingAt h.idx <;> rfl

theorem timetable_putOn (hr : b.room < s.rooms.length) : (s.putOnTimeline b).timetable = s.timetable.withTimeline b.room
    (insertByStart s.timetable.startOf b.handle b.startMin (s.timetable.room b.room).timeline) := by
  rw [← startOf_eq]
  refine (timetable_writeRoom s b.room fun x =>
    { x with timeline := insertByStart s.startOf b.handle b.startMin x.timeline }).trans ?_
  rw [if_pos hr]
  rfl

/-! ### Leaving the active states -/

theorem timetable_leaveActive (hb : s.bookingAt i = some b) : (s.leaveActive i k).timetable =
    s.timetable.withTimeline b.room ((s.timetable.room b.room).timeline.filter (· ≠ b.handle)) := by
  rw [leaveActive_eq hb, timetable_exitSeries, timetable_exitOrder, timetable_returnChannel, timetable_takeOff]

/-- A booking whose new state stands on no timeline leaves its own (R36). -/
theorem staysRight_leave (hb : s.bookingAt i = some b) (hu : u.bookingAt i = some x)
    (ht : u.timetable = s.timetable.withSlot i (some x.place)) (hh : x.handle = b.handle) (hr : x.room = b.room)
    (ha : x.state.active = false)
    (hd : x.state = .displaced → b.state.active = true ∧ x.startMin = b.startMin ∧ x.endMin = b.endMin) :
    StaysRight s (u.leaveActive i k) := by
  intro hs
  have hidx := idx_of_right hs hb
  have hplace := slot_of_bookingAt hb
  have heq : (u.leaveActive i k).timetable = (s.timetable.vacate b.place).withSlot x.handle.idx (some x.place) := by
    rw [timetable_leaveActive hu, ht, hh, hr, hidx, Timetable.vacate, hidx, Timetable.withSlot_withSlot]
    rfl
  rw [heq]
  refine Timetable.Right.record (x := x.place) (hs.vacate (hidx ▸ hplace)) ?_ ((footing_active _).trans ha) fun haway => ?_
  · rw [show x.place.handle = b.place.handle from hh]
    exact Timetable.slot_vacate_same ..
  · obtain ⟨hba, hstart, hend⟩ := hd (by cases hst : x.state <;> simp_all [BookingState.footing])
    have hspan := hs.spans i b.place hplace (footing_ne_past.mpr (.inl hba))
    change x.startMin < x.endMin
    rw [hstart, hend]
    exact hspan

theorem staysRight_endBooking (i : Nat) (f : Attendance → Attendance) : StaysRight s (s.endBooking i f) := by
  cases hb : s.bookingAt i with
  | none =>
    refine .of_timetable ?_
    have hnone (g : Booking → Booking) : (s.modBooking i g).bookingAt i = none := by
      rw [State.bookingAt_modBooking_same, hb]; rfl
    rw [State.endBooking, State.leaveActive, hnone]
    exact timetable_eq s (fun j => by
      by_cases hj : i = j
      · rw [← hj, hnone, hb]
      · rw [State.bookingAt_modBooking_other hj]) (fun _ => rfl) (fun _ => rfl) rfl rfl
  | some b =>
    exact staysRight_leave hb (by rw [State.bookingAt_modBooking_same, hb]; rfl) (timetable_writeBooking hb _) rfl rfl rfl
      fun h => nomatch h

/-- The change, the mark and the four steps of R36. -/
theorem staysRight_markedLeave (hb : s.bookingAt i = some b) {f : Booking → Booking} (hh : (f b).handle = b.handle)
    (hr : (f b).room = b.room) (ha : (f b).state.active = false)
    (hd : (f b).state = .displaced → b.state.active = true ∧ (f b).startMin = b.startMin ∧ (f b).endMin = b.endMin) :
    StaysRight s (((s.modBooking i f).markBooking i).leaveActive i k) :=
  staysRight_leave (x := { f b with mark := true }) hb
    (by
      change ((s.modBooking i f).modBooking i fun b => { b with mark := true }).bookingAt i = _
      rw [State.bookingAt_modBooking_same, State.bookingAt_modBooking_same, hb]; rfl)
    ((timetable_markBooking _ i).trans (timetable_writeBooking hb f)) hh hr ha hd

theorem staysRight_release (hb : s.bookingAt i = some b) : StaysRight s (s.release i) :=
  staysRight_markedLeave hb rfl rfl rfl fun h => nomatch h

theorem staysRight_endEarly (hb : s.bookingAt i = some b) (now : Nat) : StaysRight s (s.endEarly i now) :=
  staysRight_markedLeave hb rfl rfl rfl fun h => nomatch h

theorem staysRight_cancelOccurrence (hb : s.bookingAt i = some b) : StaysRight s (s.cancelOccurrence i) :=
  staysRight_markedLeave hb rfl rfl rfl fun h => nomatch h

theorem staysRight_displace (hb : s.bookingAt i = some b) (ha : b.state.active = true) : StaysRight s (s.displace i) :=
  staysRight_markedLeave hb rfl rfl rfl fun _ => ⟨ha, rfl, rfl⟩

/-! ### Beginning the use -/

/-- An active booking becomes IN_USE. -/
theorem staysRight_engage (hb : s.bookingAt i = some b) {f : Booking → Booking} (ha : b.state.active = true)
    (hf : (f b).place = { b.place with footing := .held }) : StaysRight s (s.modBooking i f) := by
  intro hs
  have hidx := idx_of_right hs hb
  rw [timetable_writeBooking hb, hf, ← hidx]
  exact Timetable.Right.engage (x := b.place) hs (hidx ▸ slot_of_bookingAt hb) ((footing_active _).trans ha)

theorem staysRight_startExempt (hb : s.bookingAt b.handle.idx = some b) (ha : b.state.active = true) :
    StaysRight s (s.startExempt b) := by
  unfold State.startExempt
  split
  · exact (staysRight_engage hb ha rfl).timetable (timetable_reportRoom _ _)
  · exact .of_timetable (timetable_modBooking_of_place hb rfl)

theorem staysRight_openWindow (i : Nat) : StaysRight s (s.openWindow i) := by
  intro hs
  cases hb : s.bookingAt i with
  | none => simpa only [State.openWindow, hb] using hs
  | some b =>
    have hidx := idx_of_right hs hb
    subst hidx
    simp only [State.openWindow, hb]
    split
    · exact hs
    · rename_i hbooked
      have hstate : b.state = .booked := not_not.mp hbooked
      split
      · refine StaysRight.of_timetable ?_ hs
        exact (timetable_reportRoom _ _).trans (timetable_modBooking_of_place (s := s.modChannel _ _) hb (by simp [Booking.place, hstate, BookingState.footing]))
      · exact staysRight_startExempt (s := { s with bank := { s.bank with timerCount := saturate s.bank.timerCount } }) hb
          (by rw [hstate]; rfl) hs

theorem staysRight_handleStart (now i : Nat) : StaysRight s (s.handleStart now i) := by
  cases hb : s.bookingAt i with
  | none => exact .of_timetable (by simp only [State.handleStart, hb])
  | some b =>
    simp only [State.handleStart, hb]
    split
    · exact .refl s
    · rename_i hbooked
      have hstate : b.state = .booked := not_not.mp hbooked
      split
      · split
        · exact staysRight_openWindow i
        · exact .refl s
      · split
        · exact (staysRight_engage hb (by rw [hstate]; rfl) rfl).timetable (timetable_reportRoom _ _)
        · exact .refl s

theorem staysRight_checkInBooking (hb : s.bookingAt b.handle.idx = some b) (hs : b.state = .awaiting) :
    StaysRight s (s.checkInBooking b) :=
  (staysRight_engage hb (by rw [hs]; rfl) rfl).timetable (by
    rw [State.checkInBooking, timetable_checkInChannel, timetable_seriesCheckIn, timetable_reportRoom])

/-! ### Minutes -/

theorem staysRight_startOne (m : Nat) (h : Handle) : StaysRight s (s.startOne m h) := by
  rcases startOne_cases s m h with ⟨heq, -⟩ | ⟨b, f, r, hb, hstate, -, heq, hf⟩
  · rw [heq]
    exact .refl s
  · obtain ⟨hf1, hf2, hf3, hf4, hf5, -⟩ := hf b
    rw [heq]
    refine (staysRight_engage hb (by rw [hstate]; rfl) ?_).timetable (timetable_reportRoom _ _)
    simp only [Booking.place, hf1, hf2, hf3, hf4, hf5]
    rfl

theorem staysRight_endOne (m : Nat) (h : Handle) : StaysRight s (s.endOne m h) := by
  unfold State.endOne
  split
  · exact .refl s
  · rename_i b hb
    split
    · split
      · exact staysRight_endBooking _ _
      · split
        · exact staysRight_release hb
        · exact staysRight_endBooking _ _
      · exact .refl s
    · exact .refl s

theorem staysRight_startsAndEnds (m : Nat) : StaysRight s (s.startsAndEnds m) :=
  staysRight_overAll (fun _ _ => (staysRight_foldl (fun _ h => staysRight_startOne m h) _ _).trans
    (staysRight_foldl (fun _ h => staysRight_endOne m h) _ _)) s

theorem staysRight_windowOpenings (m : Nat) : StaysRight s (s.windowOpenings m) := by
  refine fun hs => windowOpenings_invariant (P := fun t => t.timetable.Right) (fun r h t ht => ?_) hs
  unfold State.openDue
  split
  · exact ht
  · split
    · exact staysRight_openWindow _ ht
    · exact ht

/-! ### Expiries -/

theorem bookingAt_of_found (hs : s.timetable.Right) (hf : s.find h = some b) : s.bookingAt b.handle.idx = some b := by
  obtain ⟨hb, -⟩ := bookingAt_of_find hf
  rw [idx_of_right hs hb]
  exact hb

theorem staysRight_expireWindow (c : Nat) : StaysRight s (s.expireWindow c) := by
  unfold State.expireWindow
  split
  · rename_i b hb
    obtain ⟨h, -, hf⟩ := Option.bind_eq_some_iff.mp hb
    split
    · exact fun hs => staysRight_release (bookingAt_of_found hs hf) hs
    · exact .of_timetable (timetable_dropChannel ..)
  · exact .refl s

theorem staysRight_expireWatch (c : Nat) : StaysRight s (s.expireWatch c) := by
  unfold State.expireWatch
  split
  · rename_i b hb
    obtain ⟨h, -, hf⟩ := Option.bind_eq_some_iff.mp hb
    split
    · exact fun hs => staysRight_endEarly (bookingAt_of_found hs hf) _ hs
    · exact .of_timetable (timetable_dropChannel ..)
  · exact .refl s

theorem staysRight_expireIfDue (c : Nat) : StaysRight s (s.expireIfDue c) := by
  unfold State.expireIfDue
  split
  · split
    · exact staysRight_expireWindow c
    · exact staysRight_expireWatch c
  · exact .refl s

theorem staysRight_expireAll : StaysRight s s.expireAll := staysRight_overAll (fun c _ => staysRight_expireIfDue c) s

theorem staysRight_bankSecond : StaysRight s s.bankSecond :=
  StaysRight.trans (.of_timetable (timetable_countDown s 1)) staysRight_expireAll

theorem staysRight_takeSecond : StaysRight s s.takeSecond :=
  StaysRight.trans (t := { s with owed := { s.owed with seconds := s.owed.seconds - 1 } }) (.of_timetable rfl)
    staysRight_bankSecond

/-! ### Closure times -/

/-- A closure is written that stood before, or none, or no search of the sweep stands. -/
theorem staysRight_setService (r : Nat) (st : ServiceState) {c : Option Closure}
    (hc : s.timetable.SweepFree ∨ ∀ x, c = some x → (s.room r).closure = some x) : StaysRight s (s.setService r st c) := by
  intro hs
  have heq : (s.setService r st c).timetable = _ := timetable_writeRoom s r fun x => { x with service := st, closure := c }
  rw [heq]
  split
  · refine hs.withRoom rfl (hs.apart r) (hs.rooms r) (fun id p hp hlive hpr => ?_) fun ⟨e, he, hsw⟩ x hx => ?_
    · exact hpr ▸ (hs.series id p hp hlive).1
    · rcases hc with hfree | hc
      · exact absurd ((hfree e he).symm.trans hsw) Bool.false_ne_true
      · exact hc x hx
  · exact hs

theorem staysRight_closureTime (m r : Nat) : StaysRight s (s.closureTime m r) := by
  unfold State.closureTime
  dsimp only
  split
  · rename_i c _ hc
    split
    · exact .refl s
    · split
      · exact staysRight_setService r _ (.inr fun _ h => nomatch h)
      · split
        · exact staysRight_setService r _ (.inr fun _ h => hc.trans h)
        · exact .refl s
  · exact .refl s

/-- The sweep goes to another room, or rests, while it has no search. -/
theorem staysRight_withSweep {w : Sweep} (hfree : s.timetable.Right → s.timetable.SweepFree)
    (hw : w.current = none → w.report = none) : StaysRight s { s with sweep := w } :=
  fun hs => hs.withSweep (hfree hs) fun hc => by rw [hw hc]; rfl

theorem staysRight_resumeSweep : StaysRight s s.resumeSweep := by
  intro hs
  unfold State.resumeSweep
  split
  · exact hs
  · rename_i hidle
    have hfree := hs.sweepFree (.inr (.inl (Bool.eq_false_iff.mpr hidle)))
    split
    · exact hs
    · rename_i r _
      exact staysRight_withSweep (s := s.setService r .closing (s.room r).closure) (fun _ => hfree) (fun _ => rfl)
        (staysRight_setService r _ (.inl hfree) hs)

theorem staysRight_closureTimes (m : Nat) : StaysRight s (s.closureTimes m) :=
  (staysRight_overAll (fun r _ => staysRight_closureTime m r) s).trans staysRight_resumeSweep

/-! ### Trims -/

theorem staysRight_takeOwed : StaysRight s s.takeOwed := fun hs =>
  takeOwed_invariant (P := fun t => t.timetable.Right) hs (fun t before ht => by rwa [timetable_relist])
    (fun _ => staysRight_bankSecond) (fun m _ _ => staysRight_startsAndEnds m) (fun m _ _ => staysRight_windowOpenings m)
    (fun t m ht => by rwa [timetable_commits]) fun _ m => staysRight_closureTimes m

theorem staysRight_trimForward (n : Nat) : ∀ s : State, StaysRight s (State.trimForward n s) := by
  induction n with
  | zero => exact .refl
  | succ n ih =>
    intro s
    have hminute : StaysRight s s.trimMinute :=
      StaysRight.trans (.of_timetable ((timetable_countDown ..).trans (timetable_nextMinute s))) staysRight_expireAll
    exact ((hminute.timetable (timetable_relist _ s)).trans staysRight_takeOwed).trans (ih _)

theorem staysRight_trim (n : Int) : StaysRight s (s.trim n) := by
  unfold State.trim
  dsimp only
  split
  · exact (staysRight_takeOwed.trans (staysRight_trimForward _ _)).timetable (timetable_raiseClock _)
  · exact staysRight_takeOwed.timetable rfl

end Sys2Proof.Machine
end

section
/-! SUPPORT. Bookings put where the freedom test lets them (R35): made, moved or given a new end, they leave the timetable
right. -/

namespace Sys2Proof.Machine

variable {s t u : State} {i r n a e now : Nat} {b x new : Booking} {h : Handle} {self : Option Handle} {l : List Booking}
  {L : Timetable} {p q : Place} {g : Handle → Nat}

/-! ### Spans that a room has free -/

/-- A span keeps its distance from every booking of a room but one (R35). -/
def Timetable.FreeBut (L : Timetable) (h : Handle) (r a b : Nat) : Prop :=
  ∀ k ∈ (L.room r).timeline, k ≠ h → ∀ y, L.slot k.idx = some y →
    y.endMin + (L.room r).turnover ≤ a ∨ b + (L.room r).turnover ≤ y.startMin

/-- A span lies clear of a room's closure. -/
def Timetable.Clear (L : Timetable) (r a b : Nat) : Prop :=
  ∀ c, (L.room r).closure = some c → ¬ (a < c.toMin ∧ c.fromMin < b)

theorem pairwise_last {α : Type} {R : α → α → Prop} {l : List α} {y z : α} (hl : l.Pairwise R) (hz : l.getLast? = some z)
    (hy : y ∈ l) : y = z ∨ R y z := by
  rw [← List.dropLast_append_getLast? z hz] at hl hy
  rcases List.mem_append.mp hy with hy | hy
  · exact .inr ((List.pairwise_append.mp hl).2.2 y hy z (List.mem_singleton.mpr rfl))
  · exact .inl (List.mem_singleton.mp hy)

theorem pairwise_head {α : Type} {R : α → α → Prop} {l : List α} {y z : α} (hl : l.Pairwise R) (hz : l.head? = some z)
    (hy : y ∈ l) : y = z ∨ R z y := by
  cases l with
  | nil => exact nomatch hz
  | cons w l =>
    obtain rfl := Option.some.inj hz
    rcases List.mem_cons.mp hy with hy | hy
    · exact .inl hy
    · exact .inr ((List.pairwise_cons.mp hl).1 y hy)

/-- A span that passes the freedom test keeps its distance from every booking (R35). -/
theorem gaps_of_freedom (hl : l.Pairwise fun x y => x.endMin + n ≤ y.startMin) (hspan : ∀ y ∈ l, y.startMin < y.endMin)
    (hf : freedom n l a e = none) : ∀ y ∈ l, y.endMin + n ≤ a ∨ e + n ≤ y.startMin := by
  intro y hy
  have hyspan := hspan y hy
  obtain ⟨hprev, hnext⟩ := freedom_eq_none_iff.mp hf
  by_cases hya : y.startMin < a
  · have hmem : y ∈ l.filter fun x => x.startMin < a := List.mem_filter.mpr ⟨hy, decide_eq_true hya⟩
    obtain ⟨z, hz⟩ := Option.ne_none_iff_exists'.mp fun hn => List.ne_nil_of_mem hmem (List.getLast?_eq_none_iff.mp hn)
    have hzend := hprev z hz
    have hza : z.startMin < a := of_decide_eq_true (List.mem_filter.mp (List.mem_of_getLast? hz)).2
    rcases pairwise_last (hl.filter _) hz hmem with rfl | hyz
    · exact .inl hzend
    · exact .inl (by omega)
  · have hmem : y ∈ l.filter fun x => a ≤ x.startMin := List.mem_filter.mpr ⟨hy, decide_eq_true (Nat.not_lt.mp hya)⟩
    obtain ⟨z, hz⟩ := Option.ne_none_iff_exists'.mp fun hn => List.ne_nil_of_mem hmem (List.head?_eq_none_iff.mp hn)
    have hzstart := hnext z hz
    have hzspan := hspan z (List.mem_filter.mp (List.mem_of_head? hz)).1
    rcases pairwise_head (hl.filter _) hz hmem with rfl | hzy
    · exact .inr hzstart
    · exact .inr (by omega)

/-- A member of a timeline, as a booking. -/
theorem member_of_right (hs : s.timetable.Right) (hh : h ∈ (s.room r).timeline) :
    ∃ b, s.bookingAt h.idx = some b ∧ b ∈ s.timelineOf r ∧ b.handle = h ∧ b.room = r ∧ b.state.active = true ∧
      b.startMin < b.endMin := by
  obtain ⟨p, hp, hph, hpr, hpa, hspan, -⟩ := hs.member (L := s.timetable) hh
  obtain ⟨b, hb, rfl⟩ := slot_eq_some.mp hp
  exact ⟨b, hb, List.mem_filterMap.mpr ⟨h, hh, hb⟩, hph, hpr, (footing_active _).symm.trans hpa, hspan⟩

theorem mem_timelineOf (hs : s.timetable.Right) (hb : b ∈ s.timelineOf r) :
    b.handle ∈ (s.room r).timeline ∧ s.bookingAt b.handle.idx = some b ∧ b.room = r ∧ b.state.active = true ∧
      b.startMin < b.endMin := by
  obtain ⟨h, hh, hbh⟩ := List.mem_filterMap.mp hb
  obtain ⟨c, hc, -, hch, hcr, hca, hcspan⟩ := member_of_right hs hh
  obtain rfl : b = c := Option.some.inj (hbh.symm.trans hc)
  rw [hch]
  exact ⟨hh, hc, hcr, hca, hcspan⟩

theorem pairwise_of_right (hs : s.timetable.Right) (r : Nat) :
    (s.timelineOf r).Pairwise fun x y => x.endMin + (s.room r).turnover ≤ y.startMin := pairwise_timelineOf.mpr (hs.apart r)

/-- A span that no booking but the one left out blocks. -/
theorem gaps_of_blocker (hs : s.timetable.Right) (hb : s.blocker r self a e = none) (hh : h ∈ (s.room r).timeline)
    (hne : some h ≠ self) (hp : s.timetable.slot h.idx = some p) :
    p.endMin + (s.room r).turnover ≤ a ∨ e + (s.room r).turnover ≤ p.startMin := by
  obtain ⟨b, hbk, hmem, hbh, -⟩ := member_of_right hs hh
  obtain rfl : b.place = p := Option.some.inj ((slot_of_bookingAt hbk).symm.trans hp)
  refine gaps_of_freedom ((pairwise_of_right hs r).filter _) (fun y hy => ?_) hb b (List.mem_filter.mpr ⟨hmem, ?_⟩)
  · exact (mem_timelineOf hs (List.mem_filter.mp hy).1).2.2.2.2
  · rw [hbh]
    exact decide_eq_true hne

theorem freeBut_of_blocker (hs : s.timetable.Right) (hb : s.blocker r (some h) a e = none) : s.timetable.FreeBut h r a e :=
  fun _ hk hne _ hp => gaps_of_blocker hs hb hk (fun heq => hne (Option.some.inj heq)) hp

theorem free_of_blocker (hs : s.timetable.Right) (hb : s.blocker r none a e = none) : s.timetable.Free r a e :=
  fun _ hh _ hp => gaps_of_blocker hs hb hh (Option.some_ne_none _) hp

theorem clear_of_not_closed (h : (s.room r).closedFor a e = false) : s.timetable.Clear r a e := by
  intro c hc hover
  have hc : (s.room r).closure = some c := hc
  simp [Room.closedFor, hc, overlap, hover] at h

theorem lt_of_inTable (h : (s.room r).inTable = true) : r < s.rooms.length := by
  by_contra hr
  rw [timeline_of_no_room hr] at h
  exact nomatch h

/-! ### A booking in another place -/

/-- A booking gets another span or room, where every other booking of that room leaves it free. -/
theorem Timetable.Right.reseat (hL : L.Right) (hq : L.slot q.handle.idx = some q) (hh : p.handle = q.handle)
    (ha : p.footing.active = true) (hspan : p.startMin < p.endMin) (hin : (L.room p.room).inTable = true)
    (hg : ∀ k : Handle, k.idx ≠ p.handle.idx → g k = L.startOf k)
    (hfree : L.FreeBut p.handle p.room p.startMin p.endMin)
    (hclear : p.footing = .movable → L.Clear p.room p.startMin p.endMin) :
    ((L.vacate q).seat g p).Right := by
  have hempty : (L.vacate q).slot p.handle.idx = none := hh ▸ L.slot_vacate_same q
  obtain ⟨hturn, hclosure, htable⟩ := L.withTimeline_frame q.room ((L.room q.room).timeline.filter (· ≠ q.handle)) p.room
  have hmember {k : Handle} (hk : k ∈ ((L.vacate q).room p.room).timeline) : k.idx ≠ p.handle.idx := fun hidx => by
    obtain ⟨z, hz, -⟩ := (hL.vacate hq).member hk
    rw [hidx, hempty] at hz
    exact nomatch hz
  refine (hL.vacate hq).seat hempty ha hspan (htable.trans hin) (fun k hk => ?_) (fun k hk z hz => ?_) fun hm c hc =>
    hclear hm c (hclosure.symm.trans hc)
  · rw [hg k (hmember hk)]
    simp only [Timetable.startOf, Timetable.vacate, Timetable.slot_withSlot_other (hh ▸ hmember hk)]
    rfl
  · rw [show ((L.vacate q).room p.room).turnover = _ from hturn]
    exact hfree k (Timetable.mem_vacate.mp hk).1 (fun hkp => hmember hk (congrArg Handle.idx hkp)) z
      (Timetable.slot_of_vacate hz).2

/-- The state-level form: the booking `b` of entry `i` is off its timeline and has `x` in its place, and goes on the timeline
of the room of `x`. -/
theorem right_reseat {y : Booking} (hs : s.timetable.Right) (hb : s.bookingAt i = some b)
    (hu : u.timetable = (s.timetable.withTimeline b.room ((s.timetable.room b.room).timeline.filter (· ≠ b.handle))).withSlot i
      (some x.place))
    (hh : x.handle = b.handle) (hy : y.handle = x.handle ∧ y.room = x.room ∧ y.startMin = x.startMin)
    (ha : x.state.active = true) (hspan : x.startMin < x.endMin) (hin : (s.room x.room).inTable = true)
    (hfree : s.timetable.FreeBut x.handle x.room x.startMin x.endMin)
    (hclear : x.state.footing = .movable → s.timetable.Clear x.room x.startMin x.endMin) : (u.putOnTimeline y).timetable.Right := by
  have hidx : b.handle.idx = i := idx_of_right hs hb
  obtain ⟨hy1, hy2, hy3⟩ := hy
  have hvacate : u.timetable = (s.timetable.vacate b.place).withSlot x.handle.idx (some x.place) := by
    rw [hu, hh, Timetable.vacate, hidx, Timetable.withSlot_withSlot]
  have heq : (u.putOnTimeline y).timetable = (s.timetable.vacate b.place).seat u.timetable.startOf x.place := by
    have htable : (u.timetable.room x.room).inTable = true := by
      rw [hu]
      exact (s.timetable.withTimeline_frame ..).2.2.trans hin
    rw [timetable_putOn (hy2 ▸ lt_of_inTable htable), hy1, hy2, hy3]
    generalize u.timetable.startOf = g
    rw [hvacate]
    rfl
  rw [heq]
  refine hs.reseat (q := b.place) (hidx ▸ slot_of_bookingAt hb) hh ((footing_active _).trans ha) hspan hin (fun k hk => ?_)
    hfree hclear
  rw [hu]
  have hki : k.idx ≠ i := fun hki => hk (hki.trans (hidx.symm.trans (congrArg Handle.idx hh).symm))
  simp only [Timetable.startOf, Timetable.slot_withSlot_other hki]
  rfl

/-- A new booking takes an empty entry and goes on its timeline. -/
theorem right_newSeat {y : Booking} (hs : s.timetable.Right) (hi : s.timetable.slot x.handle.idx = none)
    (hu : u.timetable = s.timetable.withSlot x.handle.idx (some x.place))
    (hy : y.handle = x.handle ∧ y.room = x.room ∧ y.startMin = x.startMin) (ha : x.state.active = true)
    (hspan : x.startMin < x.endMin) (hin : (s.room x.room).inTable = true) (hfree : s.timetable.Free x.room x.startMin x.endMin)
    (hclear : x.state.footing = .movable → s.timetable.Clear x.room x.startMin x.endMin) : (u.putOnTimeline y).timetable.Right := by
  obtain ⟨hy1, hy2, hy3⟩ := hy
  have heq : (u.putOnTimeline y).timetable = s.timetable.seat u.timetable.startOf x.place := by
    have htable : (u.timetable.room x.room).inTable = true := by
      rw [hu]
      exact hin
    rw [timetable_putOn (hy2 ▸ lt_of_inTable htable), hy1, hy2, hy3]
    generalize u.timetable.startOf = g
    rw [hu]
    rfl
  rw [heq]
  refine hs.seat hi ((footing_active _).trans ha) hspan hin (fun k hk => ?_) hfree hclear
  rw [hu]
  have hki : k.idx ≠ x.handle.idx := fun hki => by
    obtain ⟨z, hz, -⟩ := hs.member hk
    rw [hki, hi] at hz
    exact nomatch hz
  simp only [Timetable.startOf, Timetable.slot_withSlot_other hki]

/-! ### AMEND, EXTEND and the sweep -/

theorem right_replace (hs : s.timetable.Right) (hb : s.bookingAt i = some b) {y : Booking} (hy : y.place = b.place)
    (hh : new.handle = b.handle) (ha : new.state.active = true) (hspan : new.startMin < new.endMin)
    (hin : (s.room new.room).inTable = true)
    (hfree : s.timetable.FreeBut b.handle new.room new.startMin new.endMin)
    (hclear : new.state.footing = .movable → s.timetable.Clear new.room new.startMin new.endMin) : (s.replace y new).timetable.Right := by
  have hidx := idx_of_right hs hb
  have hyh : y.handle = b.handle := congrArg Place.handle hy
  have hyr : y.room = b.room := congrArg Place.room hy
  obtain ⟨w, hw⟩ : ∃ w, w = (s.takeOffTimeline y.room y.handle).modBooking y.handle.idx fun x =>
      { x with room := new.room, startMin := new.startMin, endMin := new.endMin, headCount := new.headCount
               state := new.state } := ⟨_, rfl⟩
  have heq : s.replace y new = w.putOnTimeline new := by rw [hw]; rfl
  rw [heq]
  refine right_reseat (x := { b with
    room := new.room, startMin := new.startMin, endMin := new.endMin, state := new.state }) hs hb ?_ rfl ⟨hh, rfl, rfl⟩ ha
    hspan hin hfree hclear
  rw [hw, hyh, hyr, hidx, timetable_writeBooking (s := s.takeOffTimeline b.room b.handle) hb, timetable_takeOff]

theorem right_writeEnd (hs : s.timetable.Right) (hb : s.bookingAt b.handle.idx = some b) (hst : b.state = .inUse)
    (hspan : b.startMin < e) (hfree : s.timetable.FreeBut b.handle b.room b.startMin e) :
    (s.writeEnd b e).timetable.Right := by
  have hin : (s.room b.room).inTable = true :=
    hs.rooms b.room (List.ne_nil_of_mem ((hs.stands b.room b.handle).mpr
      (stands_iff.mpr ⟨b, hb, rfl, rfl, by rw [hst]; rfl⟩)))
  obtain ⟨w, hw⟩ : ∃ w, w = (s.takeOffTimeline b.room b.handle).modBooking b.handle.idx fun x => { x with endMin := e } :=
    ⟨_, rfl⟩
  have heq : s.writeEnd b e = w.putOnTimeline { b with endMin := e } := by rw [hw]; rfl
  rw [heq]
  refine right_reseat (x := { b with endMin := e }) hs hb ?_ rfl ⟨rfl, rfl, rfl⟩ (by rw [hst]; rfl) hspan hin hfree
    fun hm => ?_
  · rw [hw, timetable_writeBooking (s := s.takeOffTimeline b.room b.handle) hb, timetable_takeOff]
  · rw [hst] at hm
    exact nomatch hm

theorem right_relocate (hs : s.timetable.Right) (hb : s.bookingAt b.handle.idx = some b)
    (hst : b.state = .booked ∨ b.state = .awaiting) (hin : (s.room r).inTable = true)
    (hfree : s.timetable.FreeBut b.handle r b.startMin b.endMin) (hclear : s.timetable.Clear r b.startMin b.endMin)
    (now : Nat) : (s.relocate now b r).timetable.Right := by
  have hactive : b.state.active = true := by rcases hst with h | h <;> rw [h] <;> rfl
  have hspan : b.startMin < b.endMin := hs.spans _ _ (slot_of_bookingAt hb) (footing_ne_past.mpr (.inl hactive))
  obtain ⟨v, hv⟩ : ∃ v, v = (s.returnChannel b.handle.idx).takeOffTimeline b.room b.handle := ⟨_, rfl⟩
  obtain ⟨c, hc, hcplace⟩ : ∃ c, v.bookingAt b.handle.idx = some c ∧ c.place = b.place :=
    ⟨{ b with timer := none }, by rw [hv]; exact bookingAt_returnChannel hb, rfl⟩
  obtain ⟨w, hw⟩ : ∃ w, w = v.modBooking b.handle.idx fun x => { x with room := r, state := .booked } := ⟨_, rfl⟩
  have hch : c.handle = b.handle := congrArg Place.handle hcplace
  have hcs : c.startMin = b.startMin := congrArg Place.startMin hcplace
  have hce : c.endMin = b.endMin := congrArg Place.endMin hcplace
  have hseat : (w.putOnTimeline { b with room := r, state := .booked, timer := none }).timetable.Right := by
    refine right_reseat (x := { c with room := r, state := .booked }) hs hb ?_ hch ⟨hch.symm, rfl, hcs.symm⟩ rfl ?_ hin ?_
      fun _ => ?_
    · rw [hw, timetable_writeBooking hc, hv, timetable_takeOff, timetable_returnChannel]
    · exact (hcs.trans_lt hspan).trans_eq hce.symm
    · change s.timetable.FreeBut c.handle r c.startMin c.endMin
      rwa [hch, hcs, hce]
    · change s.timetable.Clear r c.startMin c.endMin
      rwa [hcs, hce]
  have hmarked : (((w.putOnTimeline { b with room := r, state := .booked, timer := none }).relocateOrder now
      { b with room := r, state := .booked, timer := none }).markBooking b.handle.idx).timetable.Right := by
    rwa [timetable_markBooking, timetable_relocateOrder]
  have heq : s.relocate now b r = if b.state = .awaiting then
      (((w.putOnTimeline { b with room := r, state := .booked, timer := none }).relocateOrder now
        { b with room := r, state := .booked, timer := none }).markBooking b.handle.idx).handleStart now b.handle.idx
      else ((w.putOnTimeline { b with room := r, state := .booked, timer := none }).relocateOrder now
        { b with room := r, state := .booked, timer := none }).markBooking b.handle.idx := by
    rw [hw, hv]
    rfl
  rw [heq]
  split
  · exact staysRight_handleStart _ _ hmarked
  · exact hmarked

end Sys2Proof.Machine
end

section
/-! SUPPORT. Bookings made: a record taken from the FIFO is new to the timetable, and a host's or a series' booking takes its place
in it (R26, R33, R39). -/

namespace Sys2Proof.Machine

variable {s t u : State} {i n r a e now : Nat} {b x : Booking} {rest : List Nat} {c : AllocClass} {note order : Bool}
  {l : Option Nat} {k : Taken} {f : BookForm} {sp : SpanOut}

/-! ### The directory under a right FIFO -/

/-- The tables have their sizes and the directory agrees with its FIFO (R24). -/
structure Grounded (s : State) : Prop where
  shaped : s.shaped = true
  handles : s.handlesAgree
  fifo : s.fifoRight

theorem Grounded.conserves (hs : Grounded s) (h : Conserves s t) : Grounded t := by
  have hshaped := shaped_iff.mp hs.shaped
  have hhandles := handlesAgree_iff.mp hs.handles
  exact ⟨shaped_iff.mpr (h.shaped hshaped), handlesAgree_iff.mpr (h.handles hhandles),
    fifoRight_iff.mpr (h.fifo hshaped hhandles (fifoRight_iff.mp hs.fifo))⟩

theorem Grounded.ledger (hs : Grounded s) (h : t.ledger = s.ledger) : Grounded t := hs.conserves (.of_ledger h)

theorem grounded_of_sound (hs : s.Sound) : Grounded s := ⟨hs.shaped, hs.handles, hs.fifo⟩

theorem Grounded.entries (hs : Grounded s) : s.dir.entries.length = Config.handles := by
  have := (shaped_iff.mp hs.shaped).slots
  simpa [State.ledger] using this

/-! ### A record taken and entered -/

theorem Entered.timetable (h : Entered i rest n b s t) : t.timetable = s.timetable.withSlot i (some b.place) := by
  simp only [State.timetable, Timetable.withSlot, Timetable.mk.injEq]
  refine ⟨funext fun j => ?_, ?_, ?_, ?_, ?_, ?_, ?_, ?_, ?_⟩
  · by_cases hj : j = i
    · rw [if_pos hj, hj, h.own]
      rfl
    · rw [if_neg hj, h.others j hj]
  · rw [h.keeps]
    rfl
  · rw [h.keeps]
    rfl
  all_goals rw [h.keeps]

/-- What a record taken and entered does: its entry was empty, and holds the booking. -/
structure Recorded (b : Booking) (s t : State) : Prop where
  empty : s.timetable.slot b.handle.idx = none
  timetable : t.timetable = s.timetable.withSlot b.handle.idx (some b.place)

theorem recorded_takeRecord (hs : Grounded s) (h : s.takeRecord c note order l = some (u, k)) (hb : b.handle = k.handle) :
    Recorded b s (u.enter b) := by
  obtain ⟨i, rest, -, hfifo, -⟩ := takeRecord_steps h
  obtain ⟨hi, hnone⟩ := (hs.fifo.2 i).mp (hfifo ▸ List.mem_cons_self)
  have hin := entered_takeRecord h hfifo (hs.entries ▸ hi) hb rfl
  have hidx : b.handle.idx = i := by rw [hin.handle]
  refine ⟨?_, hidx ▸ hin.timetable⟩
  rw [hidx]
  exact Option.map_eq_none_iff.mpr hnone

/-- An entry of the directory loses its booking. -/
theorem timetable_emptied (s : State) (i : Nat) {g : DirEntry → DirEntry} (hg : ∀ e, (g e).booking = none) (fifo : List Nat) :
    ({ s with dir := { s.dir with fifo := fifo, entries := s.dir.entries.modify i g } } : State).timetable =
      s.timetable.withSlot i none := by
  simp only [State.timetable, Timetable.withSlot, Timetable.mk.injEq, and_self, and_true]
  refine ⟨funext fun j => ?_, rfl, rfl⟩
  simp only [State.bookingAt]
  by_cases hj : j = i
  · subst hj
    rw [if_pos rfl]
    by_cases hlt : j < s.dir.entries.length
    · rw [getD_modify_same hlt, hg]
      rfl
    · rw [List.getD_eq_getElem?_getD, List.getElem?_eq_none (by rw [List.length_modify]; exact Nat.not_lt.mp hlt)]
      rfl
  · rw [if_neg hj, getD_modify_other (Ne.symm hj)]

theorem timetable_returnCreation (s : State) (k : Taken) (l : Option Nat) :
    (s.returnCreation k l).timetable = s.timetable.withSlot k.handle.idx none := by
  obtain ⟨v, hv⟩ : ∃ v, v = ((s.giveBackOpt .order k.order).giveBackOpt .note k.note).giveBack .head k.head := ⟨_, rfl⟩
  have heq : s.returnCreation k l = State.modRef { v with dir := { v.dir with
      fifo := k.handle.idx :: v.dir.fifo
      entries := v.dir.entries.modify k.handle.idx fun e => ⟨(e.generation + 255) % 256, none⟩ } } l (· - 1) := by
    rw [hv]; rfl
  rw [heq, timetable_modRef, timetable_emptied v k.handle.idx (fun _ => rfl), hv]
  simp

/-- A creation entered and returned leaves the timetable as it was (R26). -/
theorem Recorded.returned (h : Recorded b s t) (hk : k.handle = b.handle) (l : Option Nat) :
    (t.returnCreation k l).timetable = s.timetable := by
  rw [timetable_returnCreation, h.timetable, hk, Timetable.withSlot_withSlot]
  exact Timetable.withSlot_same h.empty

theorem timetable_retire (s : State) (b : Booking) : (s.retire b).timetable = s.timetable.withSlot b.handle.idx none := by
  obtain ⟨v, hv⟩ : ∃ v, v = ((s.unplan b.handle).giveBackBooking b).modRef b.series (· - 1) := ⟨_, rfl⟩
  have heq : s.retire b = { v with dir := { v.dir with
      entries := v.dir.entries.modify b.handle.idx fun e => { e with booking := none }
      fifo := v.dir.fifo ++ [b.handle.idx] } } := by rw [hv]; rfl
  rw [heq, timetable_emptied v b.handle.idx (fun _ => rfl), hv]
  simp

/-- A booking on no timeline leaves an empty entry, and no more. -/
theorem Timetable.Right.vacate_inactive {L : Timetable} {p : Place} (hL : L.Right) (hp : L.slot p.handle.idx = some p)
    (ha : p.footing.active = false) : L.vacate p = L.withSlot p.handle.idx none := by
  refine congrArg (Timetable.withSlot · _ none) ?_
  have hfilter : (L.room p.room).timeline.filter (· ≠ p.handle) = (L.room p.room).timeline :=
    List.filter_eq_self.mpr fun h hh => decide_eq_true fun heq => by
      obtain ⟨y, hy, -, -, hya⟩ := (hL.stands p.room h).mp hh
      rw [heq, hp] at hy
      cases hy
      exact Bool.false_ne_true (ha.symm.trans hya)
  have hsame : (fun q => if q = p.room then L.room p.room else L.room q) = L.room := by
    funext q
    split <;> simp_all
  rw [hfilter]
  exact congrArg (fun g => { L with room := g }) hsame

/-- A booking on no timeline is retired (R27). -/
theorem staysRight_retire (hb : s.bookingAt i = some b) (ha : b.state.active = false) : StaysRight s (s.retire b) := by
  intro hs
  have hslot : s.timetable.slot b.handle.idx = some b.place := idx_of_right hs hb ▸ slot_of_bookingAt hb
  have hleft := hs.vacate (x := b.place) hslot
  rw [hs.vacate_inactive hslot ((footing_active _).trans ha)] at hleft
  rwa [timetable_retire]

/-- A booking on no timeline changes its state to another that stands on none. -/
theorem staysRight_lapse {f : Booking → Booking} (hb : s.bookingAt i = some b) (ha : b.state.active = false)
    (hh : (f b).handle = b.handle) (hf : (f b).state.footing = .past) : StaysRight s (s.modBooking i f) := by
  intro hs
  have hidx := idx_of_right hs hb
  have hslot : s.timetable.slot b.handle.idx = some b.place := hidx ▸ slot_of_bookingAt hb
  have heq : (s.modBooking i f).timetable = (s.timetable.vacate b.place).withSlot (f b).handle.idx (some (f b).place) := by
    rw [timetable_writeBooking hb, hs.vacate_inactive hslot ((footing_active _).trans ha), hh, Timetable.withSlot_withSlot, hidx]
  rw [heq]
  refine Timetable.Right.record (x := (f b).place) (hs.vacate hslot) ?_ ?_ fun haway => ?_
  · rw [show (f b).place.handle = b.place.handle from hh]
    exact Timetable.slot_vacate_same ..
  · rw [show (f b).place.footing = .past from hf]
    rfl
  · exact nomatch hf.symm.trans haway

/-! ### Host bookings -/

/-- The new booking takes a free span of a room in the table. -/
theorem Recorded.seat (h : Recorded b s t) (hs : s.timetable.Right) (ha : b.state.active = true) (hspan : b.startMin < b.endMin)
    (hin : (s.room b.room).inTable = true) (hfree : s.timetable.Free b.room b.startMin b.endMin)
    (hclear : b.state.footing = .movable → s.timetable.Clear b.room b.startMin b.endMin) (hu : u.timetable = t.timetable) :
    (u.putOnTimeline b).timetable.Right :=
  right_newSeat hs h.empty (hu.trans h.timetable) ⟨rfl, rfl, rfl⟩ ha hspan hin hfree hclear

/-- A host booking is made where the freedom test and the closure leave its span (R35, R38, R39). -/
theorem staysRight_makeHostBooking {mk : Taken → Booking} {form : Option OrderForm} (hg : Grounded s)
    (hmk : ∀ k : Taken, (mk k).place = ⟨k.handle, r, a, e, .movable⟩) (hspan : a < e) (hin : (s.room r).inTable = true)
    (hfree : s.blocker r none a e = none) (hclear : (s.room r).closedFor a e = false) :
    StaysRight s (madeState (s.makeHostBooking now mk note form)) := by
  intro hs
  unfold State.makeHostBooking
  dsimp only
  split
  · exact hs
  · rename_i s1 k hk
    have hplace := hmk k
    have hh : (mk k).handle = k.handle := congrArg Place.handle hplace
    have hr : (mk k).room = r := congrArg Place.room hplace
    have hstart : (mk k).startMin = a := congrArg Place.startMin hplace
    have hend : (mk k).endMin = e := congrArg Place.endMin hplace
    have hfoot : (mk k).state.footing = .movable := congrArg Place.footing hplace
    have hnew := recorded_takeRecord hg hk hh
    have hseat {u : State} (hu : u.timetable = (s1.enter (mk k)).timetable) :
        ((u.putOnTimeline (mk k)).handleStart now k.handle.idx).timetable.Right := by
      refine staysRight_handleStart _ _ (hnew.seat hs ?_ ?_ ?_ ?_ (fun _ => ?_) hu)
      · rw [← footing_active, hfoot]
        rfl
      · rwa [hstart, hend]
      · rwa [hr]
      · rw [hr, hstart, hend]
        exact free_of_blocker hs hfree
      · rw [hr, hstart, hend]
        exact clear_of_not_closed hclear
    split
    · exact hseat rfl
    · split
      · rw [madeState_error, hnew.returned hh.symm]
        exact hs
      · split
        · rw [madeState_error, hnew.returned hh.symm]
          exact hs
        · rename_i hp
          exact hseat (timetable_planHost hp)

theorem lt_of_formSpan {f : SpanForm} {kept : Option Nat} (h : formSpan now f kept = some sp) : sp.startMin < sp.endMin := by
  obtain ⟨-, last, -, rfl, hmin, -⟩ := formSpan_eq_some_iff.mp h
  simp only [spanTo]
  omega

theorem staysRight_bookSpan (hg : Grounded s) (hin : (s.room f.room).inTable = true) (hspan : sp.startMin < sp.endMin) :
    StaysRight s (s.bookSpan f sp).state := by
  unfold State.bookSpan
  dsimp only
  split
  · exact .refl s
  split
  · exact .refl s
  rename_i hclosed
  split
  · exact .refl s
  rename_i hfree
  split
  · exact .refl s
  have hmade := staysRight_makeHostBooking (now := s.clock.minute) (note := storedNote f.note ≠ []) (form := f.order)
    (mk := fun t => newBooking t f.room sp.startMin sp.endMin f.headCount f.organiser f.origin f.needs f.wants
      (checkinOf f.override (s.room f.room)) .host none f.order (storedNote f.note)) hg (fun _ => rfl) hspan hin hfree
    (Bool.eq_false_iff.mpr hclosed)
  split <;> rename_i he <;> rw [he] at hmade <;> exact hmade

theorem staysRight_book (hg : Grounded s) (f : BookForm) : StaysRight s (s.book f).state := by
  unfold State.book
  split
  · exact .refl s
  split
  · exact .refl s
  split
  · exact .refl s
  split
  · exact .refl s
  rename_i hin
  split
  · exact .refl s
  split
  · exact .refl s
  · rename_i hform
    exact staysRight_bookSpan hg (by simpa using hin) (lt_of_formSpan hform)

end Sys2Proof.Machine
end

section
/-! SUPPORT. AMEND and CANCEL leave the timetable right (R42 to R45). -/

namespace Sys2Proof.Machine

variable {s t u : State} {i target now : Nat} {b x new : Booking} {h : Handle} {f : AmendForm} {sp : SpanOut}

/-! ### AMEND -/

theorem timetable_setNote (s : State) (note : Option Note) (i : Nat) :
    (s.modBooking i fun x => { x with note := note }).timetable = s.timetable :=
  timetable_modBooking s (f := fun x => { x with note := note }) (fun _ => rfl) i

theorem timetable_amendNote {note : Option (List Byte)} (h : s.amendNote b note = some t) : t.timetable = s.timetable := by
  unfold State.amendNote at h
  split at h
  · cases h; rfl
  · cases h; rfl
  · cases h
    exact timetable_setNote _ none _
  · cases h
    exact timetable_setNote _ (some _) _
  · split at h
    · rename_i ha
      cases h
      exact (timetable_setNote _ (some _) _).trans (timetable_allocate ha)
    · cases h

/-- The span that an AMEND asks for ends after its start, and keeps the start when none is given (R41). -/
theorem span_of_amendSpan (h : amendSpan now f b = some sp) (hb : b.startMin < b.endMin) :
    sp.startMin < sp.endMin ∧ (f.startMin = none → sp.startMin = b.startMin) := by
  have hform := (amendSpan_eq_some_iff.mp h).1
  unfold amendForm at hform
  split at hform
  · rename_i m hm
    exact ⟨lt_of_formSpan hform, fun hn => nomatch hm.symm.trans hn⟩
  · split at hform
    · obtain ⟨last, -, rfl, hmin, -⟩ := formEnd_eq_some_iff.mp hform
      exact ⟨Nat.lt_of_lt_of_le (Nat.lt_add_of_pos_right (by decide)) hmin, fun _ => rfl⟩
    · cases hform
      exact ⟨hb, fun _ => rfl⟩

/-- The new place of a booking, in a state whose timetable the AMEND has not yet changed. -/
theorem right_replaced (hs : s.timetable.Right) (hb : s.bookingAt b.handle.idx = some b) (hu : u.timetable = s.timetable)
    (hh : new.handle = b.handle) (ha : new.state.active = true) (hspan : new.startMin < new.endMin)
    (hin : (s.room new.room).inTable = true) (hfree : s.timetable.FreeBut b.handle new.room new.startMin new.endMin)
    (hclear : s.timetable.Clear new.room new.startMin new.endMin) : (u.replace b new).timetable.Right := by
  obtain ⟨x, hx, hplace⟩ := slot_eq_some.mp ((congrArg (Timetable.slot · _) hu).trans (slot_of_bookingAt hb))
  have hxh : x.handle = b.handle := congrArg Place.handle hplace
  refine right_replace (hu ▸ hs) hx hplace.symm (hh.trans hxh.symm) ha hspan ?_ ?_ fun _ => ?_
  · exact (congrArg (fun L : Timetable => (L.room new.room).inTable) hu).trans hin
  · rw [hu, hxh]
    exact hfree
  · rw [hu]
    exact hclear

theorem staysRight_amendWrite (hb : s.bookingAt b.handle.idx = some b) (hspan : sp.startMin < sp.endMin)
    (hin : (s.room target).inTable = true) (hfree : s.blocker target (some b.handle) sp.startMin sp.endMin = none)
    (hclosed : (s.room target).closedFor sp.startMin sp.endMin = false)
    (hkept : b.state = .awaiting ∨ b.state = .inUse → target = b.room ∧ sp.startMin = b.startMin) :
    StaysRight s (s.amendWrite f b target sp).state := by
  intro hs
  have hfree := freeBut_of_blocker hs hfree
  have hclear := clear_of_not_closed hclosed
  unfold State.amendWrite
  dsimp only
  split
  · exact hs
  · rename_i s1 hnote
    have hs1 := timetable_amendNote hnote
    split
    · rename_i hstate
      obtain ⟨rfl, hstart⟩ := hkept hstate
      rw [hstart] at hspan hfree hclear
      have hnew : (s1.replace b { b with endMin := sp.endMin }).timetable.Right :=
        right_replaced hs hb hs1 rfl (by rcases hstate with h | h <;> rw [h] <;> rfl) hspan hin hfree hclear
      dsimp only
      split
      · rwa [timetable_shortenWindow]
      · exact hnew
    · split
      · exact hs
      · rename_i s2 tight hmoved
        have hs2 : s2.timetable = s1.timetable := by
          split at hmoved
          · exact timetable_amendOrder hmoved
          · cases hmoved; rfl
        exact staysRight_handleStart _ _
          (right_replaced (new := { b with
            room := target, startMin := sp.startMin, endMin := sp.endMin, headCount := f.headCount.getD b.headCount
            state := .booked }) hs hb (hs2.trans hs1) rfl rfl hspan hin hfree hclear)

theorem staysRight_amendPlace (hb : s.bookingAt b.handle.idx = some b) (hin : (s.room target).inTable = true)
    (hst : b.state.active = true ∨ b.state = .displaced)
    (hkept : b.state = .awaiting ∨ b.state = .inUse → target = b.room ∧ f.startMin = none) :
    StaysRight s (s.amendPlace f b target).state := by
  intro hs
  unfold State.amendPlace
  dsimp only
  split
  · exact hs
  split
  · exact hs
  rename_i sp hsp
  obtain ⟨hspan, hstart⟩ := span_of_amendSpan hsp (hs.spans _ _ (slot_of_bookingAt hb) (footing_ne_past.mpr hst))
  split
  · exact hs
  split
  · exact hs
  rename_i hclosed
  split
  · exact hs
  rename_i hfree
  split
  · exact hs
  exact staysRight_amendWrite hb hspan hin hfree (Bool.eq_false_iff.mpr hclosed)
    (fun h => (hkept h).imp_right hstart) hs

/-- A state that admits the fields of an AMEND: not a terminal one, and a booking in use or awaited keeps its start and room
(R40). -/
theorem of_amendAdmitted (h : amendAdmitted f b = true) : (b.state.active = true ∨ b.state = .displaced) ∧
    (b.state = .awaiting ∨ b.state = .inUse → (amendRoom f b).getD b.room = b.room ∧ f.startMin = none) := by
  cases hst : b.state <;> simp_all [amendAdmitted, BookingState.active]

theorem staysRight_amend (f : AmendForm) : StaysRight s (s.amend f).state := by
  intro hs
  unfold State.amend
  split
  · exact hs
  split
  · exact hs
  split
  · exact hs
  rename_i b hl
  have hb := bookingAt_of_lookupOr hl
  rw [← idx_of_right hs hb] at hb
  dsimp only
  split
  · exact hs
  rename_i hadmitted
  obtain ⟨hst, hkept⟩ := of_amendAdmitted (by simpa using hadmitted)
  split
  · exact hs
  split
  · exact hs
  split
  · exact hs
  rename_i hin
  exact staysRight_amendPlace hb (by simpa using hin) hst hkept hs

/-! ### CANCEL -/

theorem staysRight_withdraw (hb : s.bookingAt b.handle.idx = some b) : StaysRight s (s.withdraw b) := by
  unfold State.withdraw
  split
  · rename_i hd
    exact staysRight_lapse hb (by rw [hd]; rfl) rfl rfl
  · exact staysRight_leave hb (by rw [State.bookingAt_modBooking_same, hb]; rfl) (timetable_writeBooking hb _) rfl rfl rfl
      fun h => nomatch h

theorem withdraw_cancels (hb : s.bookingAt b.handle.idx = some b) :
    (s.withdraw b).At b.handle.idx (·.state = .cancelled) := by
  have hcancelled : (s.modBooking b.handle.idx fun x => { x with state := .cancelled }).bookingAt b.handle.idx =
      some { b with state := .cancelled } := by rw [State.bookingAt_modBooking_same, hb]; rfl
  unfold State.withdraw
  split
  · intro x hx
    cases hcancelled.symm.trans hx
    rfl
  · exact state_leaveActive hcancelled

theorem staysRight_cancelBooking (hb : s.bookingAt b.handle.idx = some b) : StaysRight s (s.cancelBooking b).state := by
  have hleft := staysRight_withdraw hb
  unfold State.cancelBooking
  dsimp only
  split
  · exact hleft
  · rename_i x hx
    split
    · exact hleft.trans (staysRight_retire hx (by rw [withdraw_cancels hb x hx]; rfl))
    · exact hleft

theorem staysRight_cancel (h : Handle) : StaysRight s (s.cancel h).state := by
  intro hs
  unfold State.cancel
  split
  · exact hs
  split
  · exact hs
  split
  · exact hs
  rename_i b hl
  have hb := bookingAt_of_lookupOr hl
  rw [← idx_of_right hs hb] at hb
  split
  any_goals exact hs
  all_goals exact staysRight_cancelBooking hb hs

end Sys2Proof.Machine
end

section
/-! SUPPORT. The placement queue and its searches (R70 to R83): a search joins, is taken and leaves; what a settled PLACE_AND_BOOK
does. -/

namespace Sys2Proof.Machine

variable {s t u : State} {r k rank : Nat} {b : Booking} {h : Handle} {e : QueueEntry} {x : Search} {kind : SearchKind}
  {client : Client} {q : SearchInputs} {needs : Caps} {row : List Nat} {c : Candidate} {cs : List Candidate} {f : BookFields}
  {reasons : List Reason} {pre : List Field} {trial : Option Trial}

/-! ### The queue -/

theorem timetable_withPlacement (s : State) (p : Placement) : ({ s with placement := p } : State).timetable =
    { s.timetable with queue := p.queue.map QueueEntry.line, nextId := p.nextId } := rfl

theorem timetable_withSweepOf (s : State) (w : Sweep) : ({ s with sweep := w } : State).timetable =
    { s.timetable with
      sweeping := w.sweeping, sweepRoom := w.room, current := w.current, reported := w.report.isSome } := rfl

theorem timetable_enqueue (s : State) (kind : SearchKind) (client : Client) (q : SearchInputs) :
    (s.enqueue kind client q).timetable = { s.timetable with
      queue := s.timetable.queue ++ [QueueEntry.line ⟨s.placement.nextId, kind, client, q, false⟩]
      nextId := s.timetable.nextId + 1 } := by
  rw [State.enqueue, timetable_withPlacement, List.map_append]
  rfl

theorem staysRight_dequeue (s : State) (id : Nat) : StaysRight s (s.dequeue id) := fun hs =>
  hs.dequeue (List.filter_sublist.map QueueEntry.line)

/-- A search that is not the sweep's joins the queue. -/
theorem staysRight_enqueue (hk : kind ≠ .sweep) (hq : q.book.isSome = true → q.startMin < q.endMin) :
    StaysRight s (s.enqueue kind client q) := by
  intro hs
  rw [timetable_enqueue]
  exact hs.enqueue (e := QueueEntry.line ⟨s.placement.nextId, kind, client, q, false⟩) (current := s.timetable.current)
    rfl hq (fun _ _ _ => rfl) hs.idle fun hsw => absurd (of_decide_eq_true hsw) hk

theorem line_mem (he : e ∈ s.placement.queue) : e.line ∈ s.timetable.queue := List.mem_map.mpr ⟨e, he, rfl⟩

theorem entry_of_id (hs : s.timetable.Right) {e e' : QueueEntry} (he : e ∈ s.placement.queue) (he' : e' ∈ s.placement.queue)
    (hid : e.id = e'.id) : e = e' := by
  obtain ⟨-, -, -, hids, -⟩ := parts_of_right hs
  exact List.inj_on_of_nodup_map hids he he' hid

/-- The search of a sweep is made for a booking (R83). -/
theorem client_of_sweep (hs : s.timetable.Right) (he : e ∈ s.placement.queue) (hk : e.kind = .sweep) :
    ∃ h, e.client = .booking h := by
  obtain ⟨-, -, h, hself, -⟩ := hs.sweeps _ (line_mem he) (decide_eq_true hk)
  exact ⟨h, client_self.mp hself⟩

/-! ### A search is taken -/

/-- An entry as the engine takes it (R71). -/
def State.takenEntry (s : State) (e : QueueEntry) : QueueEntry := { e with inputs := s.inputsAtTake e, isRunning := true }

/-- A search with another span. -/
def SearchLine.respan (l : SearchLine) (a b : Nat) : SearchLine := { l with startMin := a, endMin := b }

theorem line_takenEntry (s : State) (e : QueueEntry) :
    (s.takenEntry e).line = e.line.respan (s.inputsAtTake e).startMin (s.inputsAtTake e).endMin := by
  cases hc : e.client <;> simp [QueueEntry.line, SearchLine.respan, State.takenEntry, State.inputsAtTake, State.nearbyInputs, hc]

/-- A search taken keeps its span, but for a FIND_NEARBY, whose span is the half hour from now (R81). -/
theorem span_at_take (s : State) (e : QueueEntry) :
    ((s.inputsAtTake e).startMin = e.inputs.startMin ∧ (s.inputsAtTake e).endMin = e.inputs.endMin) ∨
      (∃ p, e.client = .panel p) ∧ (s.inputsAtTake e).startMin < (s.inputsAtTake e).endMin := by
  cases hc : e.client with
  | panel p => exact .inr ⟨⟨p, rfl⟩, by simp [State.inputsAtTake, State.nearbyInputs, hc]⟩
  | host ref => exact .inl (by simp [State.inputsAtTake, hc])
  | booking h => exact .inl (by simp [State.inputsAtTake, hc])

/-- Searches that keep their numbers, kinds and spans, or are no sweep's and have a span. -/
theorem Timetable.Right.mapQueue {L : Timetable} {g : SearchLine → SearchLine} (hL : L.Right) (hid : ∀ e, (g e).id = e.id)
    (hsweep : ∀ e, (g e).sweep = e.sweep)
    (hg : ∀ e ∈ L.queue, g e = e ∨ (g e).sweep = false ∧ (g e).startMin < (g e).endMin) :
    ({ L with queue := L.queue.map g } : Timetable).Right := by
  refine hL.withSearches ?_ (fun e he => ?_) ?_ (fun e he hb => ?_) (fun e he hsw => ?_) hL.idle
  · rw [List.map_map, show SearchLine.id ∘ g = SearchLine.id from funext hid]
    exact hL.ids
  · obtain ⟨e', he', rfl⟩ := List.mem_map.mp he
    exact hid e' ▸ hL.fresh e' he'
  · rw [List.countP_map, show SearchLine.sweep ∘ g = SearchLine.sweep from funext hsweep]
    exact hL.single
  · obtain ⟨e', he', rfl⟩ := List.mem_map.mp he
    rcases hg e' he' with hsame | ⟨-, hspan⟩
    · rw [hsame] at hb ⊢
      exact hL.books e' he' hb
    · exact hspan
  · obtain ⟨e', he', rfl⟩ := List.mem_map.mp he
    rcases hg e' he' with hsame | ⟨hno, -⟩
    · rw [hsame] at hsw ⊢
      exact hL.sweeps e' he' hsw
    · exact absurd (hno.symm.trans hsw) Bool.false_ne_true

/-- The queue with one of its searches taken. -/
theorem staysRight_take (he : e ∈ s.placement.queue) (search : Option Search) : StaysRight s { s with
    placement := { s.placement with
      queue := s.placement.queue.map fun y => if y.id = e.id then s.takenEntry e else y
      search := search } } := by
  intro hs
  rw [timetable_withPlacement]
  have hqueue : (s.placement.queue.map fun y => if y.id = e.id then s.takenEntry e else y).map QueueEntry.line =
      s.timetable.queue.map fun l =>
        if l.id = e.id then l.respan (s.inputsAtTake e).startMin (s.inputsAtTake e).endMin else l := by
    rw [State.timetable, List.map_map, List.map_map]
    refine List.map_congr_left fun y hy => ?_
    simp only [Function.comp_apply]
    by_cases hid : y.id = e.id
    · obtain rfl := entry_of_id hs hy he hid
      rw [if_pos rfl, if_pos rfl, line_takenEntry]
    · rw [if_neg hid, if_neg hid]
  rw [hqueue]
  refine hs.mapQueue (fun l => ?_) (fun l => ?_) fun l hl => ?_
  · split <;> rfl
  · split <;> rfl
  · obtain ⟨y, hy, rfl⟩ := List.mem_map.mp hl
    dsimp only
    split
    · rename_i hid
      obtain rfl := entry_of_id hs hy he hid
      rcases span_at_take s y with ⟨hstart, hend⟩ | ⟨⟨p, hp⟩, hspan⟩
      · exact .inl (by rw [hstart, hend]; rfl)
      · refine .inr ⟨Bool.eq_false_iff.mpr fun hsw => ?_, hspan⟩
        obtain ⟨h, hh⟩ := client_of_sweep hs hy (of_decide_eq_true hsw)
        exact nomatch hp.symm.trans hh
    · exact .inl rfl

/-! ### The recheck -/

theorem of_roomTests (h : s.roomTests e needs row r = .ok trial) :
    (s.room r).closedFor e.inputs.startMin e.inputs.endMin = false ∧
      s.blocker r e.client.self e.inputs.startMin e.inputs.endMin = none := by
  unfold State.roomTests at h
  dsimp only at h
  split at h
  · cases h
  rename_i hservice
  split at h
  · cases h
  split at h
  · cases h
  split at h
  · cases h
  split at h
  · cases h
  rename_i hfree
  exact ⟨Bool.eq_false_iff.mpr fun hc => hservice (.inr hc), Option.not_isSome_iff_eq_none.mp hfree⟩

/-- The candidate that the recheck lets through passes the tests, in a room of the table (R80). -/
theorem of_recheck (h : s.recheck e x rank cs = (reasons, some (k, c))) : (s.room c.room).inTable = true ∧
    (s.room c.room).closedFor e.inputs.startMin e.inputs.endMin = false ∧
      s.blocker c.room e.client.self e.inputs.startMin e.inputs.endMin = none := by
  induction cs generalizing rank reasons with
  | nil => exact nomatch h
  | cons d cs ih =>
    unfold State.recheck at h
    dsimp only at h
    split at h
    · rename_i trial hok
      obtain ⟨-, hkc⟩ := Prod.mk.inj h
      obtain ⟨-, rfl⟩ := Prod.mk.inj (Option.some.inj hkc)
      split at hok
      · rename_i hin
        exact ⟨hin, of_roomTests hok⟩
      · cases hok
    · obtain ⟨-, hrest⟩ := Prod.mk.inj h
      exact ih (Prod.ext rfl hrest)

/-! ### PLACE_AND_BOOK -/

theorem staysRight_placeBook (hg : Grounded s) (hspan : q.startMin < q.endMin) (hin : (s.room c.room).inTable = true)
    (hfree : s.blocker c.room none q.startMin q.endMin = none)
    (hclosed : (s.room c.room).closedFor q.startMin q.endMin = false) :
    StaysRight s (s.placeBook q f x pre rank c).state := by
  have hmade := staysRight_makeHostBooking (now := s.clock.minute) (note := f.note ≠ []) (form := f.order)
    (mk := placedBooking q f x (s.room c.room) c.room) hg (fun _ => rfl) hspan hin hfree hclosed
  unfold State.placeBook
  split <;> rename_i he <;> rw [he] at hmade
  · exact hmade
  · split <;> exact hmade

theorem staysRight_settlePlaced (hg : Grounded s) (hspan : e.inputs.startMin < e.inputs.endMin) (hself : e.client.self = none) :
    StaysRight s (s.settlePlaced e f x).state := by
  unfold State.settlePlaced
  dsimp only
  split
  · exact .refl s
  split
  · exact .refl s
  split
  · exact .refl s
  split
  · exact .refl s
  split
  · exact .refl s
  · rename_i hrecheck
    obtain ⟨hin, hclosed, hfree⟩ := of_recheck hrecheck
    exact staysRight_placeBook hg hspan hin (hself ▸ hfree) hclosed

end Sys2Proof.Machine
end

section
/-! SUPPORT. The sweep of a closing room and its searches leave the timetable right (R156 to R164). -/

namespace Sys2Proof.Machine

variable {s t u : State} {r : Nat} {b : Booking} {h : Handle} {e : QueueEntry} {x : Search} {c : Closure} {w : Sweep}

/-! ### Changes of the sweep without a search of its own -/

theorem sweepFree_of_placement (hs : s.timetable.SweepFree) (hp : t.placement = s.placement) : t.timetable.SweepFree := by
  unfold Timetable.SweepFree State.timetable
  rw [hp]
  exact hs

/-- Without a search of its own the sweep may go on as it likes. -/
theorem right_withSweep (hs : s.timetable.Right) (hfree : s.timetable.SweepFree) (hw : w.current = none → w.report = none) :
    ({ s with sweep := w } : State).timetable.Right := by
  rw [timetable_withSweepOf]
  exact hs.withSweep hfree fun hc => by rw [hw hc]; rfl

theorem report_of_idle (hs : s.timetable.Right) (hc : s.sweep.current = none) : s.sweep.report = none :=
  Option.not_isSome_iff_eq_none.mp (Bool.eq_false_iff.mp (hs.idle hc))

theorem staysRight_displaceCurrent (hfree : s.timetable.SweepFree) (hreport : s.sweep.report = none) (h : Handle) :
    StaysRight s (s.displaceCurrent h) := by
  intro hs
  unfold State.displaceCurrent
  dsimp only
  split
  · rename_i hadmitted
    obtain ⟨b, hb, hst⟩ := Option.any_eq_true _ _ |>.mp (Bool.and_eq_true_iff.mp hadmitted).1
    have hactive : b.state.active = true := by
      simp only [Bool.or_eq_true, decide_eq_true_eq] at hst
      rcases hst with (hst | hst) | hst <;> rw [hst] <;> rfl
    have hout := outside_displace s h.idx
    refine right_withSweep (staysRight_displace (bookingAt_of_find hb).1 hactive hs)
      (sweepFree_of_placement hfree (placement_of_outside hout)) fun _ => ?_
    rw [sweep_of_outside hout]
    exact hreport
  · exact right_withSweep hs hfree fun _ => hreport

theorem staysRight_endSweep (hfree : s.timetable.SweepFree) (c : Closure) : StaysRight s (s.endSweep c) := by
  intro hs
  have hidle : ({ s.setService s.sweep.room (afterSweep s.clock.minute c).1 (afterSweep s.clock.minute c).2 with
      sweep := .idle } : State).timetable.Right :=
    right_withSweep (staysRight_setService _ _ (.inl hfree) hs) hfree fun _ => rfl
  unfold State.endSweep
  dsimp only
  split
  · rwa [timetable_answer]
  · exact hidle

/-! ### A step of the sweep -/

/-- The sweep asks for the search of a booking of its closing room (R158). -/
theorem right_askSearch (hs : s.timetable.Right) (hsweeping : s.sweep.sweeping = true) (hcurrent : s.sweep.current = none)
    (hb : s.bookingAt b.handle.idx = some b) : ({ s.enqueue .sweep (.booking b.handle) (sweepInputs b) with
      sweep := { s.sweep with current := some (b.handle, .searching) } } : State).timetable.Right := by
  have hfree := hs.sweepFree (.inl hcurrent)
  have hnew := hs.enqueue (current := some (b.handle, .searching))
    (e := QueueEntry.line ⟨s.placement.nextId, .sweep, .booking b.handle, sweepInputs b, false⟩) rfl (fun hbook => nomatch hbook)
    (fun e he hsw => absurd ((hfree e he).symm.trans hsw) Bool.false_ne_true) (fun hn => nomatch hn)
    fun _ => ⟨hcurrent, hsweeping, hs.idle hcurrent, b.handle, rfl, rfl, fun p _ hp _ _ _ _ _ _ => ?_⟩
  · rw [timetable_withSweepOf, timetable_enqueue]
    exact hnew
  · obtain rfl : b.place = p := Option.some.inj ((slot_of_bookingAt hb).symm.trans hp)
    exact ⟨rfl, rfl⟩

theorem staysRight_sweepStep (hsweeping : s.sweep.sweeping = true) (hcurrent : s.sweep.current = none) :
    StaysRight s s.sweepStep := by
  intro hs
  have hfree := hs.sweepFree (.inl hcurrent)
  unfold State.sweepStep
  split
  · exact right_withSweep hs hfree fun _ => rfl
  · split
    · exact staysRight_endSweep hfree _ hs
    · rename_i b hfind
      obtain ⟨-, hb, -⟩ := mem_timelineOf hs (List.mem_of_find?_eq_some hfind)
      split
      · have hreport := report_of_idle hs hcurrent
        exact staysRight_displaceCurrent (s := { s with sweep := { s.sweep with current := some (b.handle, .deciding) } })
          hfree hreport _ (right_withSweep hs hfree fun hn => nomatch hn)
      · exact right_askSearch hs hsweeping hcurrent hb

theorem staysRight_takeReportOf {report : SweepReport} (hreport : s.sweep.report = some report) (h : Handle) :
    StaysRight s (s.takeReportOf h report) := by
  intro hs
  have hfree := hs.sweepFree (.inr (.inr (by simp [State.timetable, hreport])))
  have hcurrent : s.sweep.current ≠ none := fun hc => by
    rw [report_of_idle hs hc] at hreport
    exact nomatch hreport
  have hquiet {current : Option (Handle × SweepPhase)} {n m : Nat} : ({ s with sweep := { s.sweep with
      report := none, current := current, relocated := n, left := m } } : State).timetable.Right :=
    right_withSweep hs hfree fun _ => rfl
  have hgone : (State.displaceCurrent { s with sweep := { s.sweep with report := none, current := some (h, .deciding) } }
      h).timetable.Right :=
    staysRight_displaceCurrent (s := { s with sweep := { s.sweep with report := none, current := some (h, .deciding) } })
      hfree rfl h hquiet
  unfold State.takeReportOf
  dsimp only
  split
  · exact hquiet
  · exact hgone
  · exact hgone
  · exact hquiet

/-! ### The settling of a sweep's search -/

theorem of_completed {kind : SearchKind} (h : s.completed kind = some (x, e)) : e ∈ s.placement.queue ∧ e.kind = kind := by
  unfold State.completed at h
  split at h
  · cases h
  split at h
  · cases h
  rename_i hfind
  split at h
  · rename_i hc
    cases h
    exact ⟨List.mem_of_find?_eq_some hfind, hc.2⟩
  · cases h

theorem eq_of_length_le_one {α : Type} {l : List α} {y z : α} (hl : l.length ≤ 1) (hy : y ∈ l) (hz : z ∈ l) : y = z := by
  rcases l with - | ⟨w, - | ⟨v, l⟩⟩
  · exact nomatch hy
  · rw [List.mem_singleton.mp hy, List.mem_singleton.mp hz]
  · simp at hl

/-- With the sweep's only search gone, none is left. -/
theorem sweepFree_dequeue (hs : s.timetable.Right) (he : e ∈ s.placement.queue) (hk : e.kind = .sweep) :
    (s.dequeue e.id).timetable.SweepFree := by
  intro l hl
  obtain ⟨y, hy, rfl⟩ := List.mem_map.mp hl
  obtain ⟨hy, hne⟩ := List.mem_filter.mp hy
  refine Bool.eq_false_iff.mpr fun hsw => ?_
  obtain ⟨-, -, -, -, -, hsingle, -⟩ := parts_of_right hs
  rw [List.countP_eq_length_filter] at hsingle
  have hmem {z : QueueEntry} (hz : z ∈ s.placement.queue) (hzk : z.kind = .sweep) :
      z ∈ s.placement.queue.filter fun e => decide (e.kind = .sweep) := List.mem_filter.mpr ⟨hz, decide_eq_true hzk⟩
  have heq : y = e := eq_of_length_le_one hsingle (hmem hy (of_decide_eq_true hsw)) (hmem he hk)
  exact of_decide_eq_true hne (congrArg QueueEntry.id heq)

/-- A relocation is asked for into a room that has the span free of a booking standing in the closing room. -/
theorem staysRight_askRelocation (hin : (s.room r).inTable = true)
    (hspan : ∀ b c, s.bookingAt h.idx = some b → b.handle = h → b.room = s.sweep.room →
      b.state = .booked ∨ b.state = .awaiting → (s.room s.sweep.room).closure = some c → c.holds b = true →
      s.timetable.FreeBut h r b.startMin b.endMin ∧ s.timetable.Clear r b.startMin b.endMin) :
    StaysRight s (s.askRelocation h r).1 := by
  intro hs
  unfold State.askRelocation
  split
  · exact hs
  · rename_i b hb
    dsimp only
    split
    · rename_i hcond
      obtain ⟨hst, hon, hcl⟩ := hcond
      obtain ⟨c, hc, hholds⟩ := Option.any_eq_true _ _ |>.mp hcl
      obtain ⟨b', hb', -, hh, hroom, -⟩ := member_of_right hs (of_decide_eq_true hon)
      obtain rfl : b = b' := Option.some.inj ((bookingAt_of_find hb).1.symm.trans hb')
      obtain ⟨hfree, hclear⟩ := hspan b c hb' hh hroom hst hc hholds
      subst hh
      exact right_relocate hs hb' hst hin hfree hclear _
    · exact hs

theorem staysRight_settleSweep (hself : e.client = .booking h)
    (hspan : ∀ b c, s.bookingAt h.idx = some b → b.handle = h → b.room = s.sweep.room →
      b.state = .booked ∨ b.state = .awaiting → (s.room s.sweep.room).closure = some c → c.holds b = true →
      e.inputs.startMin = b.startMin ∧ e.inputs.endMin = b.endMin) : StaysRight s (s.settleSweep e x h).1 := by
  intro hs
  unfold State.settleSweep
  split
  · exact hs
  · rename_i hrecheck
    obtain ⟨hin, hclosed, hblocker⟩ := of_recheck hrecheck
    rw [client_self.mpr hself] at hblocker
    refine staysRight_askRelocation hin (fun b c hb hh hr hst hc hholds => ?_) hs
    obtain ⟨hstart, hend⟩ := hspan b c hb hh hr hst hc hholds
    rw [← hstart, ← hend]
    exact ⟨freeBut_of_blocker hs hblocker, clear_of_not_closed hclosed⟩

/-- The sweep's search leaves the queue, and its settling reports (R83). -/
theorem right_sweepCompletion (hs : s.timetable.Right) (he : e ∈ s.placement.queue) (hk : e.kind = .sweep)
    (hc : e.client = .booking h) (report : SweepReport) : ({ ((s.dequeue e.id).settleSweep e x h).1 with
      sweep := { ((s.dequeue e.id).settleSweep e x h).1.sweep with report := some report } } : State).timetable.Right := by
  obtain ⟨-, -, k, hself, hcurrent, hspan⟩ := hs.sweeps _ (line_mem he) (decide_eq_true hk)
  obtain rfl : h = k := Option.some.inj ((client_self.mpr hc).symm.trans hself)
  have hout := outside_settleSweep (s.dequeue e.id) e x h
  have hsettled : ((s.dequeue e.id).settleSweep e x h).1.timetable.Right := by
    refine staysRight_settleSweep hc (fun b c hb hh hr hst hcl hholds => ?_) (staysRight_dequeue s e.id hs)
    have hover : b.startMin < c.toMin ∧ c.fromMin < b.endMin := by
      simpa [Closure.holds, overlap] using hholds
    exact sweepSpan_iff.mp hspan b c hb hh hr hst hcl hover.1 hover.2
  refine right_withSweep hsettled (sweepFree_of_placement (sweepFree_dequeue hs he hk) (placement_of_outside hout)) fun hn => ?_
  have hcur : ((s.dequeue e.id).settleSweep e x h).1.sweep.current = some (h, .searching) := by
    rw [sweep_of_outside hout]
    exact hcurrent
  exact nomatch hcur.symm.trans hn

/-! ### CLOSE_ROOM and REOPEN_ROOM -/

theorem staysRight_beginSweep (hidle : s.sweep.sweeping = false) (f : CloseForm) (clamp : Option Booking) (ref : HostRef) :
    StaysRight s (s.beginSweep f clamp ref) := by
  intro hs
  have hfree := hs.sweepFree (.inr (.inl hidle))
  exact right_withSweep (s := s.setService f.room .closing _) (staysRight_setService _ _ (.inl hfree) hs) hfree fun _ => rfl

theorem staysRight_closeRoom (f : CloseForm) (ref : HostRef) : StaysRight s (leftLater (s.closeRoom f ref)) := by
  unfold State.closeRoom
  split
  · exact .refl s
  split
  · exact .refl s
  split
  · exact .refl s
  split
  · exact .refl s
  split
  · exact .refl s
  split
  · exact .refl s
  split
  · exact .refl s
  rename_i hsweeping
  have hidle := Bool.eq_false_iff.mpr hsweeping
  split
  · split
    · exact .refl s
    · exact (staysRight_beginSweep hidle f _ ref : StaysRight s (s.beginSweep f _ ref))
  · exact (staysRight_beginSweep hidle f _ ref : StaysRight s (s.beginSweep f _ ref))

theorem staysRight_reopenRoom (r : Nat) : StaysRight s (s.reopenRoom r).state := by
  unfold State.reopenRoom
  repeat' split
  any_goals exact .refl s
  exact staysRight_setService _ _ (.inr fun _ h => nomatch h)

end Sys2Proof.Machine
end

section
/-! SUPPORT. The Series Unit, the retirement walk and the catch-up walk leave the timetable right (R29, R30, R57 to R66, R184,
R185). -/

namespace Sys2Proof.Machine

variable {s t u : State} {i id day now target lapseBefore fuel : Nat} {b : Booking} {x : Series} {k : Taken}

/-! ### The list of series -/

theorem timetable_setSeries {o : Option Series} (ho : s.series.list[id]? = some o) (p : Option Series) :
    ({ s with series := { s.series with list := s.series.list.set id p } } : State).timetable =
      s.timetable.withSeries id (p.map Series.line) := by
  have hid : id < s.series.list.length := (List.getElem?_eq_some_iff.mp ho).1
  simp only [State.timetable, Timetable.withSeries, Timetable.mk.injEq, and_self, and_true]
  refine ⟨rfl, rfl, funext fun j => ?_⟩
  simp only [State.seriesAt, List.getElem?_set]
  by_cases hj : id = j
  · subst hj
    rw [if_pos rfl, if_pos hid, if_pos rfl]
    rfl
  · rw [if_neg hj, if_neg (Ne.symm hj)]

theorem timetable_writeSeries {f : Series → Series} (hx : s.seriesAt id = some x) :
    (s.modSeries id f).timetable = s.timetable.withSeries id (some (f x).line) := by
  simp only [State.timetable, Timetable.withSeries, Timetable.mk.injEq]
  refine ⟨rfl, rfl, funext fun j => ?_, rfl, rfl, rfl, rfl, rfl, rfl⟩
  by_cases hj : id = j
  · subst hj
    rw [State.seriesAt_modSeries_same, hx, if_pos rfl]
    rfl
  · rw [State.seriesAt_modSeries_other hj, if_neg (Ne.symm hj)]

theorem series_of_right (hs : s.timetable.Right) (hx : s.seriesAt id = some x) (hst : x.state ≠ .finished) :
    (s.room x.room).inTable = true ∧ 1 ≤ x.length :=
  hs.series id x.line (Option.map_eq_some_iff.mpr ⟨x, hx, rfl⟩) (decide_eq_true hst)

/-- A series keeps its room and length and does not come back from FINISHED. -/
theorem staysRight_modSeries {f : Series → Series} (hf : ∀ x, s.seriesAt id = some x → (f x).state ≠ .finished →
    x.state ≠ .finished ∧ (f x).room = x.room ∧ (f x).length = x.length) : StaysRight s (s.modSeries id f) := by
  intro hs
  cases hx : s.seriesAt id with
  | none => rwa [timetable_modSeries_of_line s fun x h => nomatch hx.symm.trans h]
  | some x =>
    rw [timetable_writeSeries hx]
    refine hs.withSeries fun q hq hlive => ?_
    obtain rfl := Option.some.inj hq
    obtain ⟨hst, hroom, hlen⟩ := hf x hx (of_decide_eq_true hlive)
    change (s.room (f x).room).inTable = true ∧ 1 ≤ (f x).length
    rw [hroom, hlen]
    exact series_of_right hs hx hst

theorem staysRight_advance (s : State) (id : Nat) : StaysRight s (s.modSeries id Series.advance) :=
  staysRight_modSeries fun x _ hst => by
    refine ⟨fun hfin => hst ?_, rfl, rfl⟩
    simp [Series.advance, hfin]

theorem staysRight_retireSeries (hx : s.seriesAt id = some x) : StaysRight s (s.retireSeries id x) := by
  intro hs
  obtain ⟨o, ho, -⟩ : ∃ o, s.series.list[id]? = some o ∧ o = some x := by
    simpa [State.seriesAt, Option.join_eq_some_iff] using hx
  have heq : (s.retireSeries id x).timetable = s.timetable.withSeries id none := by
    rw [(retireSeries_keeps s id x).1]
    exact timetable_setSeries ho none
  rw [heq]
  exact hs.withSeries fun _ h => nomatch h

/-! ### Occurrences -/

/-- An occurrence is made where the closure and the freedom test leave its span (R60). -/
theorem staysRight_materialise (hg : Grounded s) (hin : (s.room x.room).inTable = true) (hlen : 1 ≤ x.length) :
    StaysRight s (s.materialise now id x).1 := by
  intro hs
  unfold State.materialise
  dsimp only
  split
  · rwa [timetable_skipOccurrence]
  rename_i hskip
  obtain ⟨hclosed, hfree⟩ := not_or.mp hskip
  split
  · rwa [timetable_skipOccurrence]
  · rename_i s1 k hk
    have hnew := recorded_takeRecord (b := occurrence k id x (s.room x.room)) hg hk rfl
    refine staysRight_handleStart _ _ (hnew.seat hs rfl (Nat.lt_add_of_pos_right hlen) hin ?_ (fun _ => ?_) ?_)
    · exact free_of_blocker hs (Option.not_isSome_iff_eq_none.mp hfree)
    · exact clear_of_not_closed (Bool.eq_false_iff.mpr hclosed)
    · split
      · exact timetable_planPart ..
      · rfl

theorem staysRight_one {d : Dealt} (hg : Grounded d.state) (hx : d.state.seriesAt id = some x) (hst : x.state ≠ .finished) :
    StaysRight d.state (d.one now lapseBefore id x).state := by
  intro hs
  obtain ⟨hin, hlen⟩ := series_of_right hs hx hst
  have hmade := staysRight_materialise (now := now) (id := id) hg hin hlen hs
  unfold Dealt.one
  split
  · exact staysRight_advance _ _ hs
  · split <;> rename_i hm <;> rw [hm] at hmade <;> exact staysRight_advance _ _ hmade

theorem staysRight_upTo (fuel : Nat) : ∀ {d : Dealt}, Grounded d.state →
    StaysRight d.state (Dealt.upTo now target lapseBefore id fuel d).state := by
  induction fuel with
  | zero => exact fun _ => .refl _
  | succ fuel ih =>
    intro d hg
    unfold Dealt.upTo
    split
    · exact .refl _
    · rename_i x hx
      split
      · rename_i hdue
        exact (staysRight_one hg hx (by rw [hdue.1]; decide)).trans (ih (hg.conserves (conserves_one ..)))
      · exact .refl _

theorem staysRight_dealSeries (hg : Grounded s) : StaysRight s (s.dealSeries now target lapseBefore id).state :=
  staysRight_upTo (d := ⟨s, 0, [], 0⟩) _ hg

/-! ### Requests -/

theorem staysRight_placeSeries {f : SeriesForm} (hg : Grounded s) (hin : (s.room f.room).inTable = true)
    (hlen : 5 ≤ ceilGrid f.length) : StaysRight s (s.placeSeries f).state := by
  intro hs
  unfold State.placeSeries
  split
  · exact hs
  rename_i id hid
  dsimp only
  split
  · exact hs
  rename_i s1 blocks ha
  have hs1 := timetable_allocate ha
  have hempty : s1.series.list[id]? = some none := by
    obtain ⟨-, -, -, hkeeps⟩ := allocate_some ha
    have hsame : s1.series = s.series := by rw [hkeeps]
    obtain ⟨hlt, hnone, -⟩ := List.findIdx?_eq_some_iff_getElem.mp hid
    rw [hsame, List.getElem?_eq_getElem hlt, Option.isNone_iff_eq_none.mp hnone]
  refine staysRight_dealSeries (hg.conserves (conserves_storeSeries hid ha)) ?_
  rw [timetable_setSeries hempty, hs1]
  refine hs.withSeries fun q hq _ => ?_
  obtain rfl := Option.some.inj hq
  exact ⟨hin, Nat.le_trans (by decide) hlen⟩

theorem staysRight_createSeries (hg : Grounded s) (f : SeriesForm) : StaysRight s (s.createSeries f).state := by
  unfold State.createSeries
  split
  · exact .refl s
  split
  · exact .refl s
  split
  · exact .refl s
  split
  · exact .refl s
  rename_i hin
  split
  · exact .refl s
  split
  · exact .refl s
  rename_i hrange
  split
  · exact .refl s
  split
  · exact .refl s
  exact staysRight_placeSeries hg (by simpa using hin) (Nat.not_lt.mp fun h => hrange (.inl h))

/-- RESUME_SERIES deals with the occurrences of a series that is ACTIVE again (R66). -/
theorem staysRight_resume (hg : Grounded s) (hx : s.seriesAt id = some x) (hst : x.state = .suspended) :
    StaysRight s ((s.modSeries id fun x => { x with state := .active, noShows := 0 }).dealSeries now target lapseBefore
      id).state := by
  have hactive : StaysRight s (s.modSeries id fun x => { x with state := .active, noShows := 0 }) :=
    staysRight_modSeries fun y hy _ => by
      obtain rfl := Option.some.inj (hx.symm.trans hy)
      exact ⟨by rw [hst]; decide, rfl, rfl⟩
  have hground : Grounded (s.modSeries id fun x => { x with state := .active, noShows := 0 }) :=
    hg.ledger (ledger_modSeries s (f := fun x => { x with state := .active, noShows := 0 }) (fun _ => rfl) id)
  exact hactive.trans (staysRight_dealSeries hground)

/-! ### Walks over the directory -/

theorem staysRight_passStep (p : CancelPass) : StaysRight s (s.passStep p) := by
  have hvisit : StaysRight s (s.passVisit p.series p.entry) := by
    unfold State.passVisit
    split
    · rename_i b hb
      split
      · exact staysRight_cancelOccurrence hb
      · exact .refl s
    · exact .refl s
  unfold State.passStep
  dsimp only
  split
  · exact hvisit.timetable (timetable_withSeries _ rfl)
  · refine hvisit.timetable ((timetable_beginPass _).trans ((timetable_withSeries _ rfl).trans ?_))
    exact timetable_modSeries _ (f := fun x => { x with passOwed := false }) (fun _ => rfl) _

theorem staysRight_retireVisit (day i : Nat) : StaysRight s (s.retireVisit day i) := by
  unfold State.retireVisit
  split
  · rename_i b hb
    split
    · rename_i hr
      obtain ⟨hst, -⟩ := retirable_iff.mp hr
      exact staysRight_retire hb (by rcases hst with h | h | h | h <;> rw [h] <;> rfl)
    · exact .refl s
  · exact .refl s

theorem staysRight_seriesVisit (id : Nat) : StaysRight s (s.seriesVisit id) := by
  unfold State.seriesVisit
  split
  · rename_i x hx
    split
    · exact staysRight_retireSeries hx
    · exact .refl s
  · exact .refl s

/-! ### The catch-up walk -/

theorem staysRight_catchUpClosure {r minute : Nat} {c : Closure} (hc : (s.room r).closure = some c) :
    StaysRight s (s.catchUpClosure minute r c) := by
  have hkept (st : ServiceState) : StaysRight s (s.setService r st (some c)) :=
    staysRight_setService r st (.inr fun _ h => hc.trans h)
  unfold State.catchUpClosure
  split
  · exact staysRight_setService _ _ (.inr fun _ h => nomatch h)
  split
  · split
    · exact hkept _
    · exact .refl s
  · exact hkept _

theorem staysRight_inUseUnknown (hb : s.bookingAt b.handle.idx = some b) (ha : b.state.active = true) :
    StaysRight s (s.inUseUnknown b) :=
  (staysRight_engage hb ha rfl).timetable (timetable_reportRoom _ _)

theorem staysRight_catchUpBooking (hb : s.bookingAt i = some b) (now : Nat) : StaysRight s (s.catchUpBooking now b) := by
  intro hs
  obtain rfl := idx_of_right hs hb
  unfold State.catchUpBooking
  dsimp only
  split
  · rename_i hst
    have ha : b.state.active = true := by rw [hst]; rfl
    split
    · exact hs
    split
    · split
      · exact staysRight_inUseUnknown hb ha hs
      · exact (staysRight_engage hb ha rfl).timetable (timetable_reportRoom _ _) hs
    split
    · exact staysRight_endBooking _ _ hs
    · exact staysRight_endBooking _ _ hs
  · rename_i hst
    split
    · exact staysRight_inUseUnknown hb (by rw [hst]; rfl) hs
    · exact staysRight_endBooking _ _ hs
  · split
    · exact hs
    · exact staysRight_endBooking _ _ hs
  all_goals exact hs

end Sys2Proof.Machine
end

section
/-! SUPPORT. Rooms, check-ins, services at the room and the resets leave the timetable right (R3, R4, R91 to R98, R124 to R131,
R182). -/

namespace Sys2Proof.Machine

variable {s t u : State} {i r n a e m now wanted ask : Nat} {b x : Booking} {h : Handle} {l : List Booking} {src : PanelRef}
  {rec_ : Room}

/-! ### Rooms -/

/-- A room record is stored: its timeline and closure are kept, or gone, and its turnover fits its bookings. -/
theorem staysRight_storeRoom (htl : rec_.timeline = (s.room r).timeline)
    (hap : s.timetable.Right → (s.room r).timeline.Pairwise (s.timetable.Apart rec_.turnover)) (hin : rec_.inTable = true)
    (hclosure : ∀ c, rec_.closure = some c → (s.room r).closure = some c) : StaysRight s (s.storeRoom r rec_) := by
  intro hs
  have heq : (s.storeRoom r rec_).timetable = _ := (timetable_reportRoom _ _).trans (timetable_writeRoom s r fun _ => rec_)
  rw [heq]
  split
  · exact hs.withRoom htl (hap hs) (fun _ => hin) (fun _ _ _ _ _ => hin) fun _ => hclosure
  · exact hs

theorem spaced_of_tightPair (hspan : ∀ b ∈ l, b.startMin < b.endMin) (h : tightPair n l = none) : spaced n l := by
  induction l with
  | nil => trivial
  | cons x l ih =>
    cases l with
    | nil => trivial
    | cons y l =>
      have hx := hspan x List.mem_cons_self
      unfold tightPair at h
      split at h
      · exact ⟨by omega, by omega, ih (fun b hb => hspan b (List.mem_cons_of_mem x hb)) h⟩
      · cases h

/-- The turnover that SET_ROOM accepts fits between the bookings of the room (R3). -/
theorem apart_of_accepted {old new : Nat} (hs : s.timetable.Right) (hold : (s.room r).turnover = old)
    (h : (if old < new then tightPair new (s.timelineOf r) else none) = none) :
    (s.room r).timeline.Pairwise (s.timetable.Apart new) := by
  split at h
  · have hspan : ∀ b ∈ s.timelineOf r, b.startMin < b.endMin := fun b hb => (mem_timelineOf hs hb).2.2.2.2
    exact pairwise_timelineOf.mp ((spaced_iff_pairwise hspan).mp (spaced_of_tightPair hspan h))
  · rename_i hle
    refine (hs.apart r).imp fun hap x y hx hy => ?_
    have hgap := hap x y hx hy
    have hturn : (s.timetable.room r).turnover = old := hold
    omega

theorem staysRight_setRoom (f : RoomForm) : StaysRight s (s.setRoom f).state := by
  intro hs
  unfold State.setRoom
  dsimp only
  split
  · exact hs
  split
  · rename_i habsent
    have hempty : (s.room f.room).timeline = [] := by
      by_contra hne
      exact absurd (hs.rooms f.room hne) (Bool.not_eq_true _ ▸ Bool.not_eq_true' _ ▸ habsent)
    split
    · exact staysRight_storeRoom (rec_ := roomOver f s.policyRec.freshRoom) hempty.symm (fun _ => hempty ▸ .nil) rfl
        (fun _ h => nomatch h) hs
    · exact hs
  rename_i hin
  split
  · exact hs
  split
  · exact hs
  split
  · exact hs
  · rename_i htight
    exact staysRight_storeRoom (rec_ := roomOver f (s.room f.room)) rfl (fun hs => apart_of_accepted hs rfl htight)
      (show (s.room f.room).inTable = true by simpa using hin) (fun _ h => h) hs

/-- A room leaves the table with no booking and no series naming it (R4). -/
theorem staysRight_removeRoom (htl : (s.room r).timeline = []) (hn : s.seriesNames r = false) : StaysRight s
    ((s.modRoom r fun x => { x with inTable := false, closure := none, noShow := 0 }).reportRoom r) := by
  intro hs
  have heq := (timetable_reportRoom _ r).trans
    (timetable_writeRoom s r fun x => { x with inTable := false, closure := none, noShow := 0 })
  rw [heq]
  split
  · have htl' : (s.timetable.room r).timeline = [] := htl
    refine hs.withRoom rfl (htl' ▸ .nil) (fun hne => absurd htl hne) (fun id p hp hlive hpr => ?_) fun _ _ h => nomatch h
    obtain ⟨x, hx, rfl⟩ := Option.map_eq_some_iff.mp hp
    have hnames : s.seriesNames r = true := by
      refine List.any_eq_true.mpr ⟨some x, ?_, by simpa using ⟨hpr, of_decide_eq_true hlive⟩⟩
      obtain ⟨o, ho, rfl⟩ : ∃ o, s.series.list[id]? = some o ∧ o = some x := by
        simpa [State.seriesAt, Option.join_eq_some_iff] using hx
      exact List.mem_of_getElem? ho
    exact absurd (hn.symm.trans hnames) Bool.false_ne_true
  · exact hs

/-! ### Check-ins and readings -/

theorem bookingAt_of_panelBooking {h : Option Handle} (hs : s.timetable.Right) (hb : s.panelBooking h = some b) :
    s.bookingAt b.handle.idx = some b := by
  obtain ⟨k, -, hf⟩ := Option.bind_eq_some_iff.mp hb
  exact bookingAt_of_found hs hf

theorem staysRight_checkIn (src : PanelRef) (badge : Id32) (h : Option Handle) : StaysRight s (s.checkIn src badge h).1 := by
  intro hs
  unfold State.checkIn
  split
  · exact hs
  split
  · exact hs
  split
  · exact hs
  rename_i b hb
  split
  · exact hs
  split
  any_goals exact hs
  rename_i hst
  split
  · exact hs
  split
  · exact hs
  exact staysRight_checkInBooking (bookingAt_of_panelBooking hs hb) hst hs

theorem staysRight_autoCheckIn (r : Nat) (occupied : Bool) : StaysRight s (s.autoCheckIn r occupied) := by
  intro hs
  unfold State.autoCheckIn
  split
  · rename_i b hb
    split
    · rename_i hc
      exact staysRight_checkInBooking (mem_timelineOf hs (List.mem_of_head? hb)).2.1 hc.2.2.1 hs
    · exact hs
  · exact hs

theorem staysRight_takeReading (r : Nat) (occupied : Bool) (n : Nat) : StaysRight s (s.takeReading r occupied n) := by
  unfold State.takeReading
  split
  · exact .refl s
  dsimp only
  split
  · split
    · exact .of_timetable (timetable_dropChannel ..)
    split
    · exact .of_timetable (timetable_modChannel ..)
    split
    · exact StaysRight.trans (.of_timetable (timetable_modChannel ..)) (staysRight_expireWatch _)
    · exact .of_timetable (timetable_modChannel ..)
  · exact .refl s

theorem timetable_suspendIn (s : State) (r c : Nat) : (s.suspendIn r c).timetable = s.timetable := by
  unfold State.suspendIn
  split <;> rfl

theorem staysRight_resumeIn (r c : Nat) : StaysRight s (s.resumeIn r c) := by
  unfold State.resumeIn
  split
  · exact .refl s
  split
  · exact .refl s
  split
  · exact .of_timetable (timetable_modChannel ..)
  · exact StaysRight.trans (.of_timetable (timetable_modChannel ..)) (staysRight_expireIfDue _)

/-! ### Services at the room -/

theorem pairwise_either {α : Type} {R : α → α → Prop} {l : List α} {y z : α} (hl : l.Pairwise R) (hy : y ∈ l) (hz : z ∈ l)
    (hne : y ≠ z) : R y z ∨ R z y := by
  induction l with
  | nil => exact nomatch hy
  | cons w l ih =>
    obtain ⟨hw, hl⟩ := List.pairwise_cons.mp hl
    rcases List.mem_cons.mp hy with rfl | hyl
    · exact .inl (hw z ((List.mem_cons.mp hz).resolve_left (Ne.symm hne)))
    · rcases List.mem_cons.mp hz with rfl | hzl
      · exact .inr (hw y hyl)
      · exact ih hl hyl hzl

/-- A span that ends the turnover before the next start ends so before every later one. -/
theorem fits_before_next {p : Booking → Bool} (hl : l.Pairwise fun x y => x.endMin + n ≤ y.startMin)
    (hspan : ∀ y ∈ l, y.startMin < y.endMin) (he : 0 < e) (hx : l.find? p = some x) (hfit : e ≤ x.startMin - n) {y : Booking}
    (hy : y ∈ l) (hp : p y = true) : e + n ≤ y.startMin := by
  have hhead : (l.filter p).head? = some x := by rw [List.head?_filter, hx]
  rcases pairwise_head (hl.filter p) hhead (List.mem_filter.mpr ⟨hy, hp⟩) with rfl | hlt
  · omega
  · have := hspan x (List.mem_of_find?_eq_some hx)
    omega

theorem leastTerm_le (first : Term) (rest : List Term) :
    (leastTerm first rest).minute ≤ first.minute ∧ ∀ q ∈ rest, (leastTerm first rest).minute ≤ q.minute := by
  unfold leastTerm
  induction rest generalizing first with
  | nil => exact ⟨Nat.le_refl _, fun q hq => nomatch hq⟩
  | cons q rest ih =>
    rw [List.foldl_cons]
    obtain ⟨hfirst, hrest⟩ := ih (if q.minute < first.minute then q else first)
    have hmin : (if q.minute < first.minute then q else first).minute ≤ first.minute ∧
        (if q.minute < first.minute then q else first).minute ≤ q.minute := by
      split <;> omega
    exact ⟨hfirst.trans hmin.1, fun p hp => (List.mem_cons.mp hp).elim (fun h => h ▸ hfirst.trans hmin.2) (hrest p)⟩

theorem mem_termOf {code : Nat} {o : Option Nat} : (⟨code, m⟩ : Term) ∈ termOf code o ↔ o = some m := by
  cases o <;> simp [termOf, eq_comm]

theorem floorGrid_le (m : Nat) : floorGrid m ≤ m := Nat.sub_le ..

/-- The room is free for a walk-up from now to the end it gets (R124, R125). -/
theorem free_of_walkUp (hs : s.timetable.Right) (hturn : s.turnoverUntil r s.clock.minute = none)
    (hend : s.clock.minute + 15 ≤ floorGrid (s.walkUpTerm r wanted).minute) :
    s.timetable.Free r s.clock.minute (floorGrid (s.walkUpTerm r wanted).minute) := by
  have hpairs := pairwise_of_right hs r
  have hspans : ∀ y ∈ s.timelineOf r, y.startMin < y.endMin := fun y hy => (mem_timelineOf hs hy).2.2.2.2
  intro k hk p hp
  obtain ⟨y, hyk, hy, -⟩ := member_of_right hs hk
  obtain rfl : y.place = p := Option.some.inj ((slot_of_bookingAt hyk).symm.trans hp)
  change y.endMin + (s.room r).turnover ≤ _ ∨ _ + (s.room r).turnover ≤ y.startMin
  by_cases hlate : s.clock.minute < y.startMin
  · obtain ⟨z, hz⟩ := Option.isSome_iff_exists.mp
      (List.find?_isSome.mpr ⟨y, hy, decide_eq_true hlate⟩ : ((s.timelineOf r).find? fun b =>
        decide (s.clock.minute < b.startMin)).isSome = true)
    refine .inr (fits_before_next hpairs hspans (by omega) hz ?_ hy (decide_eq_true hlate))
    refine (floorGrid_le _).trans ((leastTerm_le ..).2 ⟨1, z.startMin - (s.room r).turnover⟩ ?_)
    refine List.mem_append_left _ (mem_termOf.mpr ?_)
    rw [hz]
    rfl
  · have hmem : y ∈ (s.timelineOf r).filter fun b => b.startMin ≤ s.clock.minute :=
      List.mem_filter.mpr ⟨hy, decide_eq_true (Nat.not_lt.mp hlate)⟩
    obtain ⟨z, hz⟩ := Option.ne_none_iff_exists'.mp fun hn => List.ne_nil_of_mem hmem (List.getLast?_eq_none_iff.mp hn)
    have hzend : z.endMin + (s.room r).turnover ≤ s.clock.minute := by
      simpa [State.turnoverUntil, hz, Option.filter] using hturn
    have hzspan := hspans z (List.mem_filter.mp (List.mem_of_getLast? hz)).1
    rcases pairwise_last (hpairs.filter _) hz hmem with rfl | hyz
    · exact .inl hzend
    · exact .inl (by omega)

theorem staysRight_walkUpIn (hg : Grounded s) (hin : (s.room r).inTable = true) (badge : Id32) :
    StaysRight s (s.walkUpIn r wanted badge).1 := by
  intro hs
  unfold State.walkUpIn
  dsimp only
  split
  · exact hs
  split
  · exact hs
  · exact hs
  rename_i hturn
  split
  · exact hs
  split
  · exact hs
  rename_i hend
  have hend := Nat.not_lt.mp hend
  unfold State.makeWalkUp
  split
  · exact hs
  · rename_i s1 k hk
    have hnew := recorded_takeRecord (b := walkUpBooking k (s.room r) r s.clock.minute
      (floorGrid (s.walkUpTerm r wanted).minute) badge) hg hk rfl
    exact hnew.seat hs rfl (Nat.lt_of_lt_of_le (Nat.lt_add_of_pos_right (by decide)) hend) hin
      (free_of_walkUp hs hturn hend) (fun hm => nomatch hm) rfl

theorem staysRight_extendBooking (hb : s.bookingAt b.handle.idx = some b) (hst : b.state = .inUse) (ask : Nat) :
    StaysRight s (s.extendBooking b ask).1 := by
  intro hs
  have hspan : b.startMin < b.endMin :=
    hs.spans _ _ (slot_of_bookingAt hb) (footing_ne_past.mpr (.inl (by rw [hst]; rfl)))
  have hspans : ∀ y ∈ s.timelineOf b.room, y.startMin < y.endMin := fun y hy => (mem_timelineOf hs hy).2.2.2.2
  unfold State.extendBooking
  dsimp only
  split
  · exact hs
  rename_i hend
  have hend := Nat.not_lt.mp hend
  refine right_writeEnd hs hb hst (by omega) fun k hk hne p hp => ?_
  obtain ⟨y, hyk, hy, hyh, -⟩ := member_of_right hs hk
  obtain rfl : y.place = p := Option.some.inj ((slot_of_bookingAt hyk).symm.trans hp)
  have hbmem : b ∈ s.timelineOf b.room := by
    have hstands := (hs.stands b.room b.handle).mpr (stands_iff.mpr ⟨b, hb, rfl, rfl, by rw [hst]; rfl⟩)
    exact List.mem_filterMap.mpr ⟨b.handle, hstands, hb⟩
  have hyb : y ≠ b := fun heq => hne (hyh.symm.trans (congrArg Booking.handle heq))
  have hpairs := pairwise_of_right hs b.room
  have hcase : y.endMin + (s.room b.room).turnover ≤ b.startMin ∨ b.endMin + (s.room b.room).turnover ≤ y.startMin :=
    pairwise_either hpairs hy hbmem hyb
  refine hcase.imp_right fun hafter => ?_
  have hlate : b.startMin < y.startMin := by omega
  obtain ⟨z, hz⟩ := Option.isSome_iff_exists.mp
    (List.find?_isSome.mpr ⟨y, hy, decide_eq_true hlate⟩ : ((s.timelineOf b.room).find? fun x =>
      decide (b.startMin < x.startMin)).isSome = true)
  refine fits_before_next hpairs hspans (by omega) hz ?_ hy (decide_eq_true hlate)
  refine (floorGrid_le _).trans ((leastTerm_le ..).2 ⟨1, z.startMin - (s.room b.room).turnover⟩ ?_)
  refine List.mem_append_left _ (List.mem_append_left _ (mem_termOf.mpr ?_))
  rw [hz]
  rfl

/-! ### Resets -/

/-- A warm reset drops every search and the sweep (R85, R166). -/
theorem timetable_warm (s : State) : s.warm.timetable = { s.timetable with
    queue := [], sweeping := false, sweepRoom := 0, current := none, reported := false } := by
  have hsweep (u : State) : u.abandonSweep.timetable = { u.timetable with
      sweeping := false, sweepRoom := 0, current := none, reported := false } := by
    unfold State.abandonSweep
    split
    · refine (timetable_withSweepOf _ .idle).trans ?_
      rw [timetable_modRoom u (f := fun r => { r with service := .inService }) fun _ => rfl]
      rfl
    · rfl
  have hwalks (u : State) : u.abandonWalks.timetable = { u.timetable with queue := [] } := rfl
  have hblocks (u : State) : u.warmBlocks.timetable = u.timetable := rfl
  have hflags (u : State) : u.rederive.timetable = u.timetable := rfl
  rw [State.warm, hflags, timetable_warmPanels, hblocks, timetable_dropTimers, hwalks, hsweep, timetable_makeHolds]

theorem staysRight_warm : StaysRight s s.warm := by
  intro hs
  rw [timetable_warm]
  exact hs.withSearches List.nodup_nil (fun e he => nomatch he) (Nat.zero_le _) (fun e he => nomatch he)
    (fun e he => nomatch he) fun _ => rfl

theorem right_powerOn (s : State) : s.powerOn.timetable.Right := by
  have hslot (i : Nat) : s.powerOn.timetable.slot i = none := by
    change (State.reset.bookingAt i).map _ = none
    rw [bookingAt_reset]
    rfl
  have htl (r : Nat) : (s.powerOn.timetable.room r).timeline = [] := by
    have habsent : s.powerOn.room r = .absent := by simp [State.room, State.powerOn, State.reset]
    exact congrArg Room.timeline habsent
  have hseries (id : Nat) : s.powerOn.timetable.series id = none := by
    have hnone : s.powerOn.seriesAt id = none := by
      simp only [State.seriesAt, State.powerOn, State.reset, List.getElem?_replicate]
      split <;> rfl
    exact congrArg (Option.map Series.line) hnone
  exact
    { idx := fun i x hx => nomatch (hslot i).symm.trans hx
      apart := fun r => (htl r).symm ▸ .nil
      nodup := fun r => (htl r).symm ▸ .nil
      stands := fun r h => by
        rw [htl]
        exact ⟨fun hh => (nomatch hh), fun ⟨x, hx, _⟩ => nomatch (hslot h.idx).symm.trans hx⟩
      spans := fun i x hx => nomatch (hslot i).symm.trans hx
      rooms := fun r hne => absurd (htl r) hne
      series := fun id p hp => nomatch (hseries id).symm.trans hp
      ids := .nil
      fresh := fun e he => nomatch he
      single := Nat.zero_le _
      books := fun e he => nomatch he
      sweeps := fun e he => nomatch he
      idle := fun _ => rfl }

end Sys2Proof.Machine
end

section
/-! SUPPORT. Every command that is no request leaves the timetable right. -/

namespace Sys2Proof.Machine

variable {s t u : State} {tag : Byte} {kind : Nat} {cmd : Instr}

/-! ### Outcomes -/

/-- A command's outcome leaves the timetable right, where the directory agrees with its FIFO. -/
def StaysRightOutcome (s : State) (o : Outcome) : Prop := ∀ t, o = .next t → Grounded s → StaysRight s t

theorem StaysRightOutcome.same (s : State) : StaysRightOutcome s (.next s) := by
  intro t h _
  cases h
  exact .refl s

theorem StaysRightOutcome.done (h : StaysRight s u) : StaysRightOutcome s (done u) := by
  intro t ht _
  cases ht
  exact h.timetable (timetable_followAttn u)

theorem StaysRightOutcome.doneLists (h : StaysRight s u) (v : State) : StaysRightOutcome s (doneLists v u) :=
  .done (h.timetable (timetable_relist u v))

theorem StaysRightOutcome.done_of_timetable (h : u.timetable = s.timetable) : StaysRightOutcome s (Machine.done u) :=
  .done (.of_timetable h)

theorem StaysRightOutcome.doneLists_of_timetable (v : State) (h : u.timetable = s.timetable) :
    StaysRightOutcome s (Machine.doneLists v u) := .doneLists (.of_timetable h) v

theorem StaysRightOutcome.grounded {o : Outcome} (h : Grounded s → StaysRightOutcome s o) : StaysRightOutcome s o :=
  fun t ht hg => h hg t ht hg

theorem staysRight_hostNow {owner : State → Reply} (h : ∀ u, Grounded u → StaysRight u (owner u).state) (s : State) :
    StaysRightOutcome s (hostNow tag kind cmd owner s) := by
  unfold hostNow
  split
  · exact .same s
  · rename_i u _ hu
    refine .grounded fun hg => .doneLists (.timetable ?_ (timetable_answer ..)) s
    exact StaysRight.trans (.of_timetable (timetable_takeRequest s hu)) (h u (hg.ledger (ledger_takeRequest s hu)))

/-- A request whose owner leaves the timetable. -/
theorem staysRight_hostNow_of_timetable {owner : State → Reply} (h : ∀ u, (owner u).state.timetable = u.timetable) (s : State) :
    StaysRightOutcome s (hostNow tag kind cmd owner s) := staysRight_hostNow (fun u _ => .of_timetable (h u)) s

theorem staysRight_hostLater {owner : HostRef → State → Reply ⊕ State}
    (h : ∀ ref u, StaysRight u (leftLater (owner ref u))) (s : State) : StaysRightOutcome s (hostLater tag kind cmd owner s) := by
  unfold hostLater
  split
  · exact .same s
  · rename_i u ref hu
    have hs := (StaysRight.of_timetable (timetable_takeRequest s hu)).trans (h ref u)
    split <;> rename_i he <;> rw [he] at hs
    · exact .doneLists (hs.timetable (timetable_answer ..)) s
    · exact .doneLists hs s

theorem staysRight_panelNow {src : PanelRef} {code : Nat} {owner : State → State × PanelAnswer}
    (h : ∀ u, Grounded u → StaysRight u (owner u).1) (s : State) : StaysRightOutcome s (panelNow src code cmd owner s) :=
  .grounded fun hg => .doneLists (StaysRight.timetable (StaysRight.trans (.of_timetable (timetable_takeHanded s cmd))
    (h _ (hg.ledger (ledger_takeHanded s cmd)))) (timetable_answerPanel ..)) s

theorem staysRight_panelNow_of_timetable {src : PanelRef} {code : Nat} {owner : State → State × PanelAnswer}
    (h : ∀ u, (owner u).1.timetable = u.timetable) (s : State) : StaysRightOutcome s (panelNow src code cmd owner s) :=
  staysRight_panelNow (fun u _ => .of_timetable (h u)) s

/-! ### Resets and the clock -/

theorem staysRight_execWarmReset (s : State) : StaysRightOutcome s (execWarmReset s) := by
  unfold execWarmReset
  split
  · exact .done staysRight_warm
  · exact .done fun _ => right_powerOn s

theorem staysRight_execSecEdge (n : Nat) (s : State) : StaysRightOutcome s (execSecEdge n s) := by
  unfold execSecEdge
  split
  · exact .same s
  · exact .done_of_timetable (timetable_countSecond _)
  · refine .done_of_timetable ?_
    split
    · exact timetable_countSecond _
    · rfl

theorem staysRight_execDividerTick (s : State) : StaysRightOutcome s (execDividerTick s) := by
  unfold execDividerTick
  split
  · exact .same s
  · split
    · exact .done_of_timetable rfl
    · exact .done_of_timetable (timetable_holdover s)
  · exact .done_of_timetable (timetable_countSecond s)

theorem staysRight_execEnterHoldover (s : State) : StaysRightOutcome s (execEnterHoldover s) := by
  unfold execEnterHoldover
  split
  · exact .done_of_timetable (timetable_holdover s)
  · exact .same s

theorem staysRight_execMinuteEvent (s : State) : StaysRightOutcome s (execMinuteEvent s) := by
  unfold execMinuteEvent
  split
  · exact .done_of_timetable (timetable_countSecond s)
  · exact .same s

/-! ### The link -/

theorem staysRight_execSend (bytes : List Byte) (s : State) : StaysRightOutcome s (execSend bytes s) :=
  .done_of_timetable (timetable_deliver s.beginTransfer bytes)

theorem staysRight_execLinkReset (s : State) : StaysRightOutcome s (execLinkReset s) :=
  .done_of_timetable (timetable_dropRequests s.beginTransfer)

theorem staysRight_execTakeRequestFrame (s : State) : StaysRightOutcome s (execTakeRequestFrame s) := by
  unfold execTakeRequestFrame
  split
  · exact .same s
  · split
    · exact .done_of_timetable (timetable_takeFrame ..)
    · exact .same s

/-! ### Seconds and minutes -/

theorem staysRight_execSecondEvent (s : State) : StaysRightOutcome s (execSecondEvent s) := by
  unfold execSecondEvent
  split
  · exact .same s
  · exact .doneLists staysRight_takeSecond s

theorem staysRight_execWindowExpiry (c : Nat) (s : State) : StaysRightOutcome s (execWindowExpiry c s) := by
  unfold execWindowExpiry
  split
  · exact .same s
  · split
    · exact .doneLists (staysRight_expireWindow c) s
    · split
      · exact .doneLists staysRight_takeSecond s
      · exact .same s

theorem staysRight_execAbsenceExpiry (c : Nat) (s : State) : StaysRightOutcome s (execAbsenceExpiry c s) := by
  unfold execAbsenceExpiry
  split
  · exact .same s
  · split
    · exact .doneLists (staysRight_expireWatch c) s
    · split
      · exact .doneLists staysRight_takeSecond s
      · exact .same s

/-- Taking an event owed leaves the timetable. -/
theorem staysRight_owed {f : State → State} (h : ∀ v, StaysRight v (f v)) (s : State) (w : Owed) :
    StaysRight s (f { s with owed := w }) := h { s with owed := w }

theorem staysRight_execStartsAndEnds (s : State) : StaysRightOutcome s (execStartsAndEnds s) := by
  unfold execStartsAndEnds
  split
  · exact .same s
  · rename_i m _ _
    exact .doneLists (staysRight_owed (f := fun v => v.startsAndEnds m) (fun _ => staysRight_startsAndEnds m) s _) s

theorem staysRight_execWindowOpening (s : State) : StaysRightOutcome s (execWindowOpening s) := by
  unfold execWindowOpening
  split
  · exact .same s
  · rename_i m _ _
    exact .doneLists (staysRight_owed (f := fun v => v.windowOpenings m) (fun _ => staysRight_windowOpenings m) s _) s

theorem staysRight_execCommit (s : State) : StaysRightOutcome s (execCommit s) := by
  unfold execCommit
  split
  · exact .same s
  · exact .doneLists_of_timetable s (timetable_commits ..)

theorem staysRight_execClosureTimes (s : State) : StaysRightOutcome s (execClosureTimes s) := by
  unfold execClosureTimes
  split
  · exact .same s
  · rename_i m _ _
    exact .done (staysRight_owed (f := fun v => v.closureTimes m) (fun _ => staysRight_closureTimes m) s _)

/-! ### Day walks -/

theorem staysRight_execRetirementWalk (s : State) : StaysRightOutcome s (execRetirementWalk s) := by
  unfold execRetirementWalk
  split
  · exact .same s
  · exact .done_of_timetable (timetable_retirementDay ..)

theorem staysRight_execMaterialisationWalk (s : State) : StaysRightOutcome s (execMaterialisationWalk s) := by
  unfold execMaterialisationWalk
  split
  · exact .same s
  · exact .done_of_timetable (timetable_materialisationDay ..)

theorem staysRight_execPlanningWalk (s : State) : StaysRightOutcome s (execPlanningWalk s) := by
  unfold execPlanningWalk
  split
  · exact .same s
  · exact .done_of_timetable (timetable_planningDay ..)

theorem staysRight_execRetirementWalkStep (s : State) : StaysRightOutcome s (execRetirementWalkStep s) := by
  unfold execRetirementWalkStep
  split
  · rename_i day i _
    have hv := staysRight_retireVisit (s := s) day i
    refine .doneLists ?_ s
    exact hv.timetable (timetable_withStore ..)
  · exact .same s

theorem staysRight_execSeriesPassStep (s : State) : StaysRightOutcome s (execSeriesPassStep s) := by
  unfold execSeriesPassStep
  split
  · rename_i id _
    have hv := staysRight_seriesVisit (s := s) id
    refine .done ?_
    split
    · exact hv.timetable (timetable_withStore ..)
    · exact hv.timetable (timetable_endRetirement ..)
  · exact .same s

theorem staysRight_execMaterialisationWalkStep (s : State) : StaysRightOutcome s (execMaterialisationWalkStep s) := by
  unfold execMaterialisationWalkStep
  split
  · exact .same s
  · rename_i w _
    refine .grounded fun hg => .doneLists ?_ s
    have hv : StaysRight s (s.materialiseVisit w.day w.id) := staysRight_dealSeries hg
    dsimp only
    split
    · exact hv.timetable (timetable_withSeries _ rfl)
    · exact hv.timetable (timetable_endMaterialisation ..)

theorem staysRight_execPlanningWalkStep (s : State) : StaysRightOutcome s (execPlanningWalkStep s) := by
  unfold execPlanningWalkStep
  split
  · exact .same s
  · split
    · exact .done_of_timetable (timetable_endPlanning ..)
    · split
      · exact .doneLists_of_timetable s (timetable_planHead ..)
      · exact .done_of_timetable rfl

theorem staysRight_execCancelPassStep (s : State) : StaysRightOutcome s (execCancelPassStep s) := by
  unfold execCancelPassStep
  dsimp only
  split
  · exact .same s
  · exact .doneLists (StaysRight.trans (.of_timetable (timetable_beginPass s)) (staysRight_passStep _)) s

/-! ### Searches and the sweep -/

theorem staysRight_execSearchTake (s : State) : StaysRightOutcome s (execSearchTake s) := by
  unfold execSearchTake
  split
  · rename_i e _ he
    exact .done (staysRight_take (List.mem_of_find?_eq_some he) _)
  · exact .same s

theorem staysRight_execPlacementWalkStep (s : State) : StaysRightOutcome s (execPlacementWalkStep s) := by
  unfold execPlacementWalkStep
  split
  · exact .same s
  · split
    · exact .same s
    · split
      · exact .same s
      · exact .done_of_timetable rfl

theorem staysRight_execPlaceCompletion (s : State) : StaysRightOutcome s (execPlaceCompletion s) := by
  unfold execPlaceCompletion
  split
  · exact .same s
  · rename_i e _
    dsimp only
    split
    · exact .done ((staysRight_dequeue s e.id).timetable (timetable_answer ..))
    · exact .done (staysRight_dequeue s e.id)
    · exact .done (staysRight_dequeue s e.id)

theorem staysRight_execPlaceAndBookCompletion (s : State) : StaysRightOutcome s (execPlaceAndBookCompletion s) := by
  unfold execPlaceAndBookCompletion
  split
  · exact .same s
  · rename_i x e hc
    split
    · rename_i ref f hclient hbook
      refine .grounded fun hg => .doneLists (.timetable (fun hs => ?_) (timetable_answer ..)) s
      have hspan := hs.books _ (line_mem (of_completed hc).1) (by simp [hbook])
      refine staysRight_settlePlaced (hg.ledger (ledger_dequeue s e.id)) hspan ?_ (staysRight_dequeue s e.id hs)
      rw [hclient]
      rfl
    · exact .done (staysRight_dequeue s e.id)

theorem staysRight_execFindNearbyCompletion (s : State) : StaysRightOutcome s (execFindNearbyCompletion s) := by
  unfold execFindNearbyCompletion
  split
  · exact .same s
  · rename_i e _
    dsimp only
    split
    · split
      · exact .done ((staysRight_dequeue s e.id).timetable (timetable_modPanel ..))
      · exact .done (staysRight_dequeue s e.id)
    · exact .done (staysRight_dequeue s e.id)
    · exact .done (staysRight_dequeue s e.id)

theorem staysRight_execSweepSearchCompletion (s : State) : StaysRightOutcome s (execSweepSearchCompletion s) := by
  unfold execSweepSearchCompletion
  split
  · exact .same s
  · rename_i x e hc
    obtain ⟨he, hk⟩ := of_completed hc
    dsimp only
    split
    · rename_i h hclient
      exact .doneLists (fun hs => right_sweepCompletion hs he hk hclient _) s
    · exact .done (staysRight_dequeue s e.id)
    · exact .done (staysRight_dequeue s e.id)

theorem staysRight_execWithdrawal (p n : Nat) (s : State) : StaysRightOutcome s (execWithdrawal p n s) := by
  unfold execWithdrawal
  dsimp only
  split
  · exact .done (StaysRight.trans (.of_timetable (timetable_takeHanded ..)) (staysRight_dequeue _ _))
  · exact .done_of_timetable (timetable_takeHanded ..)

theorem staysRight_execSweepStep (s : State) : StaysRightOutcome s (execSweepStep s) := by
  unfold execSweepStep
  split
  · rename_i h
    exact .doneLists (staysRight_sweepStep h.1 (Option.isNone_iff_eq_none.mp h.2)) s
  · exact .same s

theorem staysRight_execSweepReport (s : State) : StaysRightOutcome s (execSweepReport s) := by
  unfold execSweepReport
  split
  · rename_i hreport _
    exact .doneLists (staysRight_takeReportOf hreport _) s
  · exact .same s

/-! ### Panels -/

theorem staysRight_execDeferredViewBuild (p : Nat) (s : State) : StaysRightOutcome s (execDeferredViewBuild p s) := by
  unfold execDeferredViewBuild
  dsimp only
  split
  · exact .done_of_timetable (by simp)
  · exact .same s

theorem staysRight_execPoll (p : Nat) (s : State) : StaysRightOutcome s (execPoll p s) := by
  unfold execPoll
  split
  · exact .same s
  · split
    · exact .same s
    · exact .done_of_timetable (by simp)

theorem staysRight_execReply (p : Nat) (frame : List Byte) (s : State) : StaysRightOutcome s (execReply p frame s) := by
  unfold execReply
  dsimp only
  split
  · refine .done_of_timetable ?_
    split <;> simp
  · exact .same s

theorem staysRight_execFollowUpReply (p : Nat) (frame : List Byte) (s : State) :
    StaysRightOutcome s (execFollowUpReply p frame s) := by
  unfold execFollowUpReply
  dsimp only
  split
  · refine .done_of_timetable ?_
    split <;> simp
  · exact .same s

theorem staysRight_execReplyTimeout (p : Nat) (s : State) : StaysRightOutcome s (execReplyTimeout p s) := by
  unfold execReplyTimeout
  dsimp only
  split
  any_goals exact .same s
  all_goals exact .done_of_timetable (by simp)

theorem staysRight_execHoldTakesEffect (p : Nat) (s : State) : StaysRightOutcome s (execHoldTakesEffect p s) := by
  unfold execHoldTakesEffect
  split
  · exact .same s
  · split
    · exact .same s
    · exact .done_of_timetable (by simp)

theorem staysRight_execViewBuild (r : Nat) (s : State) : StaysRightOutcome s (execViewBuild r s) := by
  unfold execViewBuild
  dsimp only
  split
  · exact .done_of_timetable rfl
  · exact .done_of_timetable rfl

theorem staysRight_execListBuild (k : Nat) (s : State) : StaysRightOutcome s (execListBuild k s) :=
  .done_of_timetable (foldl_keeps State.timetable (fun t p => timetable_buildList t k p) _ _)

theorem staysRight_execPanelUnavailable (r : Nat) (s : State) : StaysRightOutcome s (execPanelUnavailable r s) :=
  .done_of_timetable (overAll_keeps State.timetable (fun c t => timetable_suspendIn t r c) _)

theorem staysRight_execPanelAvailable (r : Nat) (s : State) : StaysRightOutcome s (execPanelAvailable r s) :=
  .doneLists (StaysRight.trans (.of_timetable (timetable_takeHanded ..))
    (staysRight_overAll (fun c _ => staysRight_resumeIn r c) _)) s

theorem staysRight_execOccupancyReading (r : Nat) (o : Bool) (n : Nat) (s : State) :
    StaysRightOutcome s (execOccupancyReading r o n s) :=
  .doneLists (StaysRight.trans (.of_timetable (timetable_takeHanded ..))
    ((staysRight_autoCheckIn r o).trans (staysRight_takeReading r o n))) s

/-! ### The catch-up walk -/

theorem staysRight_execCatchUpCommitStep (s : State) : StaysRightOutcome s (execCatchUpCommitStep s) := by
  unfold execCatchUpCommitStep
  split
  · split
    · exact .same s
    · split
      · split
        · exact .doneLists_of_timetable s (timetable_commitHead ..)
        · exact .done_of_timetable rfl
      · exact .done_of_timetable rfl
  · exact .same s

theorem staysRight_execCatchUpClosureStep (s : State) : StaysRightOutcome s (execCatchUpClosureStep s) := by
  unfold execCatchUpClosureStep
  split
  · split
    · exact .same s
    · split
      · exact .done_of_timetable rfl
      · refine .done (StaysRight.timetable ?_ (timetable_withCatchUp _ _))
        split
        · rename_i hc
          exact staysRight_catchUpClosure hc
        · exact .refl s
  · exact .same s

theorem staysRight_execCatchUpBookingStep (s : State) : StaysRightOutcome s (execCatchUpBookingStep s) := by
  unfold execCatchUpBookingStep
  split
  · split
    · exact .same s
    · refine .doneLists (StaysRight.timetable ?_ (timetable_withCatchUp _ _)) s
      split
      · rename_i hb
        exact staysRight_catchUpBooking hb _
      · exact .refl s
  · exact .same s

theorem staysRight_execCatchUpDays (s : State) : StaysRightOutcome s (execCatchUpDays s) := by
  unfold execCatchUpDays
  split
  · split
    · exact .same s
    · split
      · exact .done_of_timetable (timetable_catchUpDone s)
      · exact .done_of_timetable (timetable_beginTask ..)
  · exact .same s

end Sys2Proof.Machine
end

section
/-! SUPPORT. Every request leaves the timetable right, and so does every command. -/

namespace Sys2Proof.Machine

variable {s t : State}

/-! ### Host requests -/

theorem staysRight_admitSearch {kind : SearchKind} (hk : kind ≠ .sweep) (f : PlaceForm) (ok : Bool) (covers : Option Nat)
    (book : Option BookFields) (ref : HostRef) : StaysRight s (leftLater (s.admitSearch kind f ok covers book ref)) := by
  unfold State.admitSearch
  split
  · exact .refl s
  split
  · exact .refl s
  split
  · exact .refl s
  split
  · exact .refl s
  split
  · exact .refl s
  rename_i hform
  split
  · exact .refl s
  · exact (staysRight_enqueue hk fun _ => lt_of_formSpan hform : StaysRight s (s.enqueue kind _ (hostInputs f _ covers book)))

section HostRequests

variable (tag : Byte) (s : State)

theorem staysRight_execReadCounts : StaysRightOutcome s (execReadCounts tag s) :=
  staysRight_hostNow_of_timetable (fun u => timetable_clearCounts u) s

theorem staysRight_execSetNoticeEnables (m : Bool) (e : Enables) : StaysRightOutcome s (execSetNoticeEnables tag m e s) :=
  staysRight_hostNow_of_timetable (fun _ => rfl) s

theorem staysRight_execBook (f : BookForm) : StaysRightOutcome s (execBook tag f s) :=
  staysRight_hostNow (fun _ hg => staysRight_book hg f) s
theorem staysRight_execAmend (f : AmendForm) : StaysRightOutcome s (execAmend tag f s) :=
  staysRight_hostNow (fun _ _ => staysRight_amend f) s
theorem staysRight_execCancel (h : Handle) : StaysRightOutcome s (execCancel tag h s) :=
  staysRight_hostNow (fun _ _ => staysRight_cancel h) s
theorem staysRight_execCreateSeries (f : SeriesForm) : StaysRightOutcome s (execCreateSeries tag f s) :=
  staysRight_hostNow (fun _ hg => staysRight_createSeries hg f) s
theorem staysRight_execOrder (h : Handle) (f : OrderForm) : StaysRightOutcome s (execOrder tag h f s) :=
  staysRight_hostNow_of_timetable (fun u => timetable_order u h f) s
theorem staysRight_execChangeOrder (h : Handle) (f : OrderForm) : StaysRightOutcome s (execChangeOrder tag h f s) :=
  staysRight_hostNow_of_timetable (fun u => timetable_changeOrder u h f) s

theorem staysRight_execSetTime (m sec : Nat) : StaysRightOutcome s (execSetTime tag m sec s) := by
  refine staysRight_hostNow_of_timetable (fun u => ?_) s
  split
  · rfl
  · split <;> rfl

theorem staysRight_execStart : StaysRightOutcome s (execStart tag s) := by
  refine staysRight_hostNow_of_timetable (fun u => ?_) s
  split
  · rfl
  · split
    · rfl
    · exact timetable_startClock u

theorem staysRight_execTrimTime (n : Int) : StaysRightOutcome s (execTrimTime tag n s) := by
  unfold execTrimTime hostStepped
  split
  · exact .same s
  · rename_i u ref hu
    refine .done (StaysRight.timetable (StaysRight.trans (.of_timetable (timetable_takeRequest s hu)) ?_) (timetable_answer ..))
    dsimp only
    split
    · exact .refl u
    split
    · exact .refl u
    split
    · exact .refl u
    split
    · exact .refl u
    · exact staysRight_trim n

theorem staysRight_execSetDistances (a : Nat) (row : List Nat) : StaysRightOutcome s (execSetDistances tag a row s) := by
  refine staysRight_hostNow_of_timetable (fun u => ?_) s
  split
  · rfl
  · split <;> rfl

theorem staysRight_execSetWeights (w : Weights) : StaysRightOutcome s (execSetWeights tag w s) := by
  refine staysRight_hostNow_of_timetable (fun u => ?_) s
  split <;> rfl

theorem staysRight_execSetPolicy (f : PolicyForm) : StaysRightOutcome s (execSetPolicy tag f s) := by
  refine staysRight_hostNow_of_timetable (fun u => ?_) s
  split
  · rfl
  · split <;> rfl

theorem staysRight_execSetRoom (f : RoomForm) : StaysRightOutcome s (execSetRoom tag f s) := by
  refine staysRight_hostNow (fun u _ => ?_) s
  split
  · exact .refl u
  · exact staysRight_setRoom f

theorem staysRight_execRemoveRoom (r : Nat) : StaysRightOutcome s (execRemoveRoom tag r s) := by
  refine staysRight_hostNow (fun u _ => ?_) s
  dsimp only
  split
  · exact .refl u
  split
  · exact .refl u
  split
  · exact .refl u
  split
  · exact .refl u
  split
  · exact .refl u
  · rename_i hused
    obtain ⟨htl, hrest⟩ := not_or.mp hused
    exact staysRight_removeRoom (not_not.mp htl) (Bool.eq_false_iff.mpr (not_or.mp hrest).2)

theorem staysRight_execReadRoom (r : Nat) : StaysRightOutcome s (execReadRoom tag r s) := by
  refine staysRight_hostNow_of_timetable (fun u => ?_) s
  split
  · rfl
  · split <;> rfl

theorem staysRight_execSetKitchen (f : KitchenForm) : StaysRightOutcome s (execSetKitchen tag f s) := by
  refine staysRight_hostNow_of_timetable (fun u => ?_) s
  split
  · rfl
  · split <;> simp

theorem staysRight_execSetKitchenProfile (k : Nat) (p : List Nat) : StaysRightOutcome s (execSetKitchenProfile tag k p s) := by
  refine staysRight_hostNow_of_timetable (fun u => ?_) s
  repeat' split
  all_goals simp

theorem staysRight_execRemoveKitchen (k : Nat) : StaysRightOutcome s (execRemoveKitchen tag k s) := by
  refine staysRight_hostNow_of_timetable (fun u => ?_) s
  dsimp only
  repeat' split
  all_goals simp

theorem staysRight_execReadKitchen (k : Nat) : StaysRightOutcome s (execReadKitchen tag k s) := by
  refine staysRight_hostNow_of_timetable (fun u => ?_) s
  split
  · rfl
  · split <;> rfl

theorem staysRight_execReadBooking (h : Handle) : StaysRightOutcome s (execReadBooking tag h s) := by
  refine staysRight_hostNow_of_timetable (fun u => ?_) s
  split <;> rfl

theorem staysRight_execListRoom (r : Nat) (m n : Option Nat) : StaysRightOutcome s (execListRoom tag r m n s) := by
  refine staysRight_hostNow_of_timetable (fun u => ?_) s
  split
  · rfl
  · split <;> rfl

theorem staysRight_execEndSeries (id : Nat) : StaysRightOutcome s (execEndSeries tag id s) := by
  refine staysRight_hostNow (fun u _ => ?_) s
  split
  · exact .refl u
  · split
    · exact .refl u
    · split
      · exact .refl u
      · have hended : StaysRight u (u.modSeries id fun x => { x with state := .finished, passOwed := true }) :=
          staysRight_modSeries fun _ _ hst => absurd rfl hst
        exact hended.timetable (timetable_withSeries _ rfl)

theorem seriesAt_of_request {u : State} {id : Nat} {x : Series} (h : u.seriesRequest id = .ok x) : u.seriesAt id = some x := by
  unfold State.seriesRequest at h
  split at h
  · cases h
  split at h
  · cases h
  split at h
  · cases h
  split at h
  · rename_i hx
    cases h
    exact hx
  · cases h

theorem staysRight_execResumeSeries (id : Nat) : StaysRightOutcome s (execResumeSeries tag id s) := by
  refine staysRight_hostNow (fun u hg => ?_) s
  split
  · exact .refl u
  · rename_i x hx
    split
    · exact .refl u
    · exact .refl u
    · rename_i hst
      split
      · exact .refl u
      · exact staysRight_resume hg (seriesAt_of_request hx) hst

theorem staysRight_execReadSeries (id : Nat) : StaysRightOutcome s (execReadSeries tag id s) := by
  refine staysRight_hostNow_of_timetable (fun u => ?_) s
  split
  · rfl
  · split <;> rfl

theorem staysRight_execPlace (f : PlaceForm) : StaysRightOutcome s (execPlace tag f s) := by
  refine staysRight_hostLater (fun ref u => ?_) s
  exact staysRight_admitSearch (kind := .place) (by decide) _ _ _ _ _

theorem staysRight_execPlaceAndBook (f : PlaceBookForm) : StaysRightOutcome s (execPlaceAndBook tag f s) := by
  refine staysRight_hostLater (fun ref u => ?_) s
  exact staysRight_admitSearch (kind := .placeAndBook) (by decide) _ _ _ _ _

theorem staysRight_execCloseRoom (f : CloseForm) : StaysRightOutcome s (execCloseRoom tag f s) :=
  staysRight_hostLater (fun ref _ => staysRight_closeRoom f ref) s

theorem staysRight_execReopenRoom (r : Nat) : StaysRightOutcome s (execReopenRoom tag r s) :=
  staysRight_hostNow (fun _ _ => staysRight_reopenRoom r) s

theorem staysRight_execBindPanel (p k r : Nat) : StaysRightOutcome s (execBindPanel tag p k r s) := by
  refine staysRight_hostNow_of_timetable (fun u => ?_) s
  split
  · rfl
  · simp

theorem staysRight_execUnbind (p : Nat) : StaysRightOutcome s (execUnbind tag p s) := by
  refine staysRight_hostLater (fun ref u => .of_timetable ?_) s
  dsimp only
  repeat' split
  all_goals simp [leftLater]

theorem staysRight_execBar (p : Nat) : StaysRightOutcome s (execBar tag p s) := by
  refine staysRight_hostLater (fun ref u => .of_timetable ?_) s
  repeat' split
  all_goals simp [leftLater]

theorem staysRight_execUnbar (p : Nat) : StaysRightOutcome s (execUnbar tag p s) := by
  refine staysRight_hostNow_of_timetable (fun u => ?_) s
  repeat' split
  all_goals simp

theorem staysRight_execSetPoll (p e : Nat) : StaysRightOutcome s (execSetPoll tag p e s) := by
  refine staysRight_hostNow_of_timetable (fun u => ?_) s
  split
  · rfl
  · split <;> simp

theorem staysRight_execReadPanel (p : Nat) : StaysRightOutcome s (execReadPanel tag p s) := by
  refine staysRight_hostNow_of_timetable (fun u => ?_) s
  split <;> rfl

theorem staysRight_execVoidOrder (h : Handle) : StaysRightOutcome s (execVoidOrder tag h s) := by
  refine staysRight_hostNow_of_timetable (fun u => ?_) s
  split
  · rfl
  · split
    all_goals simp

theorem staysRight_execReadLoad (k day w : Nat) (n : Option Nat) : StaysRightOutcome s (execReadLoad tag k day w n s) := by
  refine staysRight_hostNow_of_timetable (fun u => ?_) s
  split
  · rfl
  · split <;> rfl

theorem staysRight_execNextChanged (category : Nat) : StaysRightOutcome s (execNextChanged tag category s) := by
  refine staysRight_hostNow_of_timetable (fun u => ?_) s
  split
  · simp
  · simp
  · simp
  · rfl

end HostRequests

/-! ### Panel requests -/

section PanelRequests

variable (src : PanelRef) (h : Option Handle) (s : State)

theorem staysRight_execCheckIn (badge : Id32) : StaysRightOutcome s (execCheckIn src badge h s) :=
  staysRight_panelNow (fun _ _ => staysRight_checkIn src badge h) s

theorem staysRight_execWalkUp (n : Nat) (badge : Id32) : StaysRightOutcome s (execWalkUp src n badge s) := by
  refine staysRight_panelNow (fun u hg => ?_) s
  split
  · exact .refl u
  · split
    · exact .refl u
    · rename_i hin
      exact staysRight_walkUpIn hg (by simpa using hin) badge

theorem bookingAt_of_roomBooking {u : State} {b : Booking} (hs : u.timetable.Right) (hb : u.roomBooking src h = some b) :
    u.bookingAt b.handle.idx = some b :=
  bookingAt_of_panelBooking hs (Option.filter_eq_some_iff.mp hb).1

theorem staysRight_execExtend (n : Nat) : StaysRightOutcome s (execExtend src n h s) := by
  refine staysRight_panelNow (fun u _ hs => ?_) s
  split
  · exact hs
  · split
    · exact hs
    · rename_i hb
      split
      any_goals exact hs
      rename_i hst
      exact staysRight_extendBooking (bookingAt_of_roomBooking src h hs hb) hst n hs

theorem staysRight_execEndNow : StaysRightOutcome s (execEndNow src h s) := by
  refine staysRight_panelNow (fun u _ hs => ?_) s
  split
  · exact hs
  · split
    · exact hs
    · rename_i hb
      split
      any_goals exact hs
      exact staysRight_endEarly (bookingAt_of_roomBooking src h hs hb) _ hs

theorem staysRight_execFindNearby : StaysRightOutcome s (execFindNearby src s) := by
  refine staysRight_panelNow (fun u _ => ?_) s
  repeat' split
  any_goals exact .refl u
  exact staysRight_enqueue (by decide) fun hb => nomatch hb

theorem staysRight_execOut : StaysRightOutcome s (execOut src h s) := by
  refine staysRight_panelNow_of_timetable (fun u => ?_) s
  split
  · rfl
  · split <;> simp

theorem staysRight_execHanded : StaysRightOutcome s (execHanded src h s) := by
  refine staysRight_panelNow_of_timetable (fun u => ?_) s
  split
  · rfl
  · split <;> simp

theorem staysRight_execDiscard : StaysRightOutcome s (execDiscard src h s) := by
  refine staysRight_panelNow_of_timetable (fun u => ?_) s
  split
  · rfl
  · split <;> simp

theorem staysRight_execReceived : StaysRightOutcome s (execReceived src h s) := by
  refine staysRight_panelNow_of_timetable (fun u => ?_) s
  split
  · rfl
  · split <;> simp

end PanelRequests

/-! ### All of them -/

/-- Every command leaves the timetable right. -/
theorem exec_staysRight (c : Instr) (s : State) : StaysRightOutcome s (exec c s) :=
  match c with
  | .powerOnReset => .done fun _ => right_powerOn s
  | .warmReset => staysRight_execWarmReset s
  | .secEdge _ => staysRight_execSecEdge _ s
  | .dividerTick => staysRight_execDividerTick s
  | .enterHoldover => staysRight_execEnterHoldover s
  | .minuteEvent => staysRight_execMinuteEvent s
  | .setTime _ _ _ => staysRight_execSetTime _ s _ _
  | .start _ => staysRight_execStart _ s
  | .trimTime _ _ => staysRight_execTrimTime _ s _
  | .retentionLoss => .done_of_timetable rfl
  | .secondEvent => staysRight_execSecondEvent s
  | .windowExpiry _ => staysRight_execWindowExpiry _ s
  | .absenceExpiry _ => staysRight_execAbsenceExpiry _ s
  | .startsAndEnds => staysRight_execStartsAndEnds s
  | .windowOpening => staysRight_execWindowOpening s
  | .commit => staysRight_execCommit s
  | .closureTimes => staysRight_execClosureTimes s
  | .retirementWalk => staysRight_execRetirementWalk s
  | .retirementWalkStep => staysRight_execRetirementWalkStep s
  | .seriesPassStep => staysRight_execSeriesPassStep s
  | .materialisationWalk => staysRight_execMaterialisationWalk s
  | .materialisationWalkStep => staysRight_execMaterialisationWalkStep s
  | .planningWalk => staysRight_execPlanningWalk s
  | .planningWalkStep => staysRight_execPlanningWalkStep s
  | .cancelPassStep => staysRight_execCancelPassStep s
  | .status => .done_of_timetable rfl
  | .otherTransferCommand _ => .done_of_timetable rfl
  | .send _ => staysRight_execSend _ s
  | .fetch _ => .done_of_timetable rfl
  | .linkReset => staysRight_execLinkReset s
  | .takeRequestFrame => staysRight_execTakeRequestFrame s
  | .readTime _ => staysRight_hostNow_of_timetable (fun _ => rfl) s
  | .readRetention _ => staysRight_hostNow_of_timetable (fun _ => rfl) s
  | .setDistances _ _ _ => staysRight_execSetDistances _ s _ _
  | .setRoom _ _ => staysRight_execSetRoom _ s _
  | .removeRoom _ _ => staysRight_execRemoveRoom _ s _
  | .readRoom _ _ => staysRight_execReadRoom _ s _
  | .setKitchen _ _ => staysRight_execSetKitchen _ s _
  | .setKitchenProfile _ _ _ => staysRight_execSetKitchenProfile _ s _ _
  | .removeKitchen _ _ => staysRight_execRemoveKitchen _ s _
  | .readKitchen _ _ => staysRight_execReadKitchen _ s _
  | .setWeights _ _ => staysRight_execSetWeights _ s _
  | .setPolicy _ _ => staysRight_execSetPolicy _ s _
  | .readStore _ => staysRight_hostNow_of_timetable (fun _ => rfl) s
  | .book _ _ => staysRight_execBook _ s _
  | .amend _ _ => staysRight_execAmend _ s _
  | .cancel _ _ => staysRight_execCancel _ s _
  | .readBooking _ _ => staysRight_execReadBooking _ s _
  | .listRoom _ _ _ _ => staysRight_execListRoom _ s _ _ _
  | .createSeries _ _ => staysRight_execCreateSeries _ s _
  | .endSeries _ _ => staysRight_execEndSeries _ s _
  | .resumeSeries _ _ => staysRight_execResumeSeries _ s _
  | .readSeries _ _ => staysRight_execReadSeries _ s _
  | .place _ _ => staysRight_execPlace _ s _
  | .placeAndBook _ _ => staysRight_execPlaceAndBook _ s _
  | .readPlacement _ => staysRight_hostNow_of_timetable (fun _ => rfl) s
  | .readTimers _ => staysRight_hostNow_of_timetable (fun _ => rfl) s
  | .bindPanel _ _ _ _ => staysRight_execBindPanel _ s _ _ _
  | .unbind _ _ => staysRight_execUnbind _ s _
  | .bar _ _ => staysRight_execBar _ s _
  | .unbar _ _ => staysRight_execUnbar _ s _
  | .setPoll _ _ _ => staysRight_execSetPoll _ s _ _
  | .readPanel _ _ => staysRight_execReadPanel _ s _
  | .order _ _ _ => staysRight_execOrder _ s _ _
  | .changeOrder _ _ _ => staysRight_execChangeOrder _ s _ _
  | .voidOrder _ _ => staysRight_execVoidOrder _ s _
  | .readLoad _ _ _ _ _ => staysRight_execReadLoad _ s _ _ _ _
  | .closeRoom _ _ => staysRight_execCloseRoom _ s _
  | .reopenRoom _ _ => staysRight_execReopenRoom _ s _
  | .readSweep _ => staysRight_hostNow_of_timetable (fun _ => rfl) s
  | .setNoticeEnables _ _ _ => staysRight_execSetNoticeEnables _ s _ _
  | .readNotices _ => staysRight_hostNow_of_timetable (fun _ => rfl) s
  | .nextChanged _ _ => staysRight_execNextChanged _ s _
  | .readCounts _ => staysRight_execReadCounts _ s
  | .searchTake => staysRight_execSearchTake s
  | .placementWalkStep => staysRight_execPlacementWalkStep s
  | .placeCompletion => staysRight_execPlaceCompletion s
  | .placeAndBookCompletion => staysRight_execPlaceAndBookCompletion s
  | .findNearbyCompletion => staysRight_execFindNearbyCompletion s
  | .sweepSearchCompletion => staysRight_execSweepSearchCompletion s
  | .withdrawal _ _ => staysRight_execWithdrawal _ _ s
  | .sweepStep => staysRight_execSweepStep s
  | .sweepReport => staysRight_execSweepReport s
  | .panelSecond => .done_of_timetable rfl
  | .deferredViewBuild _ => staysRight_execDeferredViewBuild _ s
  | .poll _ => staysRight_execPoll _ s
  | .reply _ _ => staysRight_execReply _ _ s
  | .followUpReply _ _ => staysRight_execFollowUpReply _ _ s
  | .replyTimeout _ => staysRight_execReplyTimeout _ s
  | .frameDiscarded _ _ => .same s
  | .holdTakesEffect _ => staysRight_execHoldTakesEffect _ s
  | .viewBuild _ => staysRight_execViewBuild _ s
  | .listBuild _ => staysRight_execListBuild _ s
  | .checkIn _ _ _ => staysRight_execCheckIn _ _ s _
  | .occupancyReading _ _ _ => staysRight_execOccupancyReading _ _ _ s
  | .panelUnavailable _ => staysRight_execPanelUnavailable _ s
  | .panelAvailable _ => staysRight_execPanelAvailable _ s
  | .walkUp _ _ _ => staysRight_execWalkUp _ s _ _
  | .extend _ _ _ => staysRight_execExtend _ _ s _
  | .endNow _ _ => staysRight_execEndNow _ _ s
  | .findNearby _ => staysRight_execFindNearby _ s
  | .out _ _ => staysRight_execOut _ _ s
  | .handed _ _ => staysRight_execHanded _ _ s
  | .discard _ _ => staysRight_execDiscard _ _ s
  | .received _ _ => staysRight_execReceived _ _ s
  | .catchUpCommitStep => staysRight_execCatchUpCommitStep s
  | .catchUpClosureStep => staysRight_execCatchUpClosureStep s
  | .catchUpBookingStep => staysRight_execCatchUpBookingStep s
  | .catchUpDays => staysRight_execCatchUpDays s

/-- Settles O58: the four invariants are what a right timetable says, and every command leaves it right where the directory agrees
with its FIFO. -/
theorem everyStepKeepsTheTimelines : Obligations.EveryStepKeepsTheTimelines := by
  intro s t h hs
  refine parts_of_right ?_
  unfold step at h
  split at h
  · cases h
    exact right_of_sound hs
  · rename_i c rest _
    have hg : Grounded { s with pending := rest } := (grounded_of_sound hs).ledger rfl
    exact exec_staysRight c _ t h hg (right_of_sound (s := s) hs)

end Sys2Proof.Machine
end

section
/-! SUPPORT. What a release and a check-in do to a series, and the advance past an occurrence (R59, R62, R63). -/

namespace Sys2Proof.Machine

variable {s t : State} {id j n : Nat} {x : Series}

/-! ### The series of an id -/

theorem seriesAt_congr (h : t.series.list = s.series.list) (j : Nat) : t.seriesAt j = s.seriesAt j := by
  simp only [State.seriesAt, h]

theorem seriesAt_markSeries_same (s : State) (id : Nat) :
    (s.markSeries id).seriesAt id = (s.seriesAt id).map fun x => { x with mark := true } := State.seriesAt_modSeries_same ..

theorem seriesAt_markSeries_other (h : id ≠ j) : (s.markSeries id).seriesAt j = s.seriesAt j :=
  State.seriesAt_modSeries_other h

/-! ### Releases -/

/-- The release that suspends a series: it is SUSPENDED with `n` no-shows, marked, and owes its cancel pass (R63). -/
def State.suspendSeries (s : State) (id n : Nat) : State :=
  let s1 := (s.modSeries id fun x => { x with noShows := n, state := .suspended, passOwed := true }).markSeries id
  { s1 with series := { s1.series with passQueue := addNew id s1.series.passQueue } }

theorem seriesRelease_suspends (hx : s.seriesAt id = some x) (hs : x.state = .active) (h0 : x.threshold ≠ 0)
    (hn : x.threshold ≤ min (x.noShows + 1) 7) : s.seriesRelease id = s.suspendSeries id (min (x.noShows + 1) 7) := by
  simp only [State.seriesRelease, hx, if_pos (And.intro hs (And.intro h0 hn))]
  rfl

/-- A release that does not suspend is counted, and no more (R62). -/
theorem seriesRelease_counts (hx : s.seriesAt id = some x)
    (h : x.state ≠ .active ∨ x.threshold = 0 ∨ min (x.noShows + 1) 7 < x.threshold) :
    s.seriesRelease id = s.modSeries id fun y => { y with noShows := min (x.noShows + 1) 7 } := by
  have hno : ¬ (x.state = .active ∧ x.threshold ≠ 0 ∧ x.threshold ≤ min (x.noShows + 1) 7) := by
    rintro ⟨hs, h0, hn⟩
    rcases h with h | h | h
    · exact h hs
    · exact h0 h
    · exact Nat.not_lt.mpr hn h
  simp only [State.seriesRelease, hx, if_neg hno]

theorem seriesAt_suspendSeries (hx : s.seriesAt id = some x) (n : Nat) : (s.suspendSeries id n).seriesAt id =
    some { x with noShows := n, state := .suspended, passOwed := true, mark := true } := by
  refine (seriesAt_markSeries_same _ id).trans ?_
  rw [State.seriesAt_modSeries_same, hx]
  rfl

theorem seriesAt_suspendSeries_other (h : id ≠ j) (n : Nat) : (s.suspendSeries id n).seriesAt j = s.seriesAt j :=
  (seriesAt_markSeries_other h).trans (State.seriesAt_modSeries_other h)

theorem mem_addNew {α : Type} [DecidableEq α] (a : α) (l : List α) : a ∈ addNew a l := by
  unfold addNew
  split
  · assumption
  · simp

theorem seriesAt_seriesRelease_other (h : id ≠ j) : (s.seriesRelease id).seriesAt j = s.seriesAt j := by
  unfold State.seriesRelease
  split
  · rfl
  · dsimp only
    split
    · exact seriesAt_suspendSeries_other h _
    · exact State.seriesAt_modSeries_other h

/-! ### The statement -/

theorem advance_standing (x : Series) :
    (x.count = 0 → x.advance.count = 0 ∧ x.advance.state = x.state) ∧
      (x.count = 1 → x.advance.count = 0 ∧ x.advance.state = .finished) ∧
      (2 ≤ x.count → x.advance.count + 1 = x.count ∧ x.advance.state = x.state) := by
  refine ⟨fun h => ?_, fun h => ?_, fun h => ⟨?_, if_neg (by omega)⟩⟩
  · simp [Series.advance, h]
  · simp [Series.advance, h]
  · show x.count - 1 + 1 = x.count
    omega

/-- Settles O22, by the two cases of a release. -/
theorem seriesAdvanceAndSuspend : Obligations.SeriesAdvanceAndSuspend := by
  refine ⟨fun x => ⟨rfl, advance_standing x⟩, fun s id x hx => ⟨fun hs h0 hn => ?_, fun h => ?_, ?_, fun j hj =>
    ⟨seriesAt_seriesRelease_other (Ne.symm hj), State.seriesAt_modSeries_other (Ne.symm hj)⟩⟩⟩
  · rw [seriesRelease_suspends hx hs h0 hn]
    exact ⟨seriesAt_suspendSeries hx _, mem_addNew .., rfl⟩
  · rw [seriesRelease_counts hx h, State.seriesAt_modSeries_same, hx]
    exact ⟨rfl, rfl, rfl⟩
  · exact (State.seriesAt_modSeries_same ..).trans (by rw [hx]; rfl)

end Sys2Proof.Machine
end

section
/-! SUPPORT. What planning an order, or its booking's exit, leaves of the records (R134, R138, R148). -/

namespace Sys2Proof.Machine

variable {s t u : State} {i now n : Nat} {b : Booking} {h : Handle}

/-- From `s` to `t` the order of the booking of entry `i` has moved, and its mark may have been set: every other booking, the
FIFO, the reference counts, the rooms and the series are as before. -/
structure Reordered (i : Nat) (s t : State) : Prop where
  own : Option.Rel Kept (s.bookingAt i) (t.bookingAt i)
  others : ∀ j, j ≠ i → t.bookingAt j = s.bookingAt j
  fifo : t.dir.fifo = s.dir.fifo
  refs : t.dir.refs = s.dir.refs
  rooms : t.rooms = s.rooms
  series : t.series = s.series

theorem Reordered.trans (h : Reordered i s t) (h' : Reordered i t u) : Reordered i s u where
  own := rel_trans (R := Kept) Kept.trans h.own h'.own
  others j hj := (h'.others j hj).trans (h.others j hj)
  fifo := h'.fifo.trans h.fifo
  refs := h'.refs.trans h.refs
  rooms := h'.rooms.trans h.rooms
  series := h'.series.trans h.series

/-- A step that leaves the directory, the rooms and the series. -/
theorem reordered_of_eq (hd : t.dir = s.dir) (hr : t.rooms = s.rooms) (hs : t.series = s.series) : Reordered i s t where
  own := by rw [State.bookingAt_congr hd]; exact rel_refl _
  others j _ := State.bookingAt_congr hd j
  fifo := by rw [hd]
  refs := by rw [hd]
  rooms := hr
  series := hs

theorem Reordered.refl (s : State) : Reordered i s s := reordered_of_eq rfl rfl rfl

theorem reordered_keptBooking {f : Booking → Booking} (hf : ∀ b, Kept b (f b)) : Reordered i s (s.modBooking i f) where
  own := by rw [State.bookingAt_modBooking_same]; exact rel_map fun b _ => hf b
  others j hj := State.bookingAt_modBooking_other (Ne.symm hj)
  fifo := rfl
  refs := rfl
  rooms := rfl
  series := rfl

theorem reordered_modOrder {f : Order → Order} : Reordered i s (s.modOrder i f) :=
  reordered_keptBooking fun b => ⟨b.mark, b.order.map f, id, rfl⟩

theorem reordered_cateringFailure : Reordered i s (s.cateringFailure i) :=
  Reordered.trans (t := s.modBooking i fun b => { b with mark := true })
    (reordered_keptBooking fun b => ⟨true, b.order, fun _ => rfl, rfl⟩) (reordered_of_eq rfl rfl rfl)

theorem reordered_setUncounted {st : OrderState} {c : Option Nat} : Reordered h.idx s (s.setUncounted h st c) :=
  Reordered.trans (t := s.unplan h)
    (reordered_of_eq (by rw [unplan_keeps]) (by rw [unplan_keeps]) (by rw [unplan_keeps])) reordered_modOrder

theorem reordered_count (a : Accept) : Reordered h.idx s (s.count h n a) := by
  obtain ⟨loads, hloads⟩ := modLoad_eq (s.modOrder h.idx (placedOrder a)) a.kitchen a.window (· + n)
  rw [count_eq, hloads]
  exact Reordered.trans (t := s.modOrder h.idx (placedOrder a)) reordered_modOrder (reordered_of_eq rfl rfl rfl)

theorem reordered_planPart (s : State) (now : Nat) (b : Booking) (n : Nat) :
    Reordered b.handle.idx s (s.planPart now b n) := by
  have hcommit (v : State) (c : Nat) : Reordered b.handle.idx v (v.joinCommit b.handle c) := reordered_of_eq rfl rfl rfl
  have hlist (v : State) (m : Nat) : Reordered b.handle.idx v (v.joinRequests b.handle m) := reordered_of_eq rfl rfl rfl
  have hrequested : Reordered b.handle.idx s (s.makeRequested b) := reordered_setUncounted.trans (hlist ..)
  have hunplaced : Reordered b.handle.idx s (s.makeUnplaced now b) :=
    (reordered_setUncounted.trans (hcommit ..)).trans reordered_cateringFailure
  unfold State.planPart
  split
  · rename_i v tight hplan
    unfold State.planHost at hplan
    split at hplan
    · cases hplan
    split at hplan
    · cases hplan
      exact hrequested
    split at hplan
    · cases hplan
      exact reordered_count _
    · cases hplan
  · exact hunplaced

theorem reordered_exitOrder (s : State) (h : Handle) (k : ExitKind) : Reordered h.idx s (s.exitOrder h k) := by
  rcases exitOrder_cases s h k with he | he | ⟨p, he⟩ <;> rw [he]
  · exact .refl s
  · exact reordered_setUncounted
  · cases p
    · exact reordered_modOrder
    · exact reordered_modOrder.trans reordered_cateringFailure

end Sys2Proof.Machine
end

section
/-! SUPPORT. One occurrence of a series made or skipped (R60). -/

namespace Sys2Proof.Machine

variable {s t u : State} {i id now start : Nat} {rest : List Nat} {b y : Booking} {x : Series} {k : Taken} {h : Handle}

/-! ### What a start leaves -/

theorem room_congr (h : t.rooms = s.rooms) (r : Nat) : t.room r = s.room r := by simp only [State.room, h]

/-- A start handled leaves the reference counts and the series. -/
theorem handleStart_keeps (s : State) (now i : Nat) :
    (s.handleStart now i).dir.refs = s.dir.refs ∧ (s.handleStart now i).series = s.series := by
  have hexempt (u : State) (b : Booking) :
      (u.startExempt b).dir.refs = u.dir.refs ∧ (u.startExempt b).series = u.series := by
    unfold State.startExempt
    split <;> exact ⟨rfl, rfl⟩
  have hwindow : (s.openWindow i).dir.refs = s.dir.refs ∧ (s.openWindow i).series = s.series := by
    unfold State.openWindow
    split
    · exact ⟨rfl, rfl⟩
    · split
      · exact ⟨rfl, rfl⟩
      · split
        · exact ⟨rfl, rfl⟩
        · exact hexempt _ _
  unfold State.handleStart
  split
  · exact ⟨rfl, rfl⟩
  · split
    · exact ⟨rfl, rfl⟩
    · split
      · split
        · exact hwindow
        · exact ⟨rfl, rfl⟩
      · split <;> exact ⟨rfl, rfl⟩

/-- A BOOKED booking whose opening minute and start lie ahead is left (R39, R90). -/
theorem handleStart_ahead (hb : s.bookingAt i = some b) (h : now + (s.room b.room).earlyOpen < b.startMin) :
    s.handleStart now i = s := by
  cases hc : b.checkin with
  | required => exact handleStart_left hb hc (.inl h)
  | exempt =>
    have hno : ¬ b.startMin ≤ now := by omega
    simp only [State.handleStart, hb, hc, if_neg hno, ite_self]

/-! ### A skip -/

theorem seriesAt_skipOccurrence (hx : s.seriesAt id = some x) : (s.skipOccurrence id).seriesAt id =
    some { x with skipCount := saturate x.skipCount, mark := true } := by
  refine (seriesAt_markSeries_same _ id).trans ?_
  rw [State.seriesAt_modSeries_same, hx]
  rfl

theorem seriesAt_skipOccurrence_other {j : Nat} (h : id ≠ j) : (s.skipOccurrence id).seriesAt j = s.seriesAt j :=
  (seriesAt_markSeries_other h).trans (State.seriesAt_modSeries_other h)

/-- A closure over the span, or a booking in its way, and the occurrence is skipped (R60). -/
theorem materialise_skips (h : (s.room x.room).closedFor x.nextStart (x.nextStart + x.length) = true ∨
    s.blocker x.room none x.nextStart (x.nextStart + x.length) ≠ none) :
    s.materialise now id x = (s.skipOccurrence id, none) :=
  if_pos (h.imp (fun hclosed => hclosed) Option.isSome_iff_ne_none.mpr)

/-! ### An occurrence made -/

/-- The order of an occurrence whose series has a template is planned (R60). -/
def State.planTemplate (s : State) (now : Nat) (b : Booking) (template : Option OrderForm) : State :=
  match template with
  | some f => s.planPart now b f.covers
  | none => s

/-- The state in which the occurrence of a record just taken is entered, planned, and put in its place (R60). -/
def State.makeOccurrence (s : State) (now : Nat) (k : Taken) (b : Booking) (template : Option OrderForm) : State :=
  (((s.enter b).planTemplate now b template).putOnTimeline b).handleStart now k.handle.idx

/-- An occurrence is skipped, or it is made of the record it takes (R60). -/
theorem materialise_cases (s : State) (now id : Nat) (x : Series) :
    s.materialise now id x = (s.skipOccurrence id, none) ∨
      ∃ u k, s.takeRecord .part x.note.isSome x.template.isSome (some id) = some (u, k) ∧
        s.materialise now id x =
          (u.makeOccurrence now k (occurrence k id x (s.room x.room)) x.template, some k.handle) := by
  unfold State.materialise
  dsimp only
  split
  · exact .inl rfl
  · split
    · exact .inl rfl
    · rename_i u k hk
      refine .inr ⟨u, k, hk, ?_⟩
      cases x.template <;> rfl

theorem materialise_makes (hclosed : (s.room x.room).closedFor x.nextStart (x.nextStart + x.length) = false)
    (hfree : s.blocker x.room none x.nextStart (x.nextStart + x.length) = none)
    (hk : s.takeRecord .part x.note.isSome x.template.isSome (some id) = some (u, k)) :
    s.materialise now id x =
      (u.makeOccurrence now k (occurrence k id x (s.room x.room)) x.template, some k.handle) := by
  simp only [State.materialise, hclosed, hfree, hk, Option.isSome_none, Bool.false_eq_true, or_self, if_false]
  cases x.template <;> rfl

theorem takeRecord_part {note order : Bool} {link : Option Nat} (hfifo : s.dir.fifo = i :: rest)
    (h : (bookingKinds note order).length ≤ s.store.freeCount) :
    ∃ u k, s.takeRecord .part note order link = some (u, k) := by
  simp only [State.takeRecord, hfifo, allocate_of_admits (admits_part.mpr h)]
  exact ⟨_, _, rfl⟩

theorem reordered_planTemplate (s : State) (now : Nat) (b : Booking) (template : Option OrderForm) :
    Reordered b.handle.idx s (s.planTemplate now b template) := by
  cases template with
  | none => exact .refl s
  | some f => exact reordered_planPart ..

/-- An occurrence made leaves the series (R60), and counts once among the references of its own (R24). -/
theorem makeOccurrence_keeps (u : State) (now : Nat) (k : Taken) (b : Booking) (template : Option OrderForm) :
    (u.makeOccurrence now k b template).series = u.series ∧ (u.makeOccurrence now k b template).dir.refs = u.dir.refs := by
  obtain ⟨hrefs, hseries⟩ :=
    handleStart_keeps (((u.enter b).planTemplate now b template).putOnTimeline b) now k.handle.idx
  have hplan := reordered_planTemplate (u.enter b) now b template
  exact ⟨hseries.trans hplan.series, hrefs.trans hplan.refs⟩

/-- What a booking has of the occurrence of series `id` that starts at a minute (R60). -/
structure Booking.IsOccurrence (id : Nat) (x : Series) (start : Nat) (h : Handle) (b : Booking) : Prop where
  handle : b.handle = h
  room : b.room = x.room
  series : b.series = some id
  source : b.source = .series
  startMin : b.startMin = start
  endMin : b.endMin = start + x.length

theorem Booking.IsOccurrence.kept (hb : b.IsOccurrence id x start h) (hy : Kept b y) : y.IsOccurrence id x start h := by
  obtain ⟨m, o, -, rfl⟩ := hy
  exact ⟨hb.handle, hb.room, hb.series, hb.source, hb.startMin, hb.endMin⟩

theorem isOccurrence_occurrence (k : Taken) (id : Nat) (x : Series) (r : Room) :
    (occurrence k id x r).IsOccurrence id x x.nextStart k.handle := ⟨rfl, rfl, rfl, rfl, rfl, rfl⟩

/-- From `s` to `t` an occurrence of series `id` has been made under the handle `h`, whose index was the head of the FIFO. -/
structure Occurred (id : Nat) (x : Series) (h : Handle) (s t : State) : Prop where
  fifo : s.dir.fifo = h.idx :: t.dir.fifo
  refs : t.dir.refs = s.dir.refs.modify id (· + 1)
  own : ∃ b, t.bookingAt h.idx = some b ∧ b.IsOccurrence id x x.nextStart h
  others : ∀ j, j ≠ h.idx → t.bookingAt j = s.bookingAt j
  timeline : ∀ g, g ∈ (t.room x.room).timeline ↔ g = h ∨ g ∈ (s.room x.room).timeline

theorem occurred_makeOccurrence (hentries : ∀ j ∈ s.dir.fifo, j < s.dir.entries.length) (hroom : x.room < s.rooms.length)
    (hk : s.takeRecord .part x.note.isSome x.template.isSome (some id) = some (u, k)) (r : Room) :
    Occurred id x k.handle s (u.makeOccurrence now k (occurrence k id x r) x.template) := by
  obtain ⟨i, rest, -, hfifo, -⟩ := takeRecord_steps hk
  have hent := entered_takeRecord (b := occurrence k id x r) hk hfifo (hentries i (hfifo ▸ List.mem_cons_self)) rfl rfl
  have hidx : k.handle.idx = i := congrArg Handle.idx hent.handle
  have hplan : Reordered i (u.enter (occurrence k id x r))
      ((u.enter (occurrence k id x r)).planTemplate now (occurrence k id x r) x.template) :=
    hidx ▸ reordered_planTemplate (u.enter (occurrence k id x r)) now (occurrence k id x r) x.template
  obtain ⟨y, hy, hyk⟩ := some_of_rel hplan.own hent.own
  have hyo := (isOccurrence_occurrence k id x r).kept hyk
  have hrooms : ((u.enter (occurrence k id x r)).planTemplate now (occurrence k id x r) x.template).rooms = s.rooms :=
    hplan.rooms.trans (by rw [hent.keeps])
  have hset := settled_start (y := occurrence k id x r) hy (by rw [hyo.handle, hidx])
    (by rw [hrooms, hyo.room]; exact hroom) now ⟨hyo.handle.symm, hyo.room.symm⟩
  obtain ⟨z, hz, hzy, -⟩ := hset.own
  have hmade : u.makeOccurrence now k (occurrence k id x r) x.template =
      (((u.enter (occurrence k id x r)).planTemplate now (occurrence k id x r) x.template).putOnTimeline
        (occurrence k id x r)).handleStart now i := by rw [State.makeOccurrence, hidx]
  refine ⟨?_, ?_, ⟨z, ?_, ?_⟩, fun j hj => ?_, fun g => ?_⟩
  · rw [hmade, hset.fifo, hplan.fifo, hent.fifo, hidx, hfifo]
  · rw [(makeOccurrence_keeps ..).2, (takeRecord_eq hfifo hk).2.2]
    rfl
  · rw [hmade, hidx, hz]
  · rw [hzy]
    exact ⟨hyo.handle, hyo.room, hyo.series, hyo.source, hyo.startMin, hyo.endMin⟩
  · rw [hidx] at hj
    rw [hmade, hset.others j hj, hplan.others j hj, hent.others j hj]
  · have htimeline := hset.timeline g
    rw [hyo.room, hyo.handle, ← hmade, room_congr hrooms] at htimeline
    exact htimeline

/-! ### The statement -/

theorem occurrence_note {k : Taken} (hk : k.note.isSome = x.note.isSome) (r : Room) :
    (occurrence k id x r).note.map Note.text = x.note.map Note.text := by
  cases hn : x.note <;> cases hkn : k.note <;> simp_all [occurrence, newBooking]

theorem note_isSome_of_takeRecord {c : AllocClass} {n o : Bool} {l : Option Nat}
    (h : s.takeRecord c n o l = some (u, k)) : k.note.isSome = n := by
  obtain ⟨_, _, _, -, -, rfl, -⟩ := takeRecord_steps h
  cases n <;> rfl

/-- Settles O23: a skip leaves the records, and an occurrence that lies ahead is made and not yet started. -/
theorem occurrencesMadeOrSkipped : Obligations.OccurrencesMadeOrSkipped := by
  intro s now id x hx
  refine ⟨fun h => ?_, fun i rest hclosed hfree hfifo hi htemplate hspace hahead => ?_⟩
  · rw [materialise_skips h]
    exact ⟨rfl, rfl, rfl, rfl, seriesAt_skipOccurrence hx, rfl⟩
  · have hlen : (bookingKinds x.note.isSome x.template.isSome).length = if x.note.isSome then 2 else 1 := by
      rw [htemplate]
      cases x.note <;> rfl
    obtain ⟨u, k, hk⟩ := takeRecord_part (link := some id) hfifo (hlen ▸ hspace)
    have hent := entered_takeRecord (b := occurrence k id x (s.room x.room)) hk hfifo hi rfl rfl
    have hidx : k.handle.idx = i := congrArg Handle.idx hent.handle
    have hkeeps := makeOccurrence_keeps u now k (occurrence k id x (s.room x.room)) x.template
    have hmade : u.makeOccurrence now k (occurrence k id x (s.room x.room)) x.template =
        (u.enter (occurrence k id x (s.room x.room))).putOnTimeline (occurrence k id x (s.room x.room)) := by
      rw [htemplate]
      refine handleStart_ahead (b := occurrence k id x (s.room x.room)) (hidx ▸ hent.own) ?_
      rw [earlyOpen_of_setting (setting_putOnTimeline ..), room_congr ((reordered_planTemplate ..).rooms.trans hent.rooms)]
      exact hahead
    rw [materialise_makes hclosed hfree hk]
    refine ⟨k.handle, occurrence k id x (s.room x.room), rfl, hidx, ?_, rfl, rfl, rfl, rfl, rfl, rfl, rfl, rfl, rfl, rfl, rfl,
      rfl, ?_, rfl, occurrence_note (note_isSome_of_takeRecord hk) _, ?_, ?_⟩
    · rw [hmade]
      exact hent.own
    · simp [occurrence, newBooking, htemplate]
    · rw [hkeeps.2, (takeRecord_eq hfifo hk).2.2]
      rfl
    · rw [seriesAt_congr (congrArg SeriesUnit.list hkeeps.1), (takeRecord_eq hfifo hk).2.2]
      exact hx

end Sys2Proof.Machine
end

section
/-! SUPPORT. A series with some of its occurrences dealt with, and what dealing with them does to it (R58 to R61, R66). -/

namespace Sys2Proof.Machine

variable {s t u v : State} {id j k m n now target lapse fuel : Nat} {x y : Series} {d e : Dealt}

/-! ### The series -/

/-- The start of the occurrence that lies `k` periods after next_start (R59). -/
def Series.startOf (x : Series) (k : Nat) : Nat := x.nextStart + k * (x.period * 1440)

/-- The series with `n` occurrences dealt with, `m` of them skipped (R59, R60). -/
def Series.dealt (x : Series) (n m : Nat) : Series :=
  { x with
    nextStart := x.startOf n
    count := x.count - n
    state := if n ≠ 0 ∧ n = x.count then .finished else x.state
    skipCount := saturate^[m] x.skipCount
    mark := x.mark || decide (m ≠ 0) }

theorem dealt_zero (x : Series) : x.dealt 0 0 = x := by simp [Series.dealt, Series.startOf]

theorem startOf_succ (x : Series) (k : Nat) : x.startOf (k + 1) = x.startOf k + x.period * 1440 := by
  simp only [Series.startOf, Nat.succ_mul, Nat.add_assoc]

theorem startOf_mono (x : Series) (h : k ≤ n) : x.startOf k ≤ x.startOf n :=
  Nat.add_le_add_left (Nat.mul_le_mul_right _ h) _

/-- A period is at least a day, so each occurrence lies on a later day than the one before it. -/
theorem dayOf_startOf_succ (h : 1 ≤ x.period) (k : Nat) : dayOf (x.startOf k) + 1 ≤ dayOf (x.startOf (k + 1)) := by
  rw [startOf_succ, dayOf, dayOf, Config.dayMinutes, Nat.add_mul_div_right _ _ (by decide)]
  exact Nat.add_le_add_left h _

/-- An ACTIVE series has occurrences left (R59). -/
theorem left_of_active (h : (x.dealt n m).state = .active) : x.state = .active ∧ (n = 0 ∨ n ≠ x.count) := by
  have hs : (if n ≠ 0 ∧ n = x.count then SeriesState.finished else x.state) = .active := h
  split at hs
  · cases hs
  · exact ⟨hs, by tauto⟩

theorem advance_dealt (h : (x.dealt n m).state = .active) : (x.dealt n m).advance = x.dealt (n + 1) m := by
  obtain ⟨hs, hleft⟩ := left_of_active h
  have hstate : (if x.count - n = 1 then SeriesState.finished else (x.dealt n m).state) =
      if n + 1 ≠ 0 ∧ n + 1 = x.count then .finished else x.state := by
    rw [h, hs]
    by_cases hlast : n + 1 = x.count
    · rw [if_pos (by omega), if_pos ⟨Nat.succ_ne_zero n, hlast⟩]
    · rw [if_neg (by omega), if_neg fun hn => hlast hn.2]
  have hadvance : (x.dealt n m).advance = { x.dealt n m with
      nextStart := x.startOf n + x.period * 1440
      count := x.count - n - 1
      state := if x.count - n = 1 then .finished else (x.dealt n m).state } := rfl
  rw [hadvance, hstate, ← startOf_succ, Nat.sub_sub]
  rfl

theorem skip_dealt (x : Series) (n m : Nat) :
    { x.dealt n m with skipCount := saturate (x.dealt n m).skipCount, mark := true } = x.dealt n (m + 1) := by
  simp [Series.dealt, Function.iterate_succ_apply']

/-- skip_count stays at 255 (R60). -/
theorem saturate_iterate (h : k ≤ 255) (m : Nat) : saturate^[m] k = min (k + m) 255 := by
  induction m with
  | zero => exact (Nat.min_eq_left h).symm
  | succ m ih =>
    rw [Function.iterate_succ_apply', ih, saturate]
    omega

/-! ### Dealing with one occurrence -/

/-- The occurrences dealt with. -/
def Dealt.total (d : Dealt) : Nat := d.lapsed + d.made.length + d.skipped

/-- An occurrence lapses, is skipped, or is made of the record it takes (R60, R66). -/
theorem one_cases (d : Dealt) (now lapse id : Nat) (x : Series) :
    (x.nextStart < lapse ∧ d.one now lapse id x =
      { d with state := d.state.modSeries id Series.advance, lapsed := d.lapsed + 1 }) ∨
    (lapse ≤ x.nextStart ∧ d.one now lapse id x =
      { d with state := (d.state.skipOccurrence id).modSeries id Series.advance, skipped := d.skipped + 1 }) ∨
    lapse ≤ x.nextStart ∧ ∃ u k, d.state.takeRecord .part x.note.isSome x.template.isSome (some id) = some (u, k) ∧
      d.one now lapse id x = { d with
        state := (u.makeOccurrence now k (occurrence k id x (d.state.room x.room)) x.template).modSeries id Series.advance
        made := d.made ++ [k.handle] } := by
  unfold Dealt.one
  split
  · rename_i h
    exact .inl ⟨h, rfl⟩
  · rename_i h
    rcases materialise_cases d.state now id x with hm | ⟨u, k, hk, hm⟩ <;> rw [hm]
    · exact .inr (.inl ⟨Nat.not_lt.mp h, rfl⟩)
    · exact .inr (.inr ⟨Nat.not_lt.mp h, u, k, hk, rfl⟩)

theorem total_one (d : Dealt) (now lapse id : Nat) (x : Series) : (d.one now lapse id x).total = d.total + 1 := by
  rcases one_cases d now lapse id x with ⟨-, h⟩ | ⟨-, h⟩ | ⟨-, u, k, -, h⟩ <;> rw [h] <;>
    simp only [Dealt.total, List.length_append, List.length_singleton] <;> omega

/-- What dealing with occurrences of series `id`, which was `x` in `s`, has done to the series: each of those dealt with lies
within the target day, and those before `lapse` have lapsed. -/
structure Dealing (id target lapse : Nat) (x : Series) (s : State) (d : Dealt) : Prop where
  own : d.state.seriesAt id = some (x.dealt d.total d.skipped)
  others : ∀ j, j ≠ id → d.state.seriesAt j = s.seriesAt j
  list : d.state.series = { s.series with list := d.state.series.list }
  due : ∀ k, k < d.total → dayOf (x.startOf k) ≤ target
  lapses : ∀ k, k < d.lapsed → x.startOf k < lapse
  passed : d.lapsed < d.total → lapse ≤ x.startOf d.lapsed
  within : x.count = 0 ∨ d.total ≤ x.count

theorem dealing_start (hx : s.seriesAt id = some x) : Dealing id target lapse x s ⟨s, 0, [], 0⟩ where
  own := hx.trans (congrArg some (dealt_zero x).symm)
  others _ _ := rfl
  list := rfl
  due _ h := absurd h (Nat.not_lt_zero _)
  lapses _ h := absurd h (Nat.not_lt_zero _)
  passed h := absurd h (Nat.lt_irrefl _)
  within := .inr (Nat.zero_le _)

/-- One more occurrence has been dealt with: what was done with it leaves the series at `v`, and then it advances. -/
theorem Dealing.advance (h : Dealing id target lapse x s d) (ha : (x.dealt d.total d.skipped).state = .active)
    (hdue : dayOf (x.startOf d.total) ≤ target) (he : e.state = v.modSeries id Series.advance)
    (hv : v.seriesAt id = some (x.dealt d.total e.skipped)) (hothers : ∀ j, j ≠ id → v.seriesAt j = d.state.seriesAt j)
    (hlist : v.series = { d.state.series with list := v.series.list }) (htotal : e.total = d.total + 1)
    (hlapses : ∀ k, k < e.lapsed → x.startOf k < lapse) (hpassed : e.lapsed < e.total → lapse ≤ x.startOf e.lapsed) :
    Dealing id target lapse x s e where
  own := by
    rw [he, State.seriesAt_modSeries_same, hv, htotal]
    exact congrArg some (advance_dealt ha)
  others j hj := by
    rw [he, State.seriesAt_modSeries_other (Ne.symm hj), hothers j hj, h.others j hj]
  list := by
    have hmod : e.state.series = { v.series with list := e.state.series.list } := by rw [he]; rfl
    rw [hmod, hlist, h.list]
  due k hk := by
    rcases Nat.lt_succ_iff_lt_or_eq.mp (htotal ▸ hk) with hk | rfl
    · exact h.due k hk
    · exact hdue
  lapses := hlapses
  passed := hpassed
  within := by
    obtain ⟨-, hleft⟩ := left_of_active ha
    rw [htotal]
    rcases h.within with hw | hw
    · exact .inl hw
    · omega

/-- Only occurrences that have lapsed come before one that lapses. -/
theorem Dealing.total_of_lapse (h : Dealing id target lapse x s d) (hl : x.startOf d.total < lapse) : d.total = d.lapsed := by
  have hle : d.lapsed ≤ d.total := by unfold Dealt.total; omega
  by_contra hne
  have hlt : d.lapsed < d.total := by omega
  have := h.passed hlt
  have := startOf_mono x hle
  omega

theorem Dealing.passed_of_le (h : Dealing id target lapse x s d) (hl : lapse ≤ x.startOf d.total) :
    lapse ≤ x.startOf d.lapsed := by
  have hle : d.lapsed ≤ d.total := by unfold Dealt.total; omega
  rcases Nat.lt_or_eq_of_le hle with hlt | heq
  · exact h.passed hlt
  · rwa [heq]

theorem Dealing.one (h : Dealing id target lapse x s d) (hy : d.state.seriesAt id = some y) (ha : y.state = .active)
    (hdue : dayOf y.nextStart ≤ target) (now : Nat) : Dealing id target lapse x s (d.one now lapse id y) := by
  obtain rfl : x.dealt d.total d.skipped = y := Option.some.inj (h.own.symm.trans hy)
  have htotal := total_one d now lapse id (x.dealt d.total d.skipped)
  rcases one_cases d now lapse id (x.dealt d.total d.skipped) with ⟨hl, he⟩ | ⟨hl, he⟩ | ⟨hl, u, k, hk, he⟩ <;>
    rw [he] at htotal ⊢
  · have hall := h.total_of_lapse hl
    refine h.advance ha hdue rfl h.own (fun _ _ => rfl) rfl htotal (fun k hk => ?_) fun hlt => ?_
    · rcases Nat.lt_succ_iff_lt_or_eq.mp hk with hk | rfl
      · exact h.lapses k hk
      · exact hall ▸ hl
    · exact absurd hlt (by rw [htotal, hall]; exact Nat.lt_irrefl _)
  · refine h.advance ha hdue rfl ((seriesAt_skipOccurrence h.own).trans (congrArg some (skip_dealt ..)))
      (fun j hj => seriesAt_skipOccurrence_other (Ne.symm hj)) rfl htotal h.lapses fun _ => h.passed_of_le hl
  · have hseries : (u.makeOccurrence now k (occurrence k id (x.dealt d.total d.skipped)
        (d.state.room (x.dealt d.total d.skipped).room)) (x.dealt d.total d.skipped).template).series = d.state.series := by
      obtain ⟨i, rest, -, -, -, -, -, -, hu⟩ := takeRecord_some hk
      exact (makeOccurrence_keeps ..).1.trans (by rw [hu])
    refine h.advance ha hdue rfl ?_ (fun j _ => seriesAt_congr (congrArg SeriesUnit.list hseries) j) (by rw [hseries]) htotal
      h.lapses fun _ => h.passed_of_le hl
    rw [seriesAt_congr (congrArg SeriesUnit.list hseries)]
    exact h.own

/-! ### Dealing with all of them -/

/-- What each occurrence keeps, dealing with all of them keeps (R58, R61). -/
theorem upTo_invariant {P : Dealt → Prop} (hone : ∀ d y, P d → d.state.seriesAt id = some y → y.state = .active →
    dayOf y.nextStart ≤ target → P (d.one now lapse id y)) (fuel : Nat) :
    ∀ {d : Dealt}, P d → P (Dealt.upTo now target lapse id fuel d) := by
  induction fuel with
  | zero => exact fun hd => hd
  | succ fuel ih =>
    intro d hd
    unfold Dealt.upTo
    split
    · exact hd
    · rename_i y hy
      split
      · rename_i hdue
        exact ih (hone d y hd hy hdue.1 hdue.2)
      · exact hd

/-- One occurrence for each day up to the target's is enough: none is left due. -/
theorem upTo_exhausts (hp : 1 ≤ x.period) (fuel : Nat) : ∀ {d : Dealt}, Dealing id target lapse x s d →
    target + 1 - dayOf (x.startOf d.total) ≤ fuel → ∀ {y},
    (Dealt.upTo now target lapse id fuel d).state.seriesAt id = some y → y.state ≠ .active ∨ target < dayOf y.nextStart := by
  induction fuel with
  | zero =>
    intro d hd hfuel y hy
    obtain rfl := Option.some.inj (hd.own.symm.trans hy)
    refine .inr (?_ : target < dayOf (x.startOf d.total))
    omega
  | succ fuel ih =>
    intro d hd hfuel y hy
    simp only [Dealt.upTo, hd.own] at hy
    split at hy
    · rename_i hdue
      refine ih (hd.one hd.own hdue.1 hdue.2 now) ?_ hy
      have := dayOf_startOf_succ hp d.total
      rw [total_one]
      omega
    · rename_i hno
      obtain rfl := Option.some.inj (hd.own.symm.trans hy)
      by_contra hcon
      rw [not_or, not_not, not_lt] at hcon
      exact hno hcon

theorem dealing_dealSeries (hx : s.seriesAt id = some x) (now target lapse : Nat) :
    Dealing id target lapse x s (s.dealSeries now target lapse id) :=
  upTo_invariant (fun _ _ hd hy ha hdue => hd.one hy ha hdue now) _ (dealing_start hx)

theorem dealSeries_exhausts (hx : s.seriesAt id = some x) (hp : 1 ≤ x.period) {y : Series}
    (hy : (s.dealSeries now target lapse id).state.seriesAt id = some y) :
    y.state ≠ .active ∨ target < dayOf y.nextStart := by
  refine upTo_exhausts hp _ (dealing_start hx) ?_ hy
  simp only [hx]
  exact Nat.le_of_eq (congrArg (fun m => target + 1 - dayOf m) (congrArg Series.nextStart (dealt_zero x)))

/-- A series with nothing due, and a free id, are left. -/
theorem dealSeries_idle (h : ∀ x, s.seriesAt id = some x → x.state ≠ .active ∨ target < dayOf x.nextStart) :
    s.dealSeries now target lapse id = ⟨s, 0, [], 0⟩ := by
  have hno (fuel : Nat) : Dealt.upTo now target lapse id fuel ⟨s, 0, [], 0⟩ = ⟨s, 0, [], 0⟩ := by
    cases fuel with
    | zero => rfl
    | succ fuel =>
      unfold Dealt.upTo
      split
      · rfl
      · rename_i x hx
        refine if_neg fun hdue => ?_
        rcases h x hx with h | h
        · exact h hdue.1
        · exact Nat.not_lt.mpr hdue.2 h
  exact hno _

end Sys2Proof.Machine
end

section
/-! SUPPORT. The materialisation walk (R61). -/

namespace Sys2Proof.Machine

variable {s v : State} {day id d : Nat} {rest : List Nat} {x y : Series}

/-! ### Day events -/

theorem materialisationWalk_day (h : s.owed.materialisations = d :: rest) : exec .materialisationWalk s =
    .next (({ s with owed := { s.owed with materialisations := rest } } : State).materialisationDay d).followAttn := by
  show execMaterialisationWalk s = _
  rw [execMaterialisationWalk, h]
  rfl

theorem materialisationDay_of_idle (h : v.series.walk = none) (d : Nat) :
    v.materialisationDay d = v.beginMaterialisation d := by simp [State.materialisationDay, h]

theorem materialisationDay_of_walking (h : v.series.walk ≠ none) (d : Nat) :
    v.materialisationDay d = { v with series := { v.series with pendingDay := some d } } := by
  simp [State.materialisationDay, Option.isSome_iff_ne_none.mpr h]

/-! ### The walk's steps -/

theorem materialisationWalkStep_before (hw : s.series.walk = some ⟨day, id⟩) (hid : id < 1023) :
    exec .materialisationWalkStep s = doneLists s { s.materialiseVisit day id with
      series := { (s.materialiseVisit day id).series with walk := some ⟨day, id + 1⟩ } } := by
  have hlt : id + 1 < Config.seriesIds := by
    show id + 1 < 1024
    omega
  show execMaterialisationWalkStep s = _
  simp only [execMaterialisationWalkStep, hw, if_pos hlt]

/-- The series unit when a walk of a day ends, and the walk of a pending day begins (R61). -/
def SeriesUnit.ended (u : SeriesUnit) (day : Nat) : SeriesUnit :=
  { u with walk := u.pendingDay.map fun d => ⟨d, 0⟩, lastDay := some day, pendingDay := none }

theorem endMaterialisation_eq (h : v.catchUp = none) (day : Nat) :
    v.endMaterialisation day = { v with series := v.series.ended day } := by
  unfold State.endMaterialisation
  dsimp only
  split
  · rename_i p hp
    simp [State.beginMaterialisation, SeriesUnit.ended, hp]
  · rename_i hp
    simp [State.afterDayWalk, SeriesUnit.ended, h, hp]

theorem materialisationWalkStep_last (hw : s.series.walk = some ⟨day, 1023⟩) (hc : s.catchUp = none) :
    exec .materialisationWalkStep s = doneLists s { s.materialiseVisit day 1023 with
      series := (s.materialiseVisit day 1023).series.ended day } := by
  have hlt : ¬ 1023 + 1 < Config.seriesIds := by decide
  have hcatch : (s.materialiseVisit day 1023).catchUp = none :=
    (catchUp_of_outside (outside_materialiseVisit s day 1023)).trans hc
  show execMaterialisationWalkStep s = _
  simp only [execMaterialisationWalkStep, hw, if_neg hlt, endMaterialisation_eq hcatch]

/-- A free id and a series with nothing due are passed over. -/
theorem materialiseVisit_idle
    (h : ∀ x, s.seriesAt id = some x → x.state ≠ .active ∨ day + 28 < x.nextStart / 1440) :
    s.materialiseVisit day id = s := congrArg Dealt.state (dealSeries_idle h)

/-- From `s` to `v` the walk for a day has visited an ACTIVE series (R61): its record has been dealt with until nothing is due
by the target day, and the other series, the walk and the cancel passes stand. -/
structure Visited (day id : Nat) (x : Series) (s v : State) : Prop where
  own : ∃ n m, v.seriesAt id = some (x.dealt n m)
  done : ∀ y, v.seriesAt id = some y → y.state ≠ .active ∨ day + 28 < y.nextStart / 1440
  others : ∀ j, j ≠ id → v.seriesAt j = s.seriesAt j
  list : v.series = { s.series with list := v.series.list }

theorem visited_materialiseVisit (hx : s.seriesAt id = some x) (hp : 1 ≤ x.period) :
    Visited day id x s (s.materialiseVisit day id) := by
  obtain ⟨hown, hothers, hlist, -⟩ := dealing_dealSeries hx s.walkNow (day + Config.seriesHorizon)
    (match s.catchUp with | some c => c.minute | none => 0)
  exact ⟨⟨_, _, hown⟩, fun _ hy => dealSeries_exhausts hx hp hy, hothers, hlist⟩

/-- What a step leaves of a series that it visits, whichever walk the Series Unit then has. -/
theorem walked_of_visited (h : Visited day id x s v) (hout : v.outside = s.outside) {r : SeriesUnit}
    (hr : r.list = v.series.list) :
    ∃ t y, doneLists s { v with series := r } = .next t ∧ t.seriesAt id = some y ∧ t.series = r ∧
      (y.state ≠ .active ∨ day + 28 < y.nextStart / 1440) ∧ y.period = x.period ∧ x.nextStart ≤ y.nextStart ∧
      (y.nextStart - x.nextStart) % (x.period * 1440) = 0 ∧ (∀ j, j ≠ id → t.seriesAt j = s.seriesAt j) ∧
      t.link = s.link ∧ t.clock = s.clock := by
  obtain ⟨n, m, hown⟩ := h.own
  have hseries : (({ v with series := r } : State).relist s).followAttn.series = r := by
    rw [State.followAttn_series, relist_series]
  have hat (j : Nat) : (({ v with series := r } : State).relist s).followAttn.seriesAt j = v.seriesAt j :=
    seriesAt_congr (by rw [hseries, hr]) j
  have hrelist : (({ v with series := r } : State).relist s).outside = s.outside := (outside_relist ..).trans hout
  refine ⟨_, x.dealt n m, rfl, (hat id).trans hown, hseries, h.done _ hown, rfl, Nat.le_add_right .., ?_,
    fun j hj => (hat j).trans (h.others j hj), (State.followAttn_link _).trans (link_of_outside hrelist),
    (State.followAttn_clock _).trans (clock_of_outside hrelist)⟩
  show (x.nextStart + n * (x.period * 1440) - x.nextStart) % (x.period * 1440) = 0
  rw [Nat.add_sub_cancel_left, Nat.mul_mod_left]

/-- Settles O26: each step deals with what is due of one series, and moves the walk on or ends it. -/
theorem materialisationWalkDealsWithEachSeries : Obligations.MaterialisationWalkDealsWithEachSeries := by
  refine fun s => ⟨fun d rest h => ⟨fun hw => ?_, fun hw => ?_⟩, fun day id hw => ⟨fun hidle hid => ?_, fun x hx hp hlast => ?_,
    fun hid hc hidle => ?_⟩⟩
  · rw [materialisationWalk_day h, materialisationDay_of_idle (by exact hw)]
    rfl
  · rw [materialisationWalk_day h, materialisationDay_of_walking (by exact hw)]
  · rw [materialisationWalkStep_before hw hid, materialiseVisit_idle hidle]
    exact doneLists_of_congr rfl rfl rfl
  · have hvisit := visited_materialiseVisit (day := day) hx hp
    have hout := outside_materialiseVisit s day id
    rcases hlast with hid | ⟨rfl, hc⟩
    · obtain ⟨t, y, ht, hy, hseries, hrest⟩ := walked_of_visited hvisit hout
        (r := { (s.materialiseVisit day id).series with walk := some ⟨day, id + 1⟩ }) rfl
      refine ⟨t, y, (materialisationWalkStep_before hw hid).trans ht, hy, fun _ => ?_, fun h => by omega, hrest⟩
      rw [hseries, hvisit.list]
      exact ⟨rfl, rfl, rfl⟩
    · obtain ⟨t, y, ht, hy, hseries, hrest⟩ := walked_of_visited hvisit hout
        (r := (s.materialiseVisit day 1023).series.ended day) rfl
      refine ⟨t, y, (materialisationWalkStep_last hw hc).trans ht, hy, fun h => by omega, fun _ => ?_, hrest⟩
      rw [hseries, hvisit.list]
      exact ⟨rfl, rfl, rfl⟩
  · subst hid
    rw [materialisationWalkStep_last hw hc, materialiseVisit_idle hidle]
    exact doneLists_of_congr rfl rfl rfl

end Sys2Proof.Machine
end

section
/-! SUPPORT. The bookings that dealing with the occurrences of a series makes (R58, R60, R66). -/

namespace Sys2Proof.Machine

variable {s t u v : State} {id k n now target lapse : Nat} {x y : Series} {d : Dealt} {h : Handle}

/-- The sizes of the tables that a creation reads. -/
theorem lengths_of_shaped (h : s.shaped = true) : s.rooms.length = Config.rooms ∧ s.dir.entries.length = Config.handles ∧
    s.dir.refs.length = Config.seriesIds := by
  obtain ⟨hsizes, hslots, -, -⟩ := shaped_iff.mp h
  simp only [State.ledger, List.length_map, List.cons.injEq, and_true] at hsizes hslots
  obtain ⟨-, hrooms, -, hrefs, -⟩ := hsizes
  exact ⟨hrooms, hslots, hrefs⟩

/-- The booking of a handle is that of an occurrence dealt with after those that lapsed, and stands on its room's timeline. -/
def Dealt.Stands (d : Dealt) (id : Nat) (x : Series) (h : Handle) : Prop :=
  ∃ b k, d.state.bookingAt h.idx = some b ∧ b.IsOccurrence id x (x.startOf k) h ∧ d.lapsed ≤ k ∧ k < d.total ∧
    h ∈ (d.state.room x.room).timeline

/-- What dealing with occurrences of series `id` has made: its handles are those that headed the FIFO, each stands, and each
counts once among the references of the series. -/
structure Booked (id : Nat) (x : Series) (s : State) (d : Dealt) : Prop where
  shaped : d.state.shaped = true
  fifo : s.dir.fifo = d.made.map Handle.idx ++ d.state.dir.fifo
  refs : d.state.dir.refs.getD id 0 = s.dir.refs.getD id 0 + d.made.length
  stands : ∀ h ∈ d.made, d.Stands id x h

theorem booked_start (hs : s.shaped = true) : Booked id x s ⟨s, 0, [], 0⟩ :=
  ⟨hs, rfl, rfl, fun _ hh => absurd hh (List.not_mem_nil)⟩

/-- No handle is made twice. -/
theorem Booked.nodup (h : Booked id x s d) (hf : s.dir.fifo.Nodup) : d.made.Nodup :=
  (h.fifo ▸ hf).of_append_left.of_map

/-- What stands goes on standing while its entry and its place on the timeline are left. -/
theorem Dealt.Stands.later {e : Dealt} (hd : d.Stands id x h) (hb : e.state.bookingAt h.idx = d.state.bookingAt h.idx)
    (ht : h ∈ (d.state.room x.room).timeline → h ∈ (e.state.room x.room).timeline) (hl : e.lapsed = d.lapsed)
    (hn : d.total ≤ e.total) : e.Stands id x h := by
  obtain ⟨b, k, hat, hocc, hlapsed, hk, hmem⟩ := hd
  exact ⟨b, k, hb.trans hat, hocc, hl ▸ hlapsed, Nat.lt_of_lt_of_le hk hn, ht hmem⟩

/-- One more occurrence has been made, and the series has advanced. -/
theorem Booked.stands_made (hb : Booked id x s d) (hf : s.dir.fifo.Nodup) {g : Handle}
    (ho : Occurred id (x.dealt d.total d.skipped) g d.state v) :
    ∀ i ∈ d.made ++ [g],
      Dealt.Stands ⟨v.modSeries id Series.advance, d.lapsed, d.made ++ [g], d.skipped⟩ id x i := by
  have htotal : Dealt.total ⟨v.modSeries id Series.advance, d.lapsed, d.made ++ [g], d.skipped⟩ = d.total + 1 := by
    simp only [Dealt.total, List.length_append, List.length_singleton]
    omega
  intro i hi
  rcases List.mem_append.mp hi with hi | hi
  · have hne : i.idx ≠ g.idx := by
      have hdisjoint := List.disjoint_of_nodup_append (hb.fifo ▸ hf)
      rw [ho.fifo] at hdisjoint
      exact fun heq => hdisjoint (List.mem_map_of_mem hi) (heq ▸ List.mem_cons_self)
    exact (hb.stands i hi).later (ho.others i.idx hne) (fun hmem => (ho.timeline i).mpr (.inr hmem)) rfl
      (by rw [htotal]; exact Nat.le_succ _)
  · obtain rfl := List.mem_singleton.mp hi
    obtain ⟨b, hat, hocc⟩ := ho.own
    refine ⟨b, d.total, hat, ⟨hocc.handle, hocc.room, hocc.series, hocc.source, hocc.startMin, hocc.endMin⟩, ?_, ?_,
      (ho.timeline i).mpr (.inl rfl)⟩
    · show d.lapsed ≤ d.lapsed + d.made.length + d.skipped
      omega
    · rw [htotal]
      exact Nat.lt_succ_self _

theorem Dealing.booked_one (h : Dealing id target lapse x s d) (hb : Booked id x s d) (hf : s.fifoRight)
    (hroom : x.room < Config.rooms) (hid : id < Config.seriesIds) (hy : d.state.seriesAt id = some y) (now : Nat) :
    Booked id x s (d.one now lapse id y) := by
  obtain rfl : x.dealt d.total d.skipped = y := Option.some.inj (h.own.symm.trans hy)
  have hshaped := shaped_iff.mpr ((conserves_one d now lapse id (x.dealt d.total d.skipped)).shaped (shaped_iff.mp hb.shaped))
  have htotal := total_one d now lapse id (x.dealt d.total d.skipped)
  rcases one_cases d now lapse id (x.dealt d.total d.skipped) with ⟨hl, he⟩ | ⟨-, he⟩ | ⟨-, u, k, hk, he⟩ <;>
    rw [he] at hshaped htotal ⊢
  · have hnone : d.made = [] := by
      have hall := h.total_of_lapse hl
      unfold Dealt.total at hall
      exact List.eq_nil_of_length_eq_zero (by omega)
    exact ⟨hshaped, hb.fifo, hb.refs, by simp [hnone]⟩
  · exact ⟨hshaped, hb.fifo, hb.refs, fun i hi => (hb.stands i hi).later rfl (fun hmem => hmem) rfl (htotal ▸ Nat.le_succ _)⟩
  · obtain ⟨hrooms, hentries, hrefs⟩ := lengths_of_shaped hb.shaped
    have hlt : ∀ j ∈ d.state.dir.fifo, j < d.state.dir.entries.length := fun j hj =>
      hentries ▸ ((hf.2 j).mp (hb.fifo ▸ List.mem_append_right _ hj)).1
    have ho := occurred_makeOccurrence (now := now) hlt (hrooms ▸ hroom) hk (d.state.room (x.dealt d.total d.skipped).room)
    refine ⟨hshaped, ?_, ?_, hb.stands_made hf.1 ho⟩
    · rw [hb.fifo, ho.fifo, List.map_append, List.append_assoc]
      rfl
    · refine (congrArg (fun l => l.getD id 0) ho.refs).trans ?_
      rw [getD_modify_same (hrefs ▸ hid), hb.refs, List.length_append]
      rfl

/-- All that dealing with the occurrences of an ACTIVE series leaves, in a part whose tables and FIFO are right. -/
theorem booked_dealSeries (hx : s.seriesAt id = some x) (hs : s.shaped = true) (hf : s.fifoRight) (hroom : x.room < Config.rooms)
    (hid : id < Config.seriesIds) (now target lapse : Nat) :
    Dealing id target lapse x s (s.dealSeries now target lapse id) ∧ Booked id x s (s.dealSeries now target lapse id) :=
  upTo_invariant (P := fun d => Dealing id target lapse x s d ∧ Booked id x s d)
    (fun _ _ hd hy ha hdue => ⟨hd.1.one hy ha hdue now, hd.1.booked_one hd.2 hf hroom hid hy now⟩) _
    ⟨dealing_start hx, booked_start hs⟩

/-- A series that was ACTIVE is so still, with its next occurrence after the target day, or its count has run out (R58,
R59). -/
theorem Dealing.standing (h : Dealing id target lapse x s d) (ha : x.state = .active)
    (hdone : ∀ y, d.state.seriesAt id = some y → y.state ≠ .active ∨ target < dayOf y.nextStart) :
    (x.dealt d.total d.skipped).state = .active ∧ target < dayOf (x.startOf d.total) ∧ (x.count = 0 ∨ d.total < x.count) ∨
      (x.dealt d.total d.skipped).state = .finished ∧ x.count = d.total := by
  have hstate : (x.dealt d.total d.skipped).state = if d.total ≠ 0 ∧ d.total = x.count then .finished else x.state := rfl
  by_cases hout : d.total ≠ 0 ∧ d.total = x.count
  · exact .inr ⟨hstate.trans (if_pos hout), hout.2.symm⟩
  · rw [if_neg hout, ha] at hstate
    refine .inl ⟨hstate, (hdone _ h.own).resolve_left (not_not.mpr hstate), ?_⟩
    have := h.within
    omega

end Sys2Proof.Machine
end

section
/-! SUPPORT. END_SERIES and RESUME_SERIES (R65, R66). -/

namespace Sys2Proof.Machine

variable {s s1 t u v : State} {ref : HostRef} {tag : Byte} {kind id now target lapse : Nat} {c : Instr} {x y : Series}
  {d : Dealt} {g : Handle} {st : Status} {body : List Field}

/-! ### What a request that deals with occurrences leaves and answers -/

/-- A request that its owner answers, with what its last acts leave. -/
theorem taken_closed {owner : State → Reply} (hr : requestOf c = some (tag, kind)) (h : s.taken c = some (s1, ref))
    (ho : owner s1 = ⟨v, st, body⟩) : ∃ t, hostNow tag kind c owner s = .next t ∧ Closed ref st body v t := by
  refine ⟨_, hostNow_taken owner (takeRequest_of_taken hr h), ?_⟩
  rw [ho]
  exact closed_request ..

/-- An answer changes the link and ATTN alone. -/
theorem answered_keeps (v : State) (ref : HostRef) (st : Status) (body : List Field) :
    v.answered ref st body = { v with link := (v.answered ref st body).link, attn := (v.answered ref st body).attn } := by
  unfold State.answered State.answer
  split <;> rfl

/-- What stands among the records that a request leaves. -/
theorem Dealt.Stands.read (h : d.Stands id x g) (hd : t.dir = d.state.dir) (hr : t.rooms = d.state.rooms) :
    ∃ b k, t.bookingAt g.idx = some b ∧ b.handle = g ∧ b.room = x.room ∧ b.series = some id ∧ b.source = .series ∧
      d.lapsed ≤ k ∧ k < d.total ∧ b.startMin = x.startOf k ∧ b.endMin = b.startMin + x.length ∧
      g ∈ (t.room x.room).timeline := by
  obtain ⟨b, k, hb, hocc, hlapsed, hk, hmem⟩ := h
  exact ⟨b, k, (State.bookingAt_congr hd _).trans hb, hocc.handle, hocc.room, hocc.series, hocc.source, hlapsed, hk,
    hocc.startMin, by rw [hocc.endMin, hocc.startMin], by rwa [room_congr hr]⟩

/-- The handles made, the number skipped, and the standing of the series left, in an answer (R58, R66). -/
def Dealt.report (d : Dealt) (id : Nat) : List Field :=
  listField (fun h => [handleField h]) d.made ++ [u8 d.skipped] ++ d.state.seriesStanding id

theorem report_eq (hy : d.state.seriesAt id = some y) : d.report id =
    listField (fun h => [.handle (some h)]) d.made ++
      [.num 1 (some d.skipped), .num 1 (some y.state.code), .num 1 (some y.count), .num 4 (some y.nextStart)] := by
  simp only [Dealt.report, State.seriesStanding, hy, List.append_assoc]
  rfl

/-! ### The common tests -/

theorem seriesRequest_ok (hr : s.running = true) (hc : s.catching = false) (hid : id ≤ 1023) (hx : s.seriesAt id = some x) :
    s.seriesRequest id = .ok x := by
  have hlt : ¬ Config.seriesIds ≤ id := by simp only [Config.seriesIds]; omega
  simp [State.seriesRequest, hr, hc, hlt, hx]

/-! ### END_SERIES -/

/-- The series is FINISHED, keeps its count, and owes its cancel pass (R65). -/
def State.finishSeries (s : State) (id : Nat) : State :=
  let s1 := s.modSeries id fun x => { x with state := .finished, passOwed := true }
  { s1 with series := { s1.series with passQueue := addNew id s1.series.passQueue } }

theorem endSeries_refused (ht : s.taken (.endSeries tag id) = some (s1, ref)) (hreq : s1.seriesRequest id = .ok x) :
    (x.state = .finished → exec (.endSeries tag id) s = .next (s1.answered ref .already [])) ∧
      (x.state ≠ .finished → x.passOwed = true → exec (.endSeries tag id) s = .next (s1.answered ref .wait [])) := by
  refine ⟨fun hst => ?_, fun hst hp => ?_⟩
  · exact taken_reads rfl ht (by simp only [hreq, if_pos hst]; rfl)
  · exact taken_reads rfl ht (by simp only [hreq, if_neg hst, hp, if_true]; rfl)

theorem endSeries_finishes (ht : s.taken (.endSeries tag id) = some (s1, ref)) (hreq : s1.seriesRequest id = .ok x)
    (hst : x.state ≠ .finished) (hp : x.passOwed = false) : exec (.endSeries tag id) s =
      .next ((s1.finishSeries id).answered ref .ok [.num 2 (some (s1.bookedOccurrences id))]) :=
  hostNow_plain (u := s1.finishSeries id) (takeRequest_of_taken rfl ht)
    (by simp only [hreq, if_neg hst, hp, Bool.false_eq_true, if_false]; rfl) rfl rfl rfl

/-! ### RESUME_SERIES -/

/-- The series ACTIVE again, with no no-shows (R66). -/
def Series.resumed (x : Series) : Series := { x with state := .active, noShows := 0 }

theorem resumeSeries_refused (ht : s.taken (.resumeSeries tag id) = some (s1, ref)) (hreq : s1.seriesRequest id = .ok x) :
    (x.state = .active → exec (.resumeSeries tag id) s = .next (s1.answered ref .already [])) ∧
      (x.state = .finished → exec (.resumeSeries tag id) s = .next (s1.answered ref .badState [])) ∧
      (x.state = .suspended → x.passOwed = true → exec (.resumeSeries tag id) s = .next (s1.answered ref .wait [])) := by
  refine ⟨fun hst => ?_, fun hst => ?_, fun hst hp => ?_⟩
  · exact taken_reads rfl ht (by simp only [hreq, hst]; rfl)
  · exact taken_reads rfl ht (by simp only [hreq, hst]; rfl)
  · exact taken_reads rfl ht (by simp only [hreq, hst, hp, if_true]; rfl)

/-- What RESUME_SERIES does to the occurrences of the series (R66). -/
def State.resumeDealt (s : State) (id : Nat) : Dealt :=
  (s.modSeries id Series.resumed).dealSeries s.clock.minute s.horizonDay s.clock.minute id

theorem seriesAt_resumed (hx : s.seriesAt id = some x) : (s.modSeries id Series.resumed).seriesAt id = some x.resumed := by
  rw [State.seriesAt_modSeries_same, hx]
  rfl

theorem resumeDealt_deals (hx : s.seriesAt id = some x) (hs : s.shaped = true) (hf : s.fifoRight) (hroom : x.room < 512)
    (hid : id ≤ 1023) (hper : 1 ≤ x.period) :
    Dealing id s.horizonDay s.clock.minute x.resumed (s.modSeries id Series.resumed) (s.resumeDealt id) ∧
      Booked id x.resumed (s.modSeries id Series.resumed) (s.resumeDealt id) ∧
      ∀ y, (s.resumeDealt id).state.seriesAt id = some y → y.state ≠ .active ∨ s.horizonDay < dayOf y.nextStart := by
  have hshaped : (s.modSeries id Series.resumed).shaped = true :=
    shaped_iff.mpr (ledger_modSeries s (f := Series.resumed) (fun _ => rfl) id ▸ shaped_iff.mp hs)
  obtain ⟨hdeal, hbooked⟩ := booked_dealSeries (seriesAt_resumed hx) hshaped hf hroom (Nat.lt_succ_of_le hid) s.clock.minute
    s.horizonDay s.clock.minute
  exact ⟨hdeal, hbooked, fun y hy => dealSeries_exhausts (seriesAt_resumed hx) hper hy⟩

theorem resumeSeries_deals (ht : s.taken (.resumeSeries tag id) = some (s1, ref)) (hreq : s1.seriesRequest id = .ok x)
    (hst : x.state = .suspended) (hp : x.passOwed = false) : ∃ t, exec (.resumeSeries tag id) s = .next t ∧
      Closed ref .ok (.num 4 (some (s1.resumeDealt id).lapsed) :: (s1.resumeDealt id).report id) (s1.resumeDealt id).state t :=
  taken_closed rfl ht (by simp only [hreq, hst, hp, Bool.false_eq_true, if_false]; rfl)

/-- With nothing due the series is ACTIVE again, and no more (R66). -/
theorem resumeSeries_idle (ht : s.taken (.resumeSeries tag id) = some (s1, ref)) (hreq : s1.seriesRequest id = .ok x)
    (hst : x.state = .suspended) (hp : x.passOwed = false) (hd : s1.resumeDealt id = ⟨s1.modSeries id Series.resumed, 0, [], 0⟩) :
    ∃ body, exec (.resumeSeries tag id) s = .next ((s1.modSeries id Series.resumed).answered ref .ok body) :=
  ⟨_, hostNow_plain (u := s1.modSeries id Series.resumed) (takeRequest_of_taken rfl ht)
    (by
      simp only [hreq, hst, hp, Bool.false_eq_true, if_false]
      exact congrArg (fun d : Dealt => (⟨d.state, .ok, _⟩ : Reply)) hd) rfl rfl rfl⟩

/-! ### The statement -/

/-- END_SERIES by the state of its series (R65). -/
theorem endSeries_answers (hr : s1.running = true) (hc : s1.catching = false) (hid : id ≤ 1023) (hx : s1.seriesAt id = some x)
    (ht : s.taken (.endSeries tag id) = some (s1, ref)) (hst : x.state ≠ .finished) (hp : x.passOwed = false) :
    ∃ t, exec (.endSeries tag id) s = .next t ∧
      t.seriesAt id = some { x with state := .finished, passOwed := true } ∧ id ∈ t.series.passQueue ∧
      (∀ j, j ≠ id → t.seriesAt j = s1.seriesAt j) ∧
      t.link = (s1.answer ref .ok [.num 2 (some (s1.bookedOccurrences id))]).link ∧
      t = { s1 with series := { s1.series with list := t.series.list, passQueue := t.series.passQueue }
                    link := t.link, attn := t.attn } := by
  have hkeeps := answered_keeps (s1.finishSeries id) ref .ok [.num 2 (some (s1.bookedOccurrences id))]
  have hseries : ((s1.finishSeries id).answered ref .ok [.num 2 (some (s1.bookedOccurrences id))]).series =
      (s1.finishSeries id).series := by rw [hkeeps]
  have hat (j : Nat) : ((s1.finishSeries id).answered ref .ok [.num 2 (some (s1.bookedOccurrences id))]).seriesAt j =
      (s1.modSeries id fun x => { x with state := .finished, passOwed := true }).seriesAt j :=
    seriesAt_congr (by rw [hseries]; rfl) j
  refine ⟨_, endSeries_finishes ht (seriesRequest_ok hr hc hid hx) hst hp, ?_, ?_, fun j hj => ?_, ?_, ?_⟩
  · rw [hat, State.seriesAt_modSeries_same, hx]
    rfl
  · rw [hseries]
    exact mem_addNew ..
  · rw [hat, State.seriesAt_modSeries_other (Ne.symm hj)]
  · exact (State.followAttn_link _).trans (answer_link_congr (t := s1.finishSeries id) (s := s1) rfl _ _)
  · rw [hseries]
    exact hkeeps

/-- RESUME_SERIES of a series with its next start beyond the horizon (R66). -/
theorem resumeSeries_beyond (hr : s1.running = true) (hc : s1.catching = false) (hid : id ≤ 1023)
    (hx : s1.seriesAt id = some x) (ht : s.taken (.resumeSeries tag id) = some (s1, ref)) (hst : x.state = .suspended)
    (hp : x.passOwed = false) (hbeyond : s1.clock.minute / 1440 + 28 < x.nextStart / 1440) :
    ∃ t body, exec (.resumeSeries tag id) s = .next t ∧ t.seriesAt id = some { x with state := .active, noShows := 0 } ∧
      t.link = (s1.answer ref .ok body).link ∧
      t = { s1 with series := { s1.series with list := t.series.list }, link := t.link, attn := t.attn } := by
  have hresumed := seriesAt_resumed hx
  obtain ⟨body, hexec⟩ := resumeSeries_idle ht (seriesRequest_ok hr hc hid hx) hst hp (dealSeries_idle fun y hy => by
    obtain rfl := Option.some.inj (hresumed.symm.trans hy)
    exact .inr hbeyond)
  have hkeeps := answered_keeps (s1.modSeries id Series.resumed) ref .ok body
  have hseries : ((s1.modSeries id Series.resumed).answered ref .ok body).series =
      (s1.modSeries id Series.resumed).series := by rw [hkeeps]
  refine ⟨_, body, hexec, ?_, ?_, ?_⟩
  · rw [seriesAt_congr (congrArg SeriesUnit.list hseries)]
    exact hresumed
  · exact (State.followAttn_link _).trans (answer_link_congr (t := s1.modSeries id Series.resumed) (s := s1) rfl _ _)
  · rw [hseries]
    exact hkeeps

/-- Settles O25: RESUME deals with what is due from an empty result, so what lapsed and what was made come in start order. -/
theorem seriesEndedAndResumed : Obligations.SeriesEndedAndResumed := by
  intro s s1 ref tag id x hr hc hid hx
  have hreq := seriesRequest_ok hr hc hid hx
  refine ⟨fun ht => ?_, fun ht => ?_⟩
  · obtain ⟨hfinished, howed⟩ := endSeries_refused ht hreq
    exact ⟨hfinished, howed, endSeries_answers hr hc hid hx ht⟩
  obtain ⟨hactive, hfinished, howed⟩ := resumeSeries_refused ht hreq
  refine ⟨hactive, hfinished, howed, resumeSeries_beyond hr hc hid hx ht, fun hst hp hdue hs hf hper hskip hroom => ?_⟩
  obtain ⟨hdeal, hbooked, hdone⟩ := resumeDealt_deals hx hs hf hroom hid hper
  obtain ⟨t, hexec, hclosed⟩ := resumeSeries_deals ht hreq hst hp
  have hout : (s1.resumeDealt id).state.outside = s1.outside := outside_dealSeries ..
  generalize s1.resumeDealt id = d at hdeal hbooked hdone hclosed hout
  rw [report_eq hdeal.own] at hclosed
  have hat (j : Nat) : t.seriesAt j = d.state.seriesAt j := seriesAt_congr (congrArg SeriesUnit.list hclosed.series) j
  refine ⟨t, _, d.lapsed, d.skipped, d.total, d.made, hexec, (hat id).trans hdeal.own, rfl, rfl, rfl,
    hdeal.standing rfl hdone, hdeal.lapses, hdeal.passed, saturate_iterate hskip _, fun h0 => ?_, fun h0 => ?_, rfl, hp,
    hbooked.nodup hf.1, fun h hh => (hbooked.stands h hh).read hclosed.dir hclosed.rooms, ?_, fun j hj => ?_,
    hclosed.link.trans (answer_link_congr (link_of_outside hout) _ _)⟩
  · simp [Series.dealt, Series.resumed, h0]
  · simp [Series.dealt, h0]
  · rw [hclosed.dir]
    exact hbooked.refs
  · rw [hat, hdeal.others j hj, State.seriesAt_modSeries_other (Ne.symm hj)]

end Sys2Proof.Machine
end

section
/-! SUPPORT. CREATE_SERIES (R56 to R58). -/

namespace Sys2Proof.Machine

variable {s s1 t u v : State} {ref : HostRef} {tag : Byte} {id n : Nat} {f : SeriesForm} {x : Series}

/-! ### The refusals of R57 -/

/-- What R57 asks of a series before its id and its blocks, in order. -/
structure Creatable (s : State) (f : SeriesForm) : Prop where
  running : s.running = true
  quiet : s.catching = false
  form : seriesFormOk f = true
  inTable : (s.room f.room).inTable = true
  future : s.clock.minute ≤ f.firstStart
  length : 1 ≤ f.length ∧ f.length ≤ 1440
  ahead : f.firstStart ≤ s.clock.minute + 259200
  isOpen : (s.room f.room).service ≠ .closing
  food : f.template = none ∨ (s.room f.room).foodAllowed = true

/-- A length of 1 to 1,440 minutes is one that R57 step 6 takes once it is rounded up. -/
theorem length_out_of_range : ceilGrid f.length < 5 ∨ 1440 < ceilGrid f.length ↔ f.length = 0 ∨ 1440 < f.length := by
  rw [ceilGrid_eq]
  omega

theorem span_out_of_range : (ceilGrid f.length < 5 ∨ 1440 < ceilGrid f.length ∨ s.clock.minute + Config.ahead < f.firstStart) ↔
    f.length = 0 ∨ 1440 < f.length ∨ s.clock.minute + 259200 < f.firstStart := by
  rw [← or_assoc, length_out_of_range, or_assoc]
  rfl

theorem span_in_range (h1 : 1 ≤ f.length) (h2 : f.length ≤ 1440) (h3 : f.firstStart ≤ s.clock.minute + 259200) :
    ¬ (ceilGrid f.length < 5 ∨ 1440 < ceilGrid f.length ∨ s.clock.minute + Config.ahead < f.firstStart) := by
  rw [span_out_of_range]
  omega

theorem createSeries_eq (h : Creatable s f) : s.createSeries f = s.placeSeries f := by
  obtain ⟨hr, hc, hf, hin, hm, hlen, hahead, hopen, hfood⟩ := h
  have hallowed : ¬ (f.template.isSome = true ∧ (!(s.room f.room).foodAllowed) = true) := by
    rcases hfood with h | h <;> simp [h]
  simp only [State.createSeries, hr, hc, hf, hin, Bool.not_true, Bool.false_eq_true, if_false, if_neg (Nat.not_lt.mpr hm),
    if_neg (span_in_range hlen.1 hlen.2 hahead), if_neg hopen, if_neg hallowed]

/-- The refusals of R57 steps 1, 2 and 4 to 8, in their order. -/
theorem createSeries_refused (ht : s.taken (.createSeries tag f) = some (s1, ref)) {st : Status}
    (h : s1.createSeries f = refuse s1 st) : exec (.createSeries tag f) s = .next (s1.answered ref st []) :=
  taken_reads (owner := fun u => u.createSeries f) rfl ht h

/-! ### The series stored -/

/-- A live series has one of the 1,024 ids. -/
theorem lt_of_seriesAt (hs : s.shaped = true) (hx : s.seriesAt id = some x) : id < Config.seriesIds := by
  have hlen : s.series.list.length = Config.seriesIds := by simpa [State.ledger] using (shaped_iff.mp hs).series
  exact hlen ▸ (List.getElem?_eq_some_iff.mp (Option.join_eq_some_iff.mp hx)).1

/-- From `s` to `v` the series `x` has been stored under `id`, for which `n` blocks were taken. -/
structure Stored (id : Nat) (x : Series) (n : Nat) (s v : State) : Prop where
  own : v.seriesAt id = some x
  others : ∀ j, j ≠ id → v.seriesAt j = s.seriesAt j
  dir : v.dir = s.dir
  rooms : v.rooms = s.rooms
  outside : v.outside = s.outside
  blocks : v.store.freeCount + n = s.store.freeCount
  conserves : Conserves s v

/-- The blocks that a series takes are its own and one for its note (R20). -/
theorem length_seriesKinds (f : SeriesForm) : (seriesKinds f).length = if f.note.getD [] = [] then 1 else 2 := by
  have hn : storedNote f.note = f.note.getD [] := rfl
  by_cases h : f.note.getD [] = [] <;> simp [seriesKinds, hn, h]

theorem seriesOf_note (f : SeriesForm) (threshold : Nat) (bs : List Nat) :
    ((seriesOf f threshold bs).note.map Note.text).getD [] = f.note.getD [] := by
  have hn : storedNote f.note = f.note.getD [] := rfl
  by_cases h : f.note.getD [] = [] <;> simp [seriesOf, hn, h]

/-- The id taken is free, and every lower one holds a series (R56). -/
theorem freeSeries_lowest (h : s.freeSeries = some id) :
    s.series.list[id]? = some none ∧ ∀ j < id, s.seriesAt j ≠ none := by
  obtain ⟨hlt, hnone, hbefore⟩ := List.findIdx?_eq_some_iff_getElem.mp h
  refine ⟨by rw [List.getElem?_eq_getElem hlt, Option.isNone_iff_eq_none.mp hnone], fun j hj hnone => ?_⟩
  rw [State.seriesAt, List.getElem?_eq_getElem (Nat.lt_trans hj hlt)] at hnone
  exact hbefore j hj (Option.isNone_iff_eq_none.mpr hnone)

/-- The series `x` written under `id`. -/
def State.storeSeries (s : State) (id : Nat) (x : Series) : State :=
  { s with series := { s.series with list := s.series.list.set id (some x) } }

theorem stored_storeSeries {c : AllocClass} {bs : List Nat} (hid : s.freeSeries = some id)
    (ha : s.allocate c (seriesKinds f) = some (u, bs)) (threshold : Nat) :
    Stored id (seriesOf f threshold bs) (seriesKinds f).length s (u.storeSeries id (seriesOf f threshold bs)) := by
  obtain ⟨hlt, -⟩ := List.getElem?_eq_some_iff.mp (freeSeries_lowest hid).1
  obtain ⟨hadm, -, hstore, hu⟩ := allocate_some ha
  have hlist : u.series.list = s.series.list := by rw [hu]
  refine ⟨?_, fun j hj => ?_, ?_, ?_, ?_, ?_, conserves_storeSeries hid ha⟩
  · simp only [State.seriesAt, State.storeSeries, hlist, List.getElem?_set_self hlt]
    rfl
  · simp only [State.seriesAt, State.storeSeries, hlist, List.getElem?_set_ne (Ne.symm hj)]
  · show u.dir = s.dir
    rw [hu]
  · show u.rooms = s.rooms
    rw [hu]
  · exact (outside_allocate ha : u.outside = s.outside)
  · show u.store.freeCount + _ = _
    rw [hstore, foldl_takeOne_freeCount]
    exact Nat.sub_add_cancel (AllocClass.le_of_admits hadm)

/-- The contents of the answer before the handles (R58). -/
def seriesHead (id : Nat) (f : SeriesForm) (x : Series) (threshold : Nat) : List Field :=
  [u16 id, minuteField x.firstStart, u16 x.length, flagField (x.firstStart ≠ f.firstStart), flagField (x.length ≠ f.length),
    u8 x.threshold, flagField (x.threshold ≠ threshold)]

theorem placeSeries_eq {bs : List Nat} {threshold : Nat} (hid : s.freeSeries = some id)
    (ha : s.allocate (.host (seriesKinds f).length) (seriesKinds f) = some (u, bs))
    (hthreshold : f.threshold.getD s.policyRec.threshold = threshold) :
    let x := seriesOf f threshold bs
    let d := (u.storeSeries id x).dealSeries s.clock.minute s.horizonDay 0 id
    s.placeSeries f = ⟨d.state, .ok, seriesHead id f x threshold ++ d.report id⟩ := by
  subst hthreshold
  unfold State.placeSeries
  rw [hid]
  dsimp only
  split
  · rename_i hnone
    exact nomatch hnone.symm.trans ha
  · rename_i hsome
    obtain ⟨rfl, rfl⟩ := Prod.mk.inj (Option.some.inj (hsome.symm.trans ha))
    simp only [Dealt.report, List.append_assoc]
    rfl

/-- A CREATE_SERIES with a free id and blocks above the reserve: the series is stored, and its occurrences are dealt with
(R57, R58). -/
theorem createSeries_deals (ht : s.taken (.createSeries tag f) = some (s1, ref)) (h : Creatable s1 f)
    (hid : s1.freeSeries = some id) (hspace : 64 + (if f.note.getD [] = [] then 1 else 2) ≤ s1.store.freeCount) :
    ∃ bs v t head, Stored id (seriesOf f (f.threshold.getD s1.policyRec.threshold) bs)
        (if f.note.getD [] = [] then 1 else 2) s1 v ∧
      exec (.createSeries tag f) s = .next t ∧
      Closed ref .ok (head ++ (v.dealSeries s1.clock.minute s1.horizonDay 0 id).report id)
        (v.dealSeries s1.clock.minute s1.horizonDay 0 id).state t := by
  rw [← length_seriesKinds] at hspace ⊢
  have ha := allocate_of_admits (s := s1) (ks := seriesKinds f) (admits_host.mpr ⟨hspace, hspace⟩)
  obtain ⟨t, hexec, hclosed⟩ := taken_closed (owner := fun u => u.createSeries f) rfl ht
    ((createSeries_eq h).trans (placeSeries_eq hid ha rfl))
  exact ⟨_, _, t, _, stored_storeSeries hid ha _, hexec, hclosed⟩

/-- The occurrences of a series just stored, in a part whose tables and FIFO are right. -/
theorem Stored.deals (h : Stored id x n s v) (hs : s.shaped = true) (hf : s.fifoRight) (hroom : x.room < Config.rooms)
    (hper : 1 ≤ x.period) (now target lapse : Nat) :
    Dealing id target lapse x v (v.dealSeries now target lapse id) ∧ Booked id x v (v.dealSeries now target lapse id) ∧
      ∀ y, (v.dealSeries now target lapse id).state.seriesAt id = some y → y.state ≠ .active ∨ target < dayOf y.nextStart := by
  have hshaped := shaped_iff.mpr (h.conserves.shaped (shaped_iff.mp hs))
  have hfifo : v.fifoRight := by simpa only [State.fifoRight, State.bookingAt, h.dir] using hf
  obtain ⟨hdeal, hbooked⟩ := booked_dealSeries h.own hshaped hfifo hroom (lt_of_seriesAt hshaped h.own) now target lapse
  exact ⟨hdeal, hbooked, fun y hy => dealSeries_exhausts h.own hper hy⟩

/-! ### The statement -/

theorem room_period_of_form (hf : seriesFormOk f = true) : f.room < Config.rooms ∧ 1 ≤ f.period := by
  simp only [seriesFormOk, Bool.and_eq_true, decide_eq_true_eq] at hf
  obtain ⟨⟨⟨⟨⟨⟨hroom, hperiod⟩, -⟩, -⟩, -⟩, -⟩, -⟩ := hf
  exact ⟨hroom, hperiod⟩

/-- A first occurrence beyond the horizon: nothing is dealt with, and the answer is given from the stored state (R58). -/
theorem createSeries_beyond (ht : s.taken (.createSeries tag f) = some (s1, ref)) (h : Creatable s1 f)
    (hid : s1.freeSeries = some id) (hspace : 64 + (if f.note.getD [] = [] then 1 else 2) ≤ s1.store.freeCount)
    (hbeyond : s1.clock.minute / 1440 + 28 < (f.firstStart - f.firstStart % 5) / 1440) :
    ∃ bs v t body, Stored id (seriesOf f (f.threshold.getD s1.policyRec.threshold) bs)
        (if f.note.getD [] = [] then 1 else 2) s1 v ∧
      exec (.createSeries tag f) s = .next t ∧ Closed ref .ok body v t := by
  obtain ⟨bs, v, t, head, hstored, hexec, hclosed⟩ := createSeries_deals ht h hid hspace
  rw [dealSeries_idle fun y hy => by
    obtain rfl := Option.some.inj (hstored.own.symm.trans hy)
    exact .inr hbeyond] at hclosed
  exact ⟨bs, v, t, _, hstored, hexec, hclosed⟩

/-- Dealing from minute 0 on lets no occurrence lapse. -/
theorem Dealing.lapsed_eq_zero {target : Nat} {d : Dealt} (h : Dealing id target 0 x v d) : d.lapsed = 0 :=
  Nat.eq_zero_of_not_pos fun hpos => Nat.not_lt_zero _ (h.lapses 0 hpos)

/-- Settles O24: after its refusals in order, the series written is dealt with up to the horizon. -/
theorem seriesCreated : Obligations.SeriesCreated := by
  intro s s1 ref tag f ht
  refine ⟨fun hr => createSeries_refused ht (by simp [State.createSeries, hr]),
    fun hr hc => createSeries_refused ht (by simp [State.createSeries, hr, hc]), fun hr hc hf =>
    ⟨fun hin => createSeries_refused ht (by simp [State.createSeries, hr, hc, hf, hin]),
      fun hin hm => createSeries_refused ht (by simp [State.createSeries, hr, hc, hf, hin, hm]), fun hin hm =>
      ⟨fun hspan => createSeries_refused ht ?_, fun hpos hle hahead => ⟨fun hclosing => createSeries_refused ht ?_,
        fun hopen => ⟨fun htemplate hfood => createSeries_refused ht ?_, fun hfood id hid hspace hbeyond => ?_,
          fun hfood id first hid hspace hs hfifo hfirst hdue => ?_⟩⟩⟩⟩⟩
  · simp only [State.createSeries, hr, hc, hf, hin, Bool.not_true, Bool.false_eq_true, if_false, if_neg (Nat.not_lt.mpr hm),
      if_pos (span_out_of_range.mpr hspan)]
  · simp only [State.createSeries, hr, hc, hf, hin, Bool.not_true, Bool.false_eq_true, if_false, if_neg (Nat.not_lt.mpr hm),
      if_neg (span_in_range hpos hle hahead), if_pos hclosing]
  · simp only [State.createSeries, hr, hc, hf, hin, Bool.not_true, Bool.false_eq_true, if_false, if_neg (Nat.not_lt.mpr hm),
      if_neg (span_in_range hpos hle hahead), if_neg hopen, htemplate, hfood, Bool.not_false, and_self, if_true]
  · obtain ⟨bs, v, t, body, hstored, hexec, hclosed⟩ :=
      createSeries_beyond ht ⟨hr, hc, hf, hin, hm, ⟨hpos, hle⟩, hahead, hopen, hfood⟩ hid hspace hbeyond
    have hat (j : Nat) : t.seriesAt j = v.seriesAt j := seriesAt_congr (congrArg SeriesUnit.list hclosed.series) j
    refine ⟨t, _, body, hexec, (hat id).trans hstored.own, (freeSeries_lowest hid).2, rfl, rfl, rfl, ceilGrid_eq _, rfl, rfl,
      rfl, rfl, rfl, rfl, rfl, rfl, rfl, rfl, rfl, seriesOf_note .., fun j hj => (hat j).trans (hstored.others j hj),
      hclosed.dir.trans hstored.dir, hclosed.rooms.trans hstored.rooms, ?_,
      hclosed.link.trans (answer_link_congr (link_of_outside hstored.outside) _ _)⟩
    rw [hclosed.store]
    exact hstored.blocks
  · subst hfirst
    obtain ⟨hroom, hper⟩ := room_period_of_form hf
    obtain ⟨bs, v, t, head, hstored, hexec, hclosed⟩ :=
      createSeries_deals ht ⟨hr, hc, hf, hin, hm, ⟨hpos, hle⟩, hahead, hopen, hfood⟩ hid hspace
    obtain ⟨hdeal, hbooked, hdone⟩ := hstored.deals hs hfifo hroom hper s1.clock.minute s1.horizonDay 0
    have hout : (v.dealSeries s1.clock.minute s1.horizonDay 0 id).state.outside = s1.outside :=
      (outside_dealSeries ..).trans hstored.outside
    generalize v.dealSeries s1.clock.minute s1.horizonDay 0 id = d at hdeal hbooked hdone hclosed hout
    rw [report_eq hdeal.own] at hclosed
    have hat (j : Nat) : t.seriesAt j = d.state.seriesAt j := seriesAt_congr (congrArg SeriesUnit.list hclosed.series) j
    have hlapsed := hdeal.lapsed_eq_zero
    refine ⟨t, _, d.made, d.skipped, d.total, head, hexec, (hat id).trans hdeal.own, ?_, rfl, rfl, rfl, rfl,
      hdeal.standing rfl hdone, hdeal.due, ?_, ?_, rfl, rfl, hbooked.nodup (hstored.dir ▸ hfifo.1), fun h hh => ?_, ?_,
      fun j hj => ?_, hclosed.link.trans (answer_link_congr (link_of_outside hout) _ _)⟩
    · rw [Dealt.total, hlapsed, Nat.zero_add]
    · exact (saturate_iterate (Nat.zero_le 255) _).trans (by rw [Nat.zero_add])
    · simp [Series.dealt, seriesOf]
    · obtain ⟨b, k, hb, hhandle, hbroom, hseries, hsource, -, hk, hstart, hend, hmem⟩ :=
        (hbooked.stands h hh).read hclosed.dir hclosed.rooms
      exact ⟨b, k, hb, hhandle, hbroom, hseries, hsource, hk, hstart, hend.trans (by rw [← ceilGrid_eq]; rfl), hmem⟩
    · rw [hclosed.dir, hbooked.refs, hstored.dir]
    · rw [hat, hdeal.others j hj, hstored.others j hj]

end Sys2Proof.Machine
end

section
/-! SUPPORT. The cancel pass of a series (R64), and what it does to an occurrence (R36, R51, R148). -/

namespace Sys2Proof.Machine

variable {s t u v : State} {id e j : Nat} {rest : List Nat} {b x : Booking} {o : Order} {h : Handle} {k : ExitKind}

/-! ### The order of a booking that leaves the active states -/

theorem orderAt_of_booking (hb : s.bookingAt j = some b) : s.orderAt j = b.order := by simp [State.orderAt, hb]

/-- An order not yet committed is VOIDED by an exit of its booking (R148). -/
theorem exitOrder_voids (hb : s.bookingAt h.idx = some b) (ho : b.order = some o)
    (hs : o.state = .requested ∨ o.state = .unplaced ∨ o.state = .planned) (k : ExitKind) :
    ((s.exitOrder h k).orderAt h.idx).map Order.state = some .voided := by
  have hat : s.orderAt h.idx = some o := (orderAt_of_booking hb).trans ho
  have he : s.exitOrder h k = s.voidOrder h := by
    rcases hs with hs | hs | hs <;> simp [State.exitOrder, hat, hs]
  have hnew : (s.voidOrder h).bookingAt h.idx = some { b with order := b.order.map fun o =>
      { o with state := .voided, kitchen := none, window := none, ready := none, commit := none } } := by
    refine (State.bookingAt_modOrder_same ..).trans ?_
    rw [bookingAt_unplan, hb]
    rfl
  rw [he, orderAt_of_booking hnew, ho]
  rfl

/-- A COMMITTED order is STRANDED by a cancel that the part makes (R148). -/
theorem exitOrder_strands (hb : s.bookingAt h.idx = some b) (ho : b.order = some o) (hs : o.state = .committed) :
    ((s.exitOrder h .partCancel).orderAt h.idx).map Order.state = some .stranded := by
  have hat : s.orderAt h.idx = some o := (orderAt_of_booking hb).trans ho
  have he : s.exitOrder h .partCancel = (s.modOrder h.idx fun o => { o with state := .stranded }).cateringFailure h.idx := by
    simp [State.exitOrder, hat, hs, State.strand]
  have hnew : ((s.modOrder h.idx fun o => { o with state := .stranded }).cateringFailure h.idx).bookingAt h.idx =
      some { b with order := b.order.map fun o => { o with state := .stranded }, mark := true } := by
    refine (State.bookingAt_modBooking_same (s := s.modOrder h.idx _) ..).trans ?_
    rw [State.bookingAt_modOrder_same, hb]
    rfl
  rw [he, orderAt_of_booking hnew, ho]
  rfl

/-! ### An occurrence cancelled -/

theorem exitSeries_of_ne (link : Option Nat) (hk : k ≠ .release) : s.exitSeries link k = s := by
  cases link with
  | none => rfl
  | some id => exact if_neg hk

theorem series_returnChannel (s : State) (j : Nat) : (s.returnChannel j).series = s.series := by
  unfold State.returnChannel
  split
  · rfl
  · split
    · rfl
    · dsimp only
      split <;> rfl

/-- Only a release is heard of by the Series Unit (R36 step 4). -/
theorem series_leaveActive (s : State) (j : Nat) (hk : k ≠ .release) : (s.leaveActive j k).series = s.series := by
  cases hb : s.bookingAt j with
  | none => simp [State.leaveActive, hb]
  | some b => rw [leaveActive_eq hb, exitSeries_of_ne _ hk, (reordered_exitOrder ..).series, series_returnChannel]; rfl

/-- The occurrence written CANCELLED and marked, before it leaves its timeline. -/
def State.writeCancelled (s : State) (i : Nat) : State :=
  (s.modBooking i fun b => { b with state := .cancelled }).markBooking i

theorem bookingAt_writeCancelled (hb : s.bookingAt j = some b) :
    (s.writeCancelled j).bookingAt j = some { b with state := .cancelled, mark := true } := by
  refine (State.bookingAt_modBooking_same (s := s.modBooking j _) ..).trans ?_
  rw [State.bookingAt_modBooking_same, hb]
  rfl

/-- From `s` to `t` the occurrence `b` has been cancelled (R51, R64): it and its order, its place on the timeline and CHANGED
have changed, and neither another booking nor the series. -/
structure Cancelled (b : Booking) (s t : State) : Prop where
  own : ∃ x, t.bookingAt b.handle.idx = some x ∧ x.state = .cancelled ∧ x.mark = true ∧ x.timer = none
  off : b.handle ∉ (t.room b.room).timeline
  voided : ∀ o, b.order = some o → o.state = .requested ∨ o.state = .unplaced ∨ o.state = .planned →
    (t.orderAt b.handle.idx).map Order.state = some .voided
  stranded : ∀ o, b.order = some o → o.state = .committed → (t.orderAt b.handle.idx).map Order.state = some .stranded
  changed : t.notice.changed = .raised
  others : ∀ i, i ≠ b.handle.idx → t.bookingAt i = s.bookingAt i
  series : t.series = s.series

theorem cancelled_cancelOccurrence (hb : s.bookingAt b.handle.idx = some b) :
    Cancelled b s (s.cancelOccurrence b.handle.idx) := by
  have hwritten := bookingAt_writeCancelled hb
  have hleft : ((s.writeCancelled b.handle.idx).takeOffTimeline b.room b.handle).bookingAt b.handle.idx =
      some { b with state := .cancelled, mark := true } := hwritten
  have hfreed := bookingAt_returnChannel hleft
  have hexit : s.cancelOccurrence b.handle.idx =
      (((s.writeCancelled b.handle.idx).takeOffTimeline b.room b.handle).returnChannel b.handle.idx).exitOrder b.handle
        .partCancel :=
    (leaveActive_eq hwritten).trans (exitSeries_of_ne _ (by decide))
  refine ⟨?_, not_mem_leaveActive (b := { b with state := .cancelled, mark := true }) hwritten,
    fun o ho hs => ?_, fun o ho hs => ?_, changed_leaveActive rfl, fun i hi => ?_, ?_⟩
  · obtain ⟨x, hx, m, o, hm, rfl⟩ := some_of_rel (exits_marked (k := .partCancel)
      (f := fun x => { x with state := .cancelled }) hb rfl rfl rfl rfl rfl rfl).own rfl
    exact ⟨_, hx, rfl, hm rfl, rfl⟩
  · rw [hexit]
    exact exitOrder_voids (h := b.handle) hfreed ho hs _
  · rw [hexit]
    exact exitOrder_strands (h := b.handle) hfreed ho hs
  · refine (bookingAt_leaveActive_other hwritten rfl hi).trans ?_
    exact (State.bookingAt_modBooking_other (Ne.symm hi)).trans (State.bookingAt_modBooking_other (Ne.symm hi))
  · exact series_leaveActive _ _ (by decide)

/-! ### The steps of the pass -/

theorem passVisit_booked (hb : s.bookingAt e = some b) (hs : b.series = some id) (hst : b.state = .booked) :
    s.passVisit id e = s.cancelOccurrence e := by simp [State.passVisit, hb, hs, hst]

theorem passVisit_left (h : ∀ b, s.bookingAt e = some b → b.series ≠ some id ∨ b.state ≠ .booked) :
    s.passVisit id e = s := by
  unfold State.passVisit
  split
  · rename_i b hb
    exact if_neg fun hboth => (h b hb).elim (· hboth.1) (· hboth.2)
  · rfl

theorem series_passVisit (s : State) (id e : Nat) : (s.passVisit id e).series = s.series := by
  unfold State.passVisit
  split
  · split
    · exact series_leaveActive _ _ (by decide)
    · rfl
  · rfl

/-- The pass for the head of the queue begins in the step that finds none running (log 33). -/
theorem beginPass_idle (hp : s.series.pass = none) (hq : s.series.passQueue = id :: rest) :
    s.beginPass = { s with series := { s.series with pass := some ⟨id, 0⟩, passQueue := rest } } := by
  simp only [State.beginPass, hp, hq]

theorem cancelPassStep_eq {p : CancelPass} (h : s.beginPass.series.pass = some p) :
    exec .cancelPassStep s = doneLists s (s.beginPass.passStep p) := by
  show execCancelPassStep s = _
  simp only [execCancelPassStep, h]

theorem cancelPassStep_running {p : CancelPass} (h : s.series.pass = some p) :
    exec .cancelPassStep s = doneLists s (s.passStep p) := by
  have hsame : s.beginPass = s := by simp only [State.beginPass, h]
  rw [cancelPassStep_eq (hsame.symm ▸ h), hsame]

theorem passStep_before (he : e < 8191) (s : State) (id : Nat) : s.passStep ⟨id, e⟩ =
    { s.passVisit id e with series := { s.series with pass := some ⟨id, e + 1⟩ } } := by
  have hlt : e + 1 < Config.handles := by
    show e + 1 < 8192
    omega
  simp only [State.passStep, if_pos hlt, series_passVisit]

/-- The pass of the next id begins, when there is one (R64). -/
def SeriesUnit.nextPass (u : SeriesUnit) : SeriesUnit :=
  { u with pass := u.passQueue.head?.map fun n => ⟨n, 0⟩, passQueue := u.passQueue.drop 1 }

/-- The Series Unit once the pass of a series has visited every entry (R64). -/
def State.passedSeries (s : State) (id : Nat) : SeriesUnit :=
  (s.modSeries id fun x => { x with passOwed := false }).series.nextPass

theorem beginPass_next (s : State) :
    ({ s with series := { s.series with pass := none } } : State).beginPass = { s with series := s.series.nextPass } := by
  cases hq : s.series.passQueue <;> simp [State.beginPass, SeriesUnit.nextPass, hq]

theorem passStep_last (s : State) (id : Nat) :
    s.passStep ⟨id, 8191⟩ = { s.passVisit id 8191 with series := s.passedSeries id } := by
  have hlt : ¬ 8191 + 1 < Config.handles := by decide
  simp only [State.passStep, if_neg hlt]
  rw [beginPass_next]
  simp only [State.passedSeries, State.modSeries, series_passVisit]

theorem seriesAt_passed (ht : t.series = s.passedSeries id) :
    t.seriesAt j = (s.modSeries id fun x => { x with passOwed := false }).seriesAt j :=
  seriesAt_congr (by rw [ht]; rfl) j

theorem seriesAt_passed_same {y : Series} (ht : t.series = s.passedSeries id) (hy : s.seriesAt id = some y) :
    t.seriesAt id = some { y with passOwed := false } := by
  rw [seriesAt_passed ht, State.seriesAt_modSeries_same, hy]
  rfl

/-- What a step of the pass leaves of the records that its visit leaves, whatever the Series Unit then holds. -/
theorem doneLists_withSeries (s v : State) (r : SeriesUnit) : ∃ t, doneLists s { v with series := r } = .next t ∧
    t.series = r ∧ t.dir = v.dir ∧ t.rooms = v.rooms ∧ t.notice = v.notice := by
  refine ⟨_, rfl, ?_, ?_, ?_, ?_⟩
  · rw [State.followAttn_series, relist_series]
  · rw [State.followAttn_dir, relist_dir]
  · rw [State.followAttn_rooms, relist_rooms]
  · rw [State.followAttn_notice, relist_notice]

/-! ### The statement -/

/-- What the pass leaves of an occurrence that it cancels, in the step's own state. -/
theorem Cancelled.read (hc : Cancelled b s v) (hd : t.dir = v.dir) (hr : t.rooms = v.rooms) (hn : t.notice = v.notice) :
    ∃ x, t.bookingAt b.handle.idx = some x ∧ x.state = .cancelled ∧ x.mark = true ∧ x.timer = none ∧
      b.handle ∉ (t.room b.room).timeline ∧
      (∀ o, b.order = some o → o.state = .requested ∨ o.state = .unplaced ∨ o.state = .planned →
        x.order.map Order.state = some .voided) ∧
      (∀ o, b.order = some o → o.state = .committed → x.order.map Order.state = some .stranded) ∧
      t.notice.changed = ⟨true, false⟩ ∧ ∀ j, j ≠ b.handle.idx → t.bookingAt j = s.bookingAt j := by
  obtain ⟨x, hx, hst, hmark, htimer⟩ := hc.own
  refine ⟨x, (State.bookingAt_congr hd _).trans hx, hst, hmark, htimer, ?_, fun o ho hs => ?_, fun o ho hs => ?_, ?_,
    fun j hj => (State.bookingAt_congr hd j).trans (hc.others j hj)⟩
  · rw [room_congr hr]
    exact hc.off
  · rw [← orderAt_of_booking hx]
    exact hc.voided o ho hs
  · rw [← orderAt_of_booking hx]
    exact hc.stranded o ho hs
  · rw [hn]
    exact hc.changed

/-- Settles O27: a visit cancels what it finds BOOKED of its series, and the pass moves on or ends. -/
theorem cancelPassWithdrawsOccurrences : Obligations.CancelPassWithdrawsOccurrences := by
  intro s id e
  refine ⟨fun rest hp hq hnone => ?_, fun hp => ⟨fun b he hb hidx hs hst => ?_, fun he hleft => ?_, fun x he hx => ?_⟩⟩
  · have hbegin := beginPass_idle hp hq
    have hempty : s.beginPass.bookingAt 0 = none := (State.bookingAt_congr (by rw [hbegin]) 0).trans hnone
    rw [cancelPassStep_eq (p := ⟨id, 0⟩) (by rw [hbegin]), passStep_before (by decide),
      passVisit_left fun b hb => nomatch hempty.symm.trans hb]
    generalize s.beginPass = v at hbegin
    subst hbegin
    exact doneLists_of_congr rfl rfl rfl
  · subst hidx
    have hc : Cancelled b s (s.passVisit id b.handle.idx) :=
      passVisit_booked hb hs hst ▸ cancelled_cancelOccurrence hb
    rw [cancelPassStep_running hp]
    rcases Nat.lt_or_eq_of_le he with hlt | heq
    · rw [passStep_before hlt]
      obtain ⟨t, ht, hseries, hd, hr, hn⟩ := doneLists_withSeries s (s.passVisit id b.handle.idx)
        { s.series with pass := some ⟨id, b.handle.idx + 1⟩ }
      obtain ⟨x, hx⟩ := hc.read hd hr hn
      exact ⟨t, x, ht, fun _ => hseries, fun h => by omega, hx⟩
    · have hstep : s.passStep ⟨id, b.handle.idx⟩ =
          { s.passVisit id b.handle.idx with series := s.passedSeries id } := by rw [heq, passStep_last]
      rw [hstep]
      obtain ⟨t, ht, hseries, hd, hr, hn⟩ := doneLists_withSeries s (s.passVisit id b.handle.idx) (s.passedSeries id)
      obtain ⟨x, hx⟩ := hc.read hd hr hn
      refine ⟨t, x, ht, fun h => by omega, fun _ => ⟨by rw [hseries]; rfl, by rw [hseries]; rfl, fun y hy => ?_,
        fun j hj => ?_⟩, hx⟩
      · exact seriesAt_passed_same hseries hy
      · exact (seriesAt_passed hseries).trans (State.seriesAt_modSeries_other (Ne.symm hj))
  · rw [cancelPassStep_running hp, passStep_before he, passVisit_left hleft]
    exact doneLists_of_congr rfl rfl rfl
  · subst he
    rw [cancelPassStep_running hp, passStep_last]
    obtain ⟨t, ht, hseries, -⟩ := doneLists_withSeries s (s.passVisit id 8191) (s.passedSeries id)
    exact ⟨t, _, ht, seriesAt_passed_same hseries hx, rfl, by rw [hseries]; rfl⟩

end Sys2Proof.Machine
end
